-- ==== Sys2Proof/Word.lean ====
section
/-! DEFINITION. The one machine word of the part's two serial interfaces: the byte. Everything else the manual counts
(lux-seconds, seconds, levels, closures) is exact integer arithmetic (00_scope, "Arithmetic") and is a `Nat` or an `Int`. -/

namespace Sys2Proof

/-- A byte on the host UART (R159) or on a field line (R133). -/
abbrev Byte := BitVec 8

end Sys2Proof
end

