-- ==== Sys2Proof/Syntax.lean ====
section
/-! DEFINITION. The commands of the part: one constructor for each row of spec/opcode_table.json, with its operands. -/

namespace Sys2Proof

/-- The two termination sense inputs, as a start reads them (R136, R167). -/
structure TermSense where
  line1 : Bool
  line2 : Bool
  deriving DecidableEq, Repr

/-- One byte on a field line, after its start bit: its eight data bits, its parity bit and its stop bit, a stop bit that is
true being the idle level (R132). -/
structure FieldByte where
  data : Byte
  parity : Bool
  stop : Bool
  deriving DecidableEq, Repr

/-- A command of the part. A HOST REQUEST carries the tag and the raw body bytes of the frame it came in: whether the
body has the form of the request is itself a check of its handling (R162). An EVENT carries the number of the zone, bank,
plant or line whose event it is. The four commands in which a start can begin carry the levels of the termination sense
inputs, which that start reads; they are not used where no start begins. -/
inductive Instr where
  -- host requests, in the order of the catalogue of R165
  | identify (tag : Byte) (body : List Byte)
  | timeSet (tag : Byte) (body : List Byte)
  | timeRead (tag : Byte) (body : List Byte)
  | zoneDefine (tag : Byte) (body : List Byte)
  | zoneBind (tag : Byte) (body : List Byte)
  | zoneOpen (tag : Byte) (body : List Byte)
  | zoneClose (tag : Byte) (body : List Byte)
  | zoneRead (tag : Byte) (body : List Byte)
  | marksClear (tag : Byte) (body : List Byte)
  | seasonBegin (tag : Byte) (body : List Byte)
  | seasonEnd (tag : Byte) (body : List Byte)
  | accountRead (tag : Byte) (body : List Byte)
  | accountAdjust (tag : Byte) (body : List Byte)
  | climateBand (tag : Byte) (body : List Byte)
  | historyRead (tag : Byte) (body : List Byte)
  | occupancy (tag : Byte) (body : List Byte)
  | bankDefine (tag : Byte) (body : List Byte)
  | bankRead (tag : Byte) (body : List Byte)
  | plantDefine (tag : Byte) (body : List Byte)
  | plantHold (tag : Byte) (body : List Byte)
  | plantRelease (tag : Byte) (body : List Byte)
  | plantRead (tag : Byte) (body : List Byte)
  | lineSet (tag : Byte) (body : List Byte)
  | lineEnrol (tag : Byte) (body : List Byte)
  | lineEnable (tag : Byte) (body : List Byte)
  | lineRead (tag : Byte) (body : List Byte)
  | deviceRead (tag : Byte) (body : List Byte)
  | deviceRetire (tag : Byte) (body : List Byte)
  | reportSet (tag : Byte) (body : List Byte)
  | checkpointNow (tag : Byte) (body : List Byte)
  | restart (tag : Byte) (body : List Byte)
  | unknownRequestKind (kind tag : Byte) (body : List Byte)
  -- the host link
  | frameReceived (tag kind : Byte) (body : List Byte)
  | frameGapExpiry
  | outputFrameSent (sense : TermSense)
  -- the clock
  | clockTick
  | hourRollover (zone : Nat)
  -- zones, banks and plants
  | lightSample (zone : Nat)
  | lightReview (zone : Nat)
  | climateReview (zone : Nat)
  | pulseEndExpiry (zone : Nat)
  | bankStep (bank : Nat)
  | minimumRunExpiry (plant : Nat)
  | changeoverTimerExpiry (plant : Nat)
  -- field lines
  | roundTimerExpiry (line : Nat)
  | transactionTakeUp (line : Nat)
  | attemptRetry (line : Nat)
  | enrolProbeSend (line : Nat)
  | replyComplete (line : Nat) (bytes : List FieldByte)
  | replyTimeout (line : Nat) (bytes : List FieldByte)
  | hangDetected (line : Nat)
  | releaseEnd (line : Nat)
  | recoveryWaitExpiry (line : Nat)
  -- alarm line, store, supply, reset input, UART
  | alarmPulseEnd
  | checkpointTimerExpiry
  | recordWriteEnd (readBackAgrees : Bool) (sense : TermSense)
  | powerOn (sense : TermSense)
  | powerFail
  | resetInputAssert
  | resetInputRelease (sense : TermSense)
  | uartByteReceived (data : Byte) (stopBit : Bool)
  deriving DecidableEq, Repr

end Sys2Proof
end

