-- ==== Sys2Proof/Config.lean ====
section
/-! DEFINITION. The capacities and periods the manual fixes for every SZ416, and the free values: choices the manual
leaves open, as constants without a body, so that nothing can be proved of what they are. -/

namespace Sys2Proof.Config

/-- The greatest used dose, 2^40 - 1 lux-seconds (R20). -/
def doseLimit : Nat := 1099511627775
/-- The greatest value of a 32-bit count: clock, open seconds, arrival counter (R12, R20, R83). -/
def count32Max : Nat := 4294967295
/-- Seconds of one hour of the clock (R12). -/
def hourSeconds : Nat := 3600
/-- Zone timers (R10). -/
def samplePeriod : Nat := 10
def lightReviewPeriod : Nat := 60
def climateReviewPeriod : Nat := 60
/-- The longest elapsed time one light sample charges, and the time charged where none can be measured (R22). -/
def elapsedMax : Nat := 60
def elapsedDefault : Nat := 10
/-- The cap on the UV weight (R24). -/
def uvWeightMax : Nat := 4096
/-- A reading is fresh, and a channel is not yet BLIND, within this many seconds (R107, R110). -/
def freshSeconds : Nat := 30
/-- The trim pulse (R71). -/
def pulseSeconds : Nat := 300
/-- The trim count of a zone without a band, which is also the default allowance (R1, R60). -/
def defaultTrimAllowance : Nat := 4
/-- How many hours back the swing looks (R66). -/
def windowHours : Nat := 23
/-- The bank step timer (R53) and the default slew (R51). -/
def bankPeriod : Nat := 30
def defaultSlew : Nat := 10
/-- Minimum run (R91) and changeover (R92). -/
def minimumRun : Nat := 600
def changeoverSeconds : Nat := 120
/-- Field line rounds (R139) and the recovery wait (R144). -/
def roundSeconds : Nat := 2
def recoverySeconds : Nat := 2
def lastAddress : Nat := 126
def defaultRetryLimit : Nat := 3
/-- The device table (R118) and the fault threshold (R123). -/
def deviceCapacity : Nat := 64
def actuatorsPerLine : Nat := 16
def faultThreshold : Nat := 3
def failuresMax : Nat := 255
/-- The notice queue (R151), the intake and the reply queue (R161). -/
def noticeCapacity : Nat := 32
def intakeCapacity : Nat := 4
def replyCapacity : Nat := 8
/-- Zones under one bank (R52), visitors (R114). -/
def zonesPerBank : Nat := 4
def occupancyMax : Nat := 9999
/-- The checkpoint timer (R169). -/
def checkpointPeriod : Nat := 900

/-- FREE VALUE. R164: where a reply and a notice both become available while the output is idle, either may be taken
first. The argument is the model's counter of free values (log entry 12). -/
opaque replyTakenFirst : Nat → Bool

/-- FREE VALUE. Whether a request that waits in the intake and may be taken up is taken up within the event at hand or after it.
R161 gives its taking up no moment, and lets a frame that completes meet the freeing of a place in either order (log entry 3). -/
opaque takenUpNow : Nat → Bool

/-- FREE VALUE. The level of the alarm output while the reset input is held low, which no rule gives (log entry 17). -/
opaque alarmWhileReset : Nat → Bool

/-- FREE VALUE. Whether the new content is in place of a store record that is being written at the moment the start of a
RESTART begins, which no rule gives. Where it is not, the old content stays: R168 lists when a record fails its check, and
this is no such case (log entry 19). -/
opaque writtenAtRestart : Nat → Bool

end Sys2Proof.Config
end

