-- ==== Sys2Proof/Machine/State.lean ====
section
/-! DEFINITION. The state of the part: every record the manual's chapters open with, as plain data, the nonvolatile store,
the queue of waiting commands, and the state after reset. A record that the manual calls UNSET (a zone, a bank, a plant)
is an absent entry of its table, since an UNSET record holds nothing but its number and its fixed values. -/

namespace Sys2Proof.Machine

/-! ## Named values, each in the order of the list that first gives the set (R159) -/

/-- R2. -/
inductive Policy where
  | visibility | budget
  deriving DecidableEq, Repr

/-- The condition of the light governor (R37). -/
inductive Condition where
  | free | within | pressure | restricted | exhausted | dark
  deriving DecidableEq, Repr

/-- The duties of a plant (R82), with the codes of R133. -/
inductive Duty where
  | neutral | humidify | dry | heat | cool
  deriving DecidableEq, Repr

/-- The classification of RH or of temperature (R59, R64). -/
inductive BandState where
  | unclassified | inBand | driftLow | driftHigh | outLow | outHigh
  deriving DecidableEq, Repr

/-- The direction of a trim pulse (R59). -/
inductive TrimDir where
  | humidify | dry
  deriving DecidableEq, Repr

/-- The eleven marks, in the order of R17. -/
inductive Mark where
  | rhOut | rhSwing | tempOut | lightPressure | exhausted | blindLight | blindClimate | unresolved | accountGap
  | accountLost | saturated
  deriving DecidableEq, Repr

/-- The quantity class of a binding entry, and the channel it feeds (R105). -/
inductive QuantityClass where
  | light | climate
  deriving DecidableEq, Repr

/-- The kinds of field device, in the order of their IDENT codes 1..7 (R116, R133). -/
inductive DeviceKind where
  | lightSensor | climateSensor | lightClimateSensor | dimmer | louvre | trimUnit | plantController
  deriving DecidableEq, Repr

/-- R117. -/
inductive DeviceState where
  | enrolled | active | suspect | faulted | absent
  deriving DecidableEq, Repr

/-- Why an attempt or a device failed (R123, R126). -/
inductive FaultReason where
  | noReply | garbled | wrongReply | wrongKind
  deriving DecidableEq, Repr

/-- The state of a defined plant (R82); an UNSET plant is an absent record. -/
inductive PlantState where
  | idle | changeover | running | held | faulted
  deriving DecidableEq, Repr

/-- Why a plant faulted (R95). -/
inductive PlantFaultReason where
  | commandFailed | deviceFaulted
  deriving DecidableEq, Repr

/-- The state of a defined bank (R50); an UNSET bank is an absent record. -/
inductive BankState where
  | active | faulted
  deriving DecidableEq, Repr

/-- R135. -/
inductive LineState where
  | off | active | enrolling | recovering | disabled
  deriving DecidableEq, Repr

/-- R154. -/
inductive AlarmMode where
  | level | pulse
  deriving DecidableEq, Repr

/-- R150. -/
inductive StartCause where
  | powerOn | resetInput | restart
  deriving DecidableEq, Repr

/-! ## The zone and its records -/

/-- A device named by its line 1..2 and its address 1..126. -/
structure DeviceAddr where
  line : Nat
  address : Nat
  deriving DecidableEq, Repr

/-- The definition of a zone (R2). -/
structure Definition where
  ceiling : Nat
  floor : Nat
  policy : Policy
  uvRef : Nat
  sensitivity : Nat
  electricLimit : Nat
  derate : Nat
  plant : Option Nat
  dimmer : Option DeviceAddr
  trim : Option DeviceAddr
  banks : List Nat
  surgeThreshold : Option Nat
  escalate : Bool
  deriving DecidableEq, Repr

/-- A climate band (R60). -/
structure Band where
  rhTarget : Nat
  rhHalf : Nat
  rhGuard : Nat
  swingLimit : Nat
  tempTarget : Nat
  tempHalf : Nat
  tempGuard : Nat
  trimAllowance : Nat
  deriving DecidableEq, Repr

/-- A season (R29). -/
structure Season where
  allowance : Nat
  plannedHours : Nat
  start : Nat
  deriving DecidableEq, Repr

/-- The account of a zone (R20). -/
structure Account where
  dose : Nat
  residue : Nat
  openSeconds : Nat
  season : Option Season
  lastSample : Option Nat
  saturated : Bool
  deriving DecidableEq, Repr

/-- The light state of a zone (R37). `spent` is the condition of the mark EXHAUSTED as the last light review found it, or as a
request that has written the account since has left it: what a MARKS CLEAR that meets a light review tests (R18, R49, log entry
39). -/
structure Light where
  target : Nat
  permitted : Nat
  condition : Condition
  dimmer : Nat
  louvre : Nat
  electricLimit : Nat
  refreshOwed : Bool
  spent : Bool
  deriving DecidableEq, Repr

/-- An hourly bucket (R65): least and greatest RH, and least and greatest temperature, where it has a sample of them. -/
structure Bucket where
  hour : Nat
  rh : Option (Nat × Nat)
  temp : Option (Int × Int)
  samples : Nat
  deriving DecidableEq, Repr

/-- A trim pulse in flight (R59): its direction, the device it was sent to, and when its pulse-end timer expires. -/
structure Pulse where
  dir : TrimDir
  device : DeviceAddr
  due : Nat
  deriving DecidableEq, Repr

/-- A need of a zone: a duty and a level 1..7 (R77). -/
structure Need where
  duty : Duty
  level : Nat
  deriving DecidableEq, Repr

/-- A zone's own record of the demand it has raised (R59). -/
structure ZoneDemand where
  plant : Nat
  duty : Duty
  level : Nat
  deriving DecidableEq, Repr

/-- The climate state of a zone (R59), but for the band, which stands in the zone. -/
structure Climate where
  rh : BandState
  temp : BandState
  lastSwing : Option Nat
  swing : Bool
  current : Bucket
  history : List Bucket
  trimCount : Nat
  pulse : Option Pulse
  trimUnavailable : Bool
  offOwed : Bool
  need : Option Need
  unresolved : Bool
  demand : Option ZoneDemand
  deriving DecidableEq, Repr

/-- A binding entry (R105). -/
structure Binding where
  line : Nat
  base : Nat
  care : Nat
  cls : QuantityClass
  deriving DecidableEq, Repr

/-- One channel of a zone: BLIND or valid, and the last fresh moment on the time base (R104). -/
structure Channel where
  blind : Bool
  lastFresh : Nat
  deriving DecidableEq, Repr

/-- The measurement record of a zone (R104). -/
structure Measurement where
  bindings : List Binding
  illuminance : Option Nat
  uvRatio : Option Nat
  rh : Option Nat
  temperature : Option Int
  illuminanceFresh : Bool
  uvRatioFresh : Bool
  rhFresh : Bool
  temperatureFresh : Bool
  light : Channel
  climate : Channel
  occupancy : Nat
  deriving DecidableEq, Repr

/-- An hour rollover: the old hour and the new (R14). -/
structure Rollover where
  oldHour : Nat
  newHour : Nat
  deriving DecidableEq, Repr

/-- The record of a DEFINED zone, CLOSED or OPEN (R1), with the records the other blocks keep for it. Its three timers
run; each field `…Due` is the moment of the time base at which that timer next expires (R10). `rollovers` are the hour
rollovers the clock has delivered to the zone and its climate tracker has not yet taken (R14). -/
structure Zone where
  isOpen : Bool
  defn : Definition
  band : Option Band
  marks : List Mark
  sampleDue : Nat
  reviewDue : Nat
  climateDue : Nat
  account : Account
  light : Light
  climate : Climate
  measure : Measurement
  rollovers : List Rollover
  deriving DecidableEq, Repr

/-! ## Banks and plants -/

/-- The record of a DEFINED bank (R50). Its reported position is read from the device entry. -/
structure Bank where
  state : BankState
  louvre : DeviceAddr
  slew : Nat
  target : Nat
  commanded : Nat
  stepDue : Nat
  deriving DecidableEq, Repr

/-- A demand as its plant holds it (R83). -/
structure Demand where
  zone : Nat
  duty : Duty
  level : Nat
  arrival : Nat
  deriving DecidableEq, Repr

/-- The record of a DEFINED plant (R82). A timer is absent while it is stopped, and else the moment it expires. -/
structure Plant where
  state : PlantState
  controller : DeviceAddr
  physical : Duty
  commanded : Duty
  target : Duty
  service : List Demand
  waiting : List Demand
  serviceLevel : Nat
  arrivals : Nat
  minRunDue : Option Nat
  minRunElapsed : Bool
  changeDue : Option Nat
  changeExpired : Bool
  changeAcked : Bool
  deriving DecidableEq, Repr

/-! ## Field devices and field lines -/

/-- One quantity of a reading: its value as recorded, and its validity (R120). -/
structure Quantity where
  value : Int
  valid : Bool
  deriving DecidableEq, Repr

/-- A reading record (R120): the quantities its sensor's kind carries, the clock value stamped at its arrival, and the
moment of its arrival on the time base. -/
structure Reading where
  illuminance : Option Quantity
  uvRatio : Option Quantity
  rh : Option Quantity
  temperature : Option Quantity
  clock : Nat
  arrived : Nat
  deriving DecidableEq, Repr

/-- A fault record: the reason, and the clock value at which it was written (R117). -/
structure FaultRecord where
  reason : FaultReason
  clock : Nat
  deriving DecidableEq, Repr

/-- An entry of the field device table (R117). `reported` and `acked` are the two fields of its report record (R121). -/
structure Device where
  line : Nat
  address : Nat
  kind : DeviceKind
  state : DeviceState
  failures : Nat
  reading : Option Reading
  reported : Option Nat
  acked : Option Nat
  fault : Option FaultRecord
  mismatch : Bool
  deriving DecidableEq, Repr

/-- The block that placed an actuator command (R142). -/
inductive Issuer where
  | governor (zone : Nat)
  | bank (bank : Nat)
  | tracker (zone : Nat)
  | arbiter (plant : Nat)
  deriving DecidableEq, Repr

/-- A command in an actuator queue (R141). -/
structure Command where
  address : Nat
  value : Nat
  issuer : Issuer
  deriving DecidableEq, Repr

/-- What a transaction asks of its device (R137). -/
inductive Ask where
  | poll
  | set (value : Nat) (issuer : Issuer)
  | ident
  deriving DecidableEq, Repr

/-- A transaction in flight (R137). `awaiting` says that an attempt has been sent and its reply is awaited; where it is
false the request is still to be sent (again), once the line is idle (R137, R145). -/
structure Transaction where
  ask : Ask
  address : Nat
  retries : Nat
  lastReason : Option FaultReason
  awaiting : Bool
  deriving DecidableEq, Repr

/-- The progress of an enrolment (R125). -/
structure Enrolment where
  next : Nat
  found : Nat
  added : Nat
  absent : Nat
  notAdded : Nat
  deriving DecidableEq, Repr

/-- The record of a field line (R135). `releasing` stands for the 20 ms release sequence in progress (R144), and `sent` is
the request packet the part last put on the line (R133). -/
structure Line where
  state : LineState
  terminated : Bool
  retryLimit : Nat
  hangCount : Nat
  queue : List Command
  roundCounter : Nat
  pollPos : Nat
  roundInProgress : Bool
  inFlight : Option Transaction
  enrolment : Option Enrolment
  releasing : Bool
  recoveryDue : Option Nat
  roundDue : Option Nat
  sent : List FieldByte
  deriving DecidableEq, Repr

/-! ## Notices, host link, store -/

/-- The contents of a notice, by kind, in the order of R150. -/
inductive NoticeBody where
  | start (cause : StartCause) (configurationLost : Bool)
  | markSet (mark : Mark)
  | deviceFault (line address : Nat) (reason : FaultReason) (failures : Nat)
  | deviceRecovered (line address : Nat)
  | lineHung (hangs : Nat) (abandoned : Option (Nat × Byte))
  | lineDisabled
  | lineRestored
  | commandsDiscarded (count : Nat)
  | enrolDone (complete : Bool) (found added absent notAdded : Nat)
  | plantDuty (duty : Duty) (level count : Nat)
  | plantFault (reason : PlantFaultReason) (duty : Duty)
  | checkpointFailed (record : Nat)
  | storeDone (written failed : Nat)
  deriving DecidableEq, Repr

/-- The subject of a notice (R150). -/
inductive Subject where
  | none
  | zone (n : Nat)
  | device (line address : Nat)
  | line (n : Nat)
  | plant (n : Nat)
  deriving DecidableEq, Repr

/-- A notice record (R150); its kind and its level are given by its body. -/
structure Notice where
  body : NoticeBody
  subject : Subject
  clock : Nat
  deriving DecidableEq, Repr

/-- The report settings (R154). -/
structure ReportSettings where
  floor : Nat
  alarmLevel : Nat
  mode : AlarmMode
  deriving DecidableEq, Repr

/-- The tag, the kind and the body of a frame: a request in the intake, or a reply (R159). -/
structure Frame where
  tag : Byte
  kind : Byte
  body : List Byte
  deriving DecidableEq, Repr

/-- A frame being sent (R164): its bytes on the wire, and whether it is the reply of the RESTART being carried out. -/
structure Sending where
  wire : List Byte
  restartReply : Bool
  deriving DecidableEq, Repr

/-- The host link: receive assembly (absent while hunting, else the bytes taken after the start byte; the gap timer runs
exactly while inside a frame), intake, reply queue, output (R160, R161, R164). -/
structure Link where
  rx : Option (List Byte)
  intake : List Frame
  replies : List Frame
  output : Option Sending
  deriving DecidableEq, Repr

/-- What the configuration record keeps of a defined zone (R168). -/
structure StoredZone where
  defn : Definition
  isOpen : Bool
  band : Option Band
  bindings : List Binding
  deriving DecidableEq, Repr

/-- What the configuration record keeps of a device entry (R168). -/
structure StoredDevice where
  line : Nat
  address : Nat
  kind : DeviceKind
  deriving DecidableEq, Repr

/-- What the configuration record keeps of a defined bank (R168). -/
structure StoredBank where
  louvre : DeviceAddr
  slew : Nat
  deriving DecidableEq, Repr

/-- The configuration values of the part: the configuration record but for the clock count (R168). -/
structure Configuration where
  zones : Vector (Option StoredZone) 16
  devices : List StoredDevice
  banks : Vector (Option StoredBank) 8
  plants : Vector (Option DeviceAddr) 2
  retryLimits : Vector Nat 2
  report : ReportSettings
  deriving DecidableEq, Repr

/-- The configuration record (R168). -/
structure ConfigRecord where
  config : Configuration
  clock : Nat
  deriving DecidableEq, Repr

/-- An account record (R36). -/
structure AccountRecord where
  dose : Nat
  residue : Nat
  openSeconds : Nat
  season : Option Season
  saturated : Bool
  isOpen : Bool
  deriving DecidableEq, Repr

/-- The nonvolatile store: a record that fails its check is absent, since it is not loaded in any part (R168). -/
structure Store where
  config : Option ConfigRecord
  accounts : Vector (Option AccountRecord) 16
  deriving DecidableEq, Repr

/-- The record a checkpoint is writing, with the content taken when its write began (R169). -/
inductive Writing where
  | config (record : ConfigRecord)
  | account (zone : Nat) (record : AccountRecord)
  deriving DecidableEq, Repr

/-- A checkpoint in flight (R169); `full` marks the one RESTART runs (R174). -/
structure Checkpoint where
  full : Bool
  writing : Writing
  written : Nat
  failed : Nat
  deriving DecidableEq, Repr

/-- A RESTART being carried out (R174): whether its full checkpoint still waits for an earlier checkpoint, and which of
the two ends its start waits for have come. -/
structure Restart where
  checkpointWaits : Bool
  checkpointDone : Bool
  replySent : Bool
  deriving DecidableEq, Repr

/-- No command of this part stops the machine: the manual gives every row of the table an effect in every state, so
this type has no constructor. Safe. -/
inductive Fault where
  deriving DecidableEq, Repr

/-- Why a command is not carried out. -/
inductive Refusal where
  /-- Raised by an arm of `exec` for a command that has no meaning yet; no arm raises it. Safe. -/
  | notModelled (mnemonic : String)
  deriving DecidableEq, Repr

/-! ## The state -/

/-- The whole state of the part. Fields that are the model's own are `freeIx` (how many free values have been used) and
`pending` (the commands that wait, first in, first out). -/
structure State where
  /-- The supply is in its operating range (R167). -/
  powered : Bool
  /-- The reset input is held low (R167). -/
  resetLow : Bool
  /-- The RESTART being carried out, if any (R174). -/
  restarting : Option Restart
  /-- Seconds of the part's own time base (00_scope, "Time"). -/
  now : Nat
  /-- The count of the device clock (R12). -/
  clock : Nat
  /-- The sync state of the device clock: SYNCED (R12). -/
  synced : Bool
  /-- The zone table (R1). -/
  zones : Vector (Option Zone) 16
  /-- The bank records (R50). -/
  banks : Vector (Option Bank) 8
  /-- The plant records (R82). -/
  plants : Vector (Option Plant) 2
  /-- The field device table, in order of line and address (R118). -/
  devices : List Device
  /-- The line records (R135). -/
  lines : Vector Line 2
  /-- The notice queue, oldest first (R151). -/
  notices : List Notice
  /-- The report settings (R154). -/
  report : ReportSettings
  /-- The alarm line is asserted (R155, R156). -/
  alarm : Bool
  /-- An alarm pulse is being timed (R156). -/
  pulsing : Bool
  /-- The host link (R160 to R164). -/
  link : Link
  /-- The nonvolatile store (R168). -/
  store : Store
  /-- The configuration changed flag (R168). -/
  configChanged : Bool
  /-- The checkpoint in flight (R169). -/
  checkpoint : Option Checkpoint
  /-- When the checkpoint timer expires (R169). -/
  checkpointDue : Nat
  /-- The model's own: how many free values have been used. -/
  freeIx : Nat
  /-- The model's own: the commands that wait, oldest first. -/
  pending : List Instr
  deriving DecidableEq, Repr

/-- A line as the start sequence leaves it where it senses termination and the retry limit is the default: ACTIVE, with
its first round just started (R135, R139, R173). -/
def State.resetLine : Line :=
  { state := .active, terminated := true, retryLimit := Config.defaultRetryLimit, hangCount := 0, queue := [],
    roundCounter := 1, pollPos := 0, roundInProgress := true, inFlight := none, enrolment := none, releasing := false,
    recoveryDue := none, roundDue := some Config.roundSeconds, sent := [] }

/-- The START notice frame the host link sends first after a first power-on: cause POWER-ON, CONFIGURATION LOST, at
clock 0 (R150, R153, R159, R164). -/
def State.resetStartFrame : List Byte :=
  [0xA5, 0x0E, 0x00, 0xF0, 0x00, 0x07, 0x00, 0x00, 0x00, 0x00, 0x00, 0x00, 0x00, 0x02, 0x00, 0x01, 0x3C, 0xBD]

/-- The part right after the start sequence of its first power-on (R172, R173): the store has never been written, so the
configuration record fails its check; every zone, bank and plant is UNSET, the device table is empty, the settings are the
defaults, the clock is 0 and UNSYNCED. Termination is sensed on both lines (log entry 15), and the output is sending the
START notice. `Sys2Proof.Tests` proves that this is what POWER_ON answers from the unpowered part. -/
def State.reset : State :=
  { powered := true, resetLow := false, restarting := none, now := 0, clock := 0, synced := false,
    zones := Vector.replicate 16 none, banks := Vector.replicate 8 none, plants := Vector.replicate 2 none,
    devices := [], lines := Vector.replicate 2 State.resetLine, notices := [],
    report := { floor := 2, alarmLevel := 6, mode := .level }, alarm := false, pulsing := false,
    link := { rx := none, intake := [], replies := [],
              output := some { wire := State.resetStartFrame, restartReply := false } },
    store := { config := none, accounts := Vector.replicate 16 none }, configChanged := true, checkpoint := none,
    checkpointDue := Config.checkpointPeriod, freeIx := 0, pending := [] }

end Sys2Proof.Machine
end

