-- ==== Sys2Proof/Machine/Ops.lean ====
section
/-! DEFINITION. The named operations over the tables of the state: reading and replacing a record by its number, the device
table, timers, and the two outcomes of a command. Numbers are the manual's own, counted from 1. -/

namespace Sys2Proof.Machine

/-! ## Numbered tables -/

/-- The record numbered `k`, counted from 1, of a table of fixed size; none where the number is outside the table. -/
def slot? {α : Type} {n : Nat} (v : Vector α n) (k : Nat) : Option α :=
  if k = 0 then none else v[k - 1]?

/-- The table with record `k` replaced; unchanged where the number is outside the table. -/
def slotSet {α : Type} {n : Nat} (v : Vector α n) (k : Nat) (a : α) : Vector α n :=
  if k = 0 then v else v.setIfInBounds (k - 1) a

/-- The table whose record `k`, counted from 1, is `f k`. -/
def tableOf {α : Type} (n : Nat) (f : Nat → α) : Vector α n := Vector.ofFn fun i : Fin n => f (i.val + 1)

/-- The record of zone `z`, if the zone is defined (R1). -/
def State.zone? (s : State) (z : Nat) : Option Zone := (slot? s.zones z).join

def State.putZone (s : State) (z : Nat) (r : Zone) : State := { s with zones := slotSet s.zones z (some r) }

/-- Changes the record of zone `z`; an UNSET zone has none to change. -/
def State.modZone (s : State) (z : Nat) (f : Zone → Zone) : State :=
  match s.zone? z with
  | some r => s.putZone z (f r)
  | none => s

/-- The record of bank `b`, if the bank is defined (R50). -/
def State.bank? (s : State) (b : Nat) : Option Bank := (slot? s.banks b).join

def State.putBank (s : State) (b : Nat) (r : Bank) : State := { s with banks := slotSet s.banks b (some r) }

def State.modBank (s : State) (b : Nat) (f : Bank → Bank) : State :=
  match s.bank? b with
  | some r => s.putBank b (f r)
  | none => s

/-- The record of plant `p`, if the plant is defined (R82). -/
def State.plant? (s : State) (p : Nat) : Option Plant := (slot? s.plants p).join

def State.putPlant (s : State) (p : Nat) (r : Plant) : State := { s with plants := slotSet s.plants p (some r) }

def State.modPlant (s : State) (p : Nat) (f : Plant → Plant) : State :=
  match s.plant? p with
  | some r => s.putPlant p (f r)
  | none => s

/-- The record of line `l`, which exists for 1 and 2 (R135). -/
def State.line? (s : State) (l : Nat) : Option Line := slot? s.lines l

def State.putLine (s : State) (l : Nat) (r : Line) : State := { s with lines := slotSet s.lines l r }

def State.modLine (s : State) (l : Nat) (f : Line → Line) : State :=
  match s.line? l with
  | some r => s.putLine l (f r)
  | none => s

def zoneNumbers : List Nat := List.range' 1 16
def bankNumbers : List Nat := List.range' 1 8
def plantNumbers : List Nat := List.range' 1 2
def lineNumbers : List Nat := List.range' 1 2

/-- The defined zones, in ascending order. -/
def State.definedZones (s : State) : List (Nat × Zone) :=
  zoneNumbers.filterMap fun z => (s.zone? z).map fun r => (z, r)

def validZone (z : Nat) : Bool := 1 ≤ z && z ≤ 16
def validBank (b : Nat) : Bool := 1 ≤ b && b ≤ 8
def validPlant (p : Nat) : Bool := 1 ≤ p && p ≤ 2
def validLine (l : Nat) : Bool := 1 ≤ l && l ≤ 2
def validAddress (a : Nat) : Bool := 1 ≤ a && a ≤ Config.lastAddress

/-! ## The device table (R118) -/

def Device.addr (e : Device) : DeviceAddr := ⟨e.line, e.address⟩

def Device.at (e : Device) (d : DeviceAddr) : Bool := e.line == d.line && e.address == d.address

/-- The entry at a line and address. -/
def State.device? (s : State) (d : DeviceAddr) : Option Device := s.devices.find? (·.at d)

def State.modDevice (s : State) (d : DeviceAddr) (f : Device → Device) : State :=
  { s with devices := s.devices.map fun e => if e.at d then f e else e }

/-- The order of the table: by line, then by address (R118). -/
def Device.before (a b : Device) : Bool := a.line < b.line || (a.line == b.line && a.address < b.address)

def insertDevice (e : Device) : List Device → List Device
  | [] => [e]
  | x :: xs => if e.before x then e :: x :: xs else x :: insertDevice e xs

def State.addDevice (s : State) (e : Device) : State := { s with devices := insertDevice e s.devices }

def State.removeDevice (s : State) (d : DeviceAddr) : State :=
  { s with devices := s.devices.filter fun e => !e.at d }

/-- The entries of a line, in address order (R118). -/
def State.lineDevices (s : State) (l : Nat) : List Device := s.devices.filter (·.line == l)

/-- The actuator kinds are the last four of R116. -/
def DeviceKind.isActuator : DeviceKind → Bool
  | .lightSensor | .climateSensor | .lightClimateSensor => false
  | .dimmer | .louvre | .trimUnit | .plantController => true

def State.lineActuators (s : State) (l : Nat) : List Device := (s.lineDevices l).filter (·.kind.isActuator)

/-- The owner of an assigned entry (R119): the definition that names it. -/
inductive Owner where
  | zoneDimmer (zone : Nat)
  | zoneTrim (zone : Nat)
  | bank (bank : Nat)
  | plant (plant : Nat)
  deriving DecidableEq, Repr

/-- The owner of the device at `d`, if a definition names it (R119). -/
def State.owner? (s : State) (d : DeviceAddr) : Option Owner :=
  match zoneNumbers.find? fun z => (s.zone? z).any fun r => r.defn.dimmer == some d with
  | some z => some (.zoneDimmer z)
  | none =>
    match zoneNumbers.find? fun z => (s.zone? z).any fun r => r.defn.trim == some d with
    | some z => some (.zoneTrim z)
    | none =>
      match bankNumbers.find? fun b => (s.bank? b).any fun r => r.louvre == d with
      | some b => some (.bank b)
      | none =>
        match plantNumbers.find? fun p => (s.plant? p).any fun r => r.controller == d with
        | some p => some (.plant p)
        | none => none

/-! ## Time -/

/-- The hour of a clock value (R12). -/
def hourOf (clock : Nat) : Nat := clock / Config.hourSeconds

/-- A running timer that expires at `due` has come to its expiry. -/
def State.reached (s : State) (due : Nat) : Bool := due ≤ s.now

/-- A timer that may be stopped has come to its expiry. -/
def State.expired (s : State) (due : Option Nat) : Bool := due.any fun d => s.reached d

/-- The part works: supplied, and its reset input high (R167). -/
def State.running (s : State) : Bool := s.powered && !s.resetLow

/-! ## Small choices -/

/-- `v` brought into `lo..hi`. -/
def clamp (lo hi v : Nat) : Nat := max lo (min hi v)

/-- The next free value's index is used up. -/
def State.useFree (s : State) : State := { s with freeIx := s.freeIx + 1 }

end Sys2Proof.Machine
end

