-- ==== Sys2Proof/Machine/Operands.lean ====
section
/-! DEFINITION. The forms of values in host frames and field packets: the codes of named values, integers in bytes, the
check of the host frame, and the fields each request's body carries (R133, R159, R162). -/

namespace Sys2Proof.Machine

/-! ## Codes of named values (R159: the explicit codes where given, else the position in the list that first gives the set) -/

def Policy.code : Policy → Nat
  | .visibility => 0 | .budget => 1

def Policy.ofCode? : Nat → Option Policy
  | 0 => some .visibility | 1 => some .budget | _ => none

def Condition.code : Condition → Nat
  | .free => 0 | .within => 1 | .pressure => 2 | .restricted => 3 | .exhausted => 4 | .dark => 5

/-- R133 gives these codes. -/
def Duty.code : Duty → Nat
  | .neutral => 0 | .humidify => 1 | .dry => 2 | .heat => 3 | .cool => 4

def Duty.ofCode? : Nat → Option Duty
  | 0 => some .neutral | 1 => some .humidify | 2 => some .dry | 3 => some .heat | 4 => some .cool | _ => none

def BandState.code : BandState → Nat
  | .unclassified => 0 | .inBand => 1 | .driftLow => 2 | .driftHigh => 3 | .outLow => 4 | .outHigh => 5

/-- The trim values of R133, OFF being 0. -/
def TrimDir.code : TrimDir → Nat
  | .humidify => 1 | .dry => 2

def trimOff : Nat := 0

def Mark.code : Mark → Nat
  | .rhOut => 0 | .rhSwing => 1 | .tempOut => 2 | .lightPressure => 3 | .exhausted => 4 | .blindLight => 5
  | .blindClimate => 6 | .unresolved => 7 | .accountGap => 8 | .accountLost => 9 | .saturated => 10

/-- The marks in the order of R17. -/
def allMarks : List Mark :=
  [.rhOut, .rhSwing, .tempOut, .lightPressure, .exhausted, .blindLight, .blindClimate, .unresolved, .accountGap,
   .accountLost, .saturated]

def Mark.ofCode? (n : Nat) : Option Mark := allMarks[n]?

def QuantityClass.code : QuantityClass → Nat
  | .light => 0 | .climate => 1

def QuantityClass.ofCode? : Nat → Option QuantityClass
  | 0 => some .light | 1 => some .climate | _ => none

/-- The kind codes of an IDENT-REPLY (R133). -/
def DeviceKind.code : DeviceKind → Nat
  | .lightSensor => 1 | .climateSensor => 2 | .lightClimateSensor => 3 | .dimmer => 4 | .louvre => 5 | .trimUnit => 6
  | .plantController => 7

def DeviceKind.ofCode? : Nat → Option DeviceKind
  | 1 => some .lightSensor | 2 => some .climateSensor | 3 => some .lightClimateSensor | 4 => some .dimmer
  | 5 => some .louvre | 6 => some .trimUnit | 7 => some .plantController | _ => none

def DeviceState.code : DeviceState → Nat
  | .enrolled => 0 | .active => 1 | .suspect => 2 | .faulted => 3 | .absent => 4

def FaultReason.code : FaultReason → Nat
  | .noReply => 0 | .garbled => 1 | .wrongReply => 2 | .wrongKind => 3

/-- UNSET is code 0 (R82). -/
def PlantState.code : PlantState → Nat
  | .idle => 1 | .changeover => 2 | .running => 3 | .held => 4 | .faulted => 5

def PlantFaultReason.code : PlantFaultReason → Nat
  | .commandFailed => 0 | .deviceFaulted => 1

/-- UNSET is code 0 (R50). -/
def BankState.code : BankState → Nat
  | .active => 1 | .faulted => 2

def LineState.code : LineState → Nat
  | .off => 0 | .active => 1 | .enrolling => 2 | .recovering => 3 | .disabled => 4

def AlarmMode.code : AlarmMode → Nat
  | .level => 0 | .pulse => 1

def AlarmMode.ofCode? : Nat → Option AlarmMode
  | 0 => some .level | 1 => some .pulse | _ => none

def StartCause.code : StartCause → Nat
  | .powerOn => 0 | .resetInput => 1 | .restart => 2

/-- The zone states UNSET 0, CLOSED 1, OPEN 2 (R1). -/
def zoneStateCode (isOpen : Bool) : Nat := if isOpen then 2 else 1

/-- DEDUCED (log entry 5): a two-valued field is a set of values the manual lists with the holding one first (yes or no,
set or clear, holds or does not hold, on, off, running or stopped, valid or BLIND), so the holding one has code 0. -/
def flagCode (b : Bool) : Nat := if b then 0 else 1

def flagOfCode? : Nat → Option Bool
  | 0 => some true | 1 => some false | _ => none

/-! ## Packet kinds (R133) -/

def pollKind : Byte := 0x50
def identKind : Byte := 0x51
def setKind : Byte := 0x52
def readingKind : Byte := 0xD0
def identReplyKind : Byte := 0xD1
def setAckKind : Byte := 0xD2

def Ask.packetKind : Ask → Byte
  | .poll => pollKind | .set _ _ => setKind | .ident => identKind

/-! ## Integers in bytes, high byte first (R159) -/

/-- `v` in `n` bytes, high byte first. -/
def be : Nat → Nat → List Byte
  | 0, _ => []
  | n + 1, v => BitVec.ofNat 8 (v / 256 ^ n) :: be n v

/-- `v` in `n` bytes, two's complement. -/
def beInt (n : Nat) (v : Int) : List Byte := be n (v % (256 ^ n : Nat)).toNat

/-- The number a run of bytes spells, high byte first. -/
def natOf (bs : List Byte) : Nat := bs.foldl (fun a b => a * 256 + b.toNat) 0

/-- Two bytes as a signed number, two's complement. -/
def int16Of (n : Nat) : Int := if n < 32768 then n else (n : Int) - 65536

def flag (b : Bool) : List Byte := be 1 (flagCode b)

/-- A field that may be absent: a presence byte, then the field (R159). -/
def optional {α : Type} (f : α → List Byte) : Option α → List Byte
  | none => be 1 0
  | some a => be 1 1 ++ f a

/-- A list: the count of its members, then the members (R159). -/
def counted {α : Type} (f : α → List Byte) (l : List α) : List Byte := be 1 l.length ++ l.flatMap f

/-! ## The check of the host frame (R159) -/

/-- One step of the CRC: the register is shifted left by one, and the generator 1021 hex is added where a one left it. -/
def crcBit (r : BitVec 16) : BitVec 16 := if r.getMsbD 0 then (r <<< 1) ^^^ 0x1021 else r <<< 1

def crcByte (r : BitVec 16) (b : Byte) : BitVec 16 :=
  crcBit (crcBit (crcBit (crcBit (crcBit (crcBit (crcBit (crcBit (r ^^^ (b.setWidth 16 <<< 8)))))))))

/-- The 16-bit check, from the initial value FFFF hex. -/
def crc16 (bs : List Byte) : BitVec 16 := bs.foldl crcByte 0xFFFF

/-- The bytes from length through body, over which the check is computed. -/
def Frame.checked (f : Frame) : List Byte := be 1 (f.body.length + 2) ++ f.tag :: f.kind :: f.body

/-- A frame on the wire: start, length, tag, kind, body, check (R159). -/
def Frame.wire (f : Frame) : List Byte := 0xA5 :: f.checked ++ be 2 (crc16 f.checked).toNat

/-! ## Bytes and request packets on a field line (R132, R133) -/

/-- The parity bit of a byte: it makes the number of ones among the eight data bits and itself even (R132). -/
def parityOf (b : Byte) : Bool := decide ((List.range 8).countP (fun i => b.getLsbD i) % 2 = 1)

/-- A byte as a well-formed sender puts it on the line: with even parity and its stop bit (R132). -/
def fieldByte (b : Byte) : FieldByte := { data := b, parity := parityOf b, stop := true }

/-- The eleven bit times of a byte on the line, a start bit at the active level first, the data bits least significant
first, then the parity bit and the stop bit; true is the idle level (R132). -/
def lineLevels (b : FieldByte) : List Bool :=
  false :: (List.range 8).map (fun i => b.data.getLsbD i) ++ [b.parity, b.stop]

/-- A received byte has no parity error and has its stop bit (R132, R134). -/
def wellFramed (b : FieldByte) : Bool := b.parity == parityOf b.data && b.stop

/-- The check byte: the value that brings the sum of the packet to 0 modulo 256. -/
def checkByte (bs : List Byte) : Byte := 0 - bs.sum

def Ask.payload : Ask → List Byte
  | .poll | .ident => []
  | .set value _ => be 1 value

/-- The bytes of a packet: address, kind, payload length, payload, check byte (R133). -/
def packetBytes (address : Nat) (kind : Byte) (payload : List Byte) : List Byte :=
  let bs := be 1 address ++ kind :: be 1 payload.length ++ payload
  bs ++ [checkByte bs]

/-- The request packet of a transaction, as the part puts it on the line. -/
def requestPacket (address : Nat) (ask : Ask) : List FieldByte :=
  (packetBytes address ask.packetKind ask.payload).map fieldByte

/-! ## Reading the body of a request (R159, R162) -/

/-- A reader of a body takes a value off its front; it fails where the body does not have the form. -/
abbrev Reader := StateT (List Byte) Option

/-- An integer of `n` bytes. -/
def readNat (n : Nat) : Reader Nat := fun bs =>
  if bs.length < n then none else some (natOf (bs.take n), bs.drop n)

/-- A field preceded by a presence byte; a presence byte other than 0 and 1 fails. -/
def readOptional {α : Type} (r : Reader α) : Reader (Option α) := do
  match ← readNat 1 with
  | 0 => return none
  | 1 => return some (← r)
  | _ => failure

def readMany {α : Type} (r : Reader α) : Nat → Reader (List α)
  | 0 => return []
  | n + 1 => do
    let a ← r
    let rest ← readMany r n
    return a :: rest

/-- A list preceded by its count. -/
def readList {α : Type} (r : Reader α) : Reader (List α) := do
  let n ← readNat 1
  readMany r n

/-- What a body holds, where it holds exactly that and nothing after it (R162). -/
def readBody {α : Type} (r : Reader α) (body : List Byte) : Option α :=
  match r body with
  | some (a, []) => some a
  | _ => none

def readDevice : Reader DeviceAddr := do
  let line ← readNat 1
  let address ← readNat 1
  return { line, address }

/-- The fields of ZONE DEFINE after the zone number, as sent: numbers not yet checked, defaults not yet taken (R2). -/
structure DefinitionFields where
  ceiling : Nat
  floor : Nat
  policy : Nat
  uvRef : Option Nat
  sensitivity : Nat
  electricLimit : Option Nat
  derate : Option Nat
  plant : Nat
  dimmer : Option DeviceAddr
  trim : Option DeviceAddr
  banks : Option (List Nat)
  surgeThreshold : Option Nat
  escalate : Option Nat
  deriving DecidableEq, Repr

/-- DEDUCED (log entry 6): a presence byte stands before exactly the fields that have a default. -/
def readDefinition : Reader DefinitionFields := do
  let ceiling ← readNat 2
  let floor ← readNat 2
  let policy ← readNat 1
  let uvRef ← readOptional (readNat 2)
  let sensitivity ← readNat 1
  let electricLimit ← readOptional (readNat 1)
  let derate ← readOptional (readNat 1)
  let plant ← readNat 1
  let dimmer ← readOptional readDevice
  let trim ← readOptional readDevice
  let banks ← readOptional (readList (readNat 1))
  let surgeThreshold ← readOptional (readNat 2)
  let escalate ← readOptional (readNat 1)
  return { ceiling, floor, policy, uvRef, sensitivity, electricLimit, derate, plant, dimmer, trim, banks,
           surgeThreshold, escalate }

def readZoneDefine : Reader (Nat × DefinitionFields) := do
  let zone ← readNat 1
  let fields ← readDefinition
  return (zone, fields)

def inRange (lo hi v : Nat) : Bool := lo ≤ v && v ≤ hi

def DeviceAddr.inRange (d : DeviceAddr) : Bool := validLine d.line && validAddress d.address

/-- The range checks of R2, defaults taken: the definition, or none where a value is outside its range. -/
def DefinitionFields.definition? (f : DefinitionFields) : Option Definition :=
  match Policy.ofCode? f.policy, flagOfCode? (f.escalate.getD (flagCode true)) with
  | some policy, some escalate =>
    let banks := f.banks.getD []
    let d : Definition :=
      { ceiling := f.ceiling, floor := f.floor, policy, uvRef := f.uvRef.getD 75, sensitivity := f.sensitivity,
        electricLimit := f.electricLimit.getD 100, derate := f.derate.getD 60,
        plant := if f.plant = 0 then none else some f.plant, dimmer := f.dimmer, trim := f.trim, banks,
        surgeThreshold := f.surgeThreshold, escalate }
    if inRange 10 1000 d.ceiling && decide (d.floor ≤ d.ceiling) && inRange 10 500 d.uvRef
        && decide (d.sensitivity ≤ 2) && decide (d.electricLimit ≤ 100) && decide (d.derate ≤ 100)
        && decide (f.plant ≤ 2) && d.dimmer.all DeviceAddr.inRange && d.trim.all DeviceAddr.inRange
        && decide (banks.length ≤ 2) && banks.all validBank && decide banks.Nodup
        && d.surgeThreshold.all (inRange 1 9999) then
      some d
    else none
  | _, _ => none

/-- The fields of ZONE BIND: a zone and entries of line, base, care mask and class (R106). -/
def readZoneBind : Reader (Nat × List (Nat × Nat × Nat × Nat)) := do
  let zone ← readNat 1
  let entries ← readList do
    let line ← readNat 1
    let base ← readNat 1
    let care ← readNat 1
    let cls ← readNat 1
    return (line, base, care, cls)
  return (zone, entries)

/-- The check of one binding entry (R106). -/
def bindingOf? : Nat × Nat × Nat × Nat → Option Binding
  | (line, base, care, cls) =>
    match QuantityClass.ofCode? cls with
    | some c => if validLine line && decide (base ≤ 127) && decide (care ≤ 127) then some ⟨line, base, care, c⟩ else none
    | none => none

/-- The checks of every member of a list: the members, or none where one fails. -/
def allSome {α β : Type} (f : α → Option β) : List α → Option (List β)
  | [] => some []
  | a :: as =>
    match f a, allSome f as with
    | some b, some bs => some (b :: bs)
    | _, _ => none

def readMarksClear : Reader (Nat × List Nat) := do
  let zone ← readNat 1
  let marks ← readList (readNat 1)
  return (zone, marks)

/-- SEASON BEGIN: zone, allowance, planned open hours (R30). -/
def readSeasonBegin : Reader (Nat × Nat × Nat) := do
  let zone ← readNat 1
  let allowance ← readNat 4
  let hours ← readNat 2
  return (zone, allowance, hours)

/-- ACCOUNT ADJUST: zone, used dose in six bytes, open seconds (R34). -/
def readAccountAdjust : Reader (Nat × Nat × Nat) := do
  let zone ← readNat 1
  let dose ← readNat 6
  let seconds ← readNat 4
  return (zone, dose, seconds)

/-- OCCUPANCY: zone and visitor count (R114). -/
def readOccupancy : Reader (Nat × Nat) := do
  let zone ← readNat 1
  let count ← readNat 2
  return (zone, count)

/-- CLIMATE BAND: zone and the fields of a band (R60). -/
def readClimateBand : Reader (Nat × Band) := do
  let zone ← readNat 1
  let rhTarget ← readNat 2
  let rhHalf ← readNat 1
  let rhGuard ← readNat 1
  let swingLimit ← readNat 2
  let tempTarget ← readNat 2
  let tempHalf ← readNat 1
  let tempGuard ← readNat 1
  let allowance ← readOptional (readNat 1)
  return (zone, { rhTarget, rhHalf, rhGuard, swingLimit, tempTarget, tempHalf, tempGuard,
                  trimAllowance := allowance.getD Config.defaultTrimAllowance })

/-- The ranges of R60. -/
def Band.inRange (b : Band) : Bool :=
  Machine.inRange 300 700 b.rhTarget && Machine.inRange 10 200 b.rhHalf && decide (b.rhGuard ≤ b.rhHalf)
    && Machine.inRange 10 400 b.swingLimit && Machine.inRange 100 300 b.tempTarget && Machine.inRange 5 100 b.tempHalf
    && decide (b.tempGuard ≤ b.tempHalf) && decide (b.trimAllowance ≤ 15)

/-- BANK DEFINE: bank, louvre device, and the slew or its default (R51). -/
def readBankDefine : Reader (Nat × DeviceAddr × Nat) := do
  let bank ← readNat 1
  let louvre ← readDevice
  let slew ← readOptional (readNat 1)
  return (bank, louvre, slew.getD Config.defaultSlew)

/-- PLANT DEFINE: plant and controller device (R97). -/
def readPlantDefine : Reader (Nat × DeviceAddr) := do
  let plant ← readNat 1
  let controller ← readDevice
  return (plant, controller)

/-- Two one-byte numbers: PLANT HOLD (plant, duty), LINE SET (line, retry limit). -/
def readPair : Reader (Nat × Nat) := do
  let a ← readNat 1
  let b ← readNat 1
  return (a, b)

/-- REPORT SET: report floor, alarm level, alarm mode (R154). -/
def readReportSet : Reader (Nat × Nat × Nat) := do
  let floor ← readNat 1
  let level ← readNat 1
  let mode ← readNat 1
  return (floor, level, mode)

/-- An empty body. -/
def readNothing : Reader Unit := return ()

end Sys2Proof.Machine
end

