-- ==== Sys2Proof/Machine/Flags.lean ====
section
/-! DEFINITION. The flags of the part: levels of marks and notices, the tests of MARKS CLEAR, surge, the classification of RH
and temperature, and the conditions of the alarm line (R17, R64, R115, R150, R155). -/

namespace Sys2Proof.Machine

/-! ## Marks (R17) -/

/-- The notice level of a mark. -/
def Mark.level : Mark → Nat
  | .rhOut => 6 | .rhSwing => 5 | .tempOut => 5 | .lightPressure => 3 | .exhausted => 5 | .blindLight => 4
  | .blindClimate => 4 | .unresolved => 4 | .accountGap => 3 | .accountLost => 6 | .saturated => 6

def BandState.isOut : BandState → Bool
  | .outLow | .outHigh => true
  | .unclassified | .inBand | .driftLow | .driftHigh => false

def BandState.isDrift : BandState → Bool
  | .driftLow | .driftHigh => true
  | .unclassified | .inBand | .outLow | .outHigh => false

/-- The direction of a DRIFT or OUT state is LOW. -/
def BandState.isLow : BandState → Bool
  | .driftLow | .outLow => true
  | .unclassified | .inBand | .driftHigh | .outHigh => false

def Condition.isPressed : Condition → Bool
  | .pressure | .restricted => true
  | .free | .within | .exhausted | .dark => false

/-- The remaining allowance R, in lux-seconds, as a signed number (R40). -/
def Account.remaining (a : Account) (season : Season) : Int := (season.allowance * 3600 : Nat) - (a.dose : Int)

/-- A season is present and its remaining allowance is 0 or less. -/
def Account.isExhausted (a : Account) : Bool := a.season.any fun season => a.remaining season ≤ 0

def Account.atLimit (a : Account) : Bool := a.dose == Config.doseLimit

/-- Whether the condition of a mark holds when MARKS CLEAR tests it at `now` (R17, last column). EXHAUSTED is tested on the account
as it stands; but where the zone's light review has come due and the clear is taken before it, on the condition of the previous
review, as R49 and the last paragraph of R18 say of that meeting (DEDUCED, log entry 39). -/
def Zone.markHolds (r : Zone) (now : Nat) : Mark → Bool
  | .rhOut => r.climate.rh.isOut
  | .rhSwing => r.climate.swing
  | .tempOut => r.climate.temp.isOut
  | .lightPressure => r.light.condition.isPressed
  | .exhausted => if r.reviewDue ≤ now then r.light.spent else r.account.isExhausted
  | .blindLight => r.measure.light.blind
  | .blindClimate => r.measure.climate.blind
  | .unresolved => r.climate.unresolved
  | .accountGap => false
  | .accountLost => false
  | .saturated => r.account.atLimit

/-! ## Surge (R115) -/

/-- Surge holds while the definition carries a threshold and the occupancy is at or above it. -/
def Zone.surge (r : Zone) : Bool := r.defn.surgeThreshold.any fun t => t ≤ r.measure.occupancy

/-! ## Classification (R64) -/

/-- The state of a value `v` against target `t`, half-width `h` and guard `g`. -/
def classify (v : Int) (t h g : Nat) : BandState :=
  let dev := (v - t).natAbs
  if dev ≤ h - g then .inBand
  else if dev ≤ h then (if v < t then .driftLow else .driftHigh)
  else if v < t then .outLow else .outHigh

/-! ## Notices (R150) -/

def NoticeBody.kindCode : NoticeBody → Nat
  | .start .. => 0 | .markSet .. => 1 | .deviceFault .. => 2 | .deviceRecovered .. => 3 | .lineHung .. => 4
  | .lineDisabled => 5 | .lineRestored => 6 | .commandsDiscarded .. => 7 | .enrolDone .. => 8 | .plantDuty .. => 9
  | .plantFault .. => 10 | .checkpointFailed .. => 11 | .storeDone .. => 12

/-- The level, fixed by the kind, and for MARK SET and ENROL DONE by the body. -/
def NoticeBody.level : NoticeBody → Nat
  | .start .. => 7
  | .markSet m => m.level
  | .deviceFault .. => 4
  | .deviceRecovered .. => 2
  | .lineHung .. => 4
  | .lineDisabled => 6
  | .lineRestored => 2
  | .commandsDiscarded .. => 5
  | .enrolDone complete .. => if complete then 3 else 4
  | .plantDuty .. => 1
  | .plantFault .. => 6
  | .checkpointFailed .. => 5
  | .storeDone .. => 1

def Notice.level (n : Notice) : Nat := n.body.level

/-- The 0..8 bytes of a notice's body. -/
def NoticeBody.bytes : NoticeBody → List Byte
  | .start cause lost => be 1 cause.code ++ be 1 (if lost then 1 else 0)
  | .markSet m => be 1 m.code
  | .deviceFault line address reason failures => be 1 line ++ be 1 address ++ be 1 reason.code ++ be 1 failures
  | .deviceRecovered line address => be 1 line ++ be 1 address
  | .lineHung hangs abandoned => be 1 hangs ++ optional (fun (a : Nat × Byte) => be 1 a.1 ++ [a.2]) abandoned
  | .lineDisabled => []
  | .lineRestored => []
  | .commandsDiscarded count => be 1 count
  | .enrolDone complete found added absent notAdded =>
    be 1 (if complete then 0 else 1) ++ be 1 found ++ be 1 added ++ be 1 absent ++ be 1 notAdded
  | .plantDuty duty level count => be 1 duty.code ++ be 1 level ++ be 1 count
  | .plantFault reason duty => be 1 reason.code ++ be 1 duty.code
  | .checkpointFailed record => be 1 record
  | .storeDone written failed => be 1 written ++ be 1 failed

/-- The subject type and the two subject bytes (R164). -/
def Subject.bytes : Subject → List Byte
  | .none => be 1 0 ++ be 2 0
  | .zone n => be 1 1 ++ be 2 n
  | .device l a => be 1 2 ++ be 1 l ++ be 1 a
  | .line n => be 1 3 ++ be 2 n
  | .plant n => be 1 4 ++ be 2 n

/-- The notice frame: tag 0, kind F0 hex, and the notice record (R164). -/
def Notice.frame (n : Notice) : Frame :=
  { tag := 0, kind := 0xF0,
    body := be 1 n.body.kindCode ++ be 1 n.level ++ n.subject.bytes ++ be 4 n.clock
            ++ be 1 n.body.bytes.length ++ n.body.bytes }

/-! ## The alarm line in LEVEL mode (R155) -/

/-- A defined zone has a mark whose level is at or above the alarm level. -/
def State.markAlarm (s : State) : Bool :=
  s.definedZones.any fun zr => zr.2.marks.any fun m => s.report.alarmLevel ≤ m.level

def State.lineAlarm (s : State) : Bool :=
  lineNumbers.any fun l => (s.line? l).any fun r => r.state == .disabled

def State.plantAlarm (s : State) : Bool :=
  plantNumbers.any fun p => (s.plant? p).any fun r => r.state == .faulted

/-- At least one condition of R155 holds. -/
def State.alarmCondition (s : State) : Bool :=
  s.markAlarm || (decide (s.report.alarmLevel ≤ 6) && (s.lineAlarm || s.plantAlarm))

/-- In LEVEL mode the alarm line follows the conditions; in PULSE mode they do not drive it. -/
def State.followAlarm (s : State) : State :=
  match s.report.mode with
  | .level => { s with alarm := s.alarmCondition }
  | .pulse => s

end Sys2Proof.Machine
end

