-- ==== Sys2Proof/Machine/Notices.lean ====
section
/-! DEFINITION. Offering a notice, the full queue, the evaluation of a mark, and the report settings (R15, R151 to R158). -/

namespace Sys2Proof.Machine

/-- The lowest level among some notices. -/
def lowestLevel : List Notice → Nat
  | [] => 8
  | n :: ns => min n.level (lowestLevel ns)

/-- Removes the LAST notice of level `lvl` (R152: the one that joined the queue last). -/
def removeNewest (lvl : Nat) : List Notice → List Notice
  | [] => []
  | n :: ns => if ns.any (·.level == lvl) then n :: removeNewest lvl ns
               else if n.level == lvl then ns else n :: ns

/-- The queue after a notice that has passed the floor is offered to it (R151 steps 4 and 5, R152). -/
def enqueue (n : Notice) (q : List Notice) : List Notice :=
  if q.length < Config.noticeCapacity then q ++ [n]
  else if lowestLevel q < n.level then removeNewest (lowestLevel q) q ++ [n]
  else q

/-- In PULSE mode a notice at or above the alarm level asserts the alarm line and (re)starts its 200 ms pulse (R156). -/
def State.pulseFor (s : State) (level : Nat) : State :=
  match s.report.mode with
  | .pulse => if s.report.alarmLevel ≤ level then { s with alarm := true, pulsing := true } else s
  | .level => s

/-- Offers a notice (R151): it is stamped, its level is given to the alarm line, it is tested against the report floor,
and it joins the queue or meets the full queue. -/
def State.offer (s : State) (body : NoticeBody) (subject : Subject) : State :=
  let s := s.pulseFor body.level
  if body.level < s.report.floor then s
  else { s with notices := enqueue { body, subject, clock := s.clock } s.notices }

/-- Evaluates a mark of zone `z` whose condition is `holds` (R15): a mark that is newly set is added, its MARK SET notice
is offered, and the alarm line follows the marks. -/
def State.evalMark (s : State) (z : Nat) (m : Mark) (holds : Bool) : State :=
  match s.zone? z with
  | some r =>
    if holds && !r.marks.contains m then
      ((s.putZone z { r with marks := r.marks ++ [m] }).followAlarm).offer (.markSet m) (.zone z)
    else s
  | none => s

/-- MARKS CLEAR (R18): the named marks whose conditions do not hold are removed. -/
def State.clearMarks (s : State) (z : Nat) (named : List Mark) : State :=
  (s.modZone z fun r => { r with marks := r.marks.filter fun m => !(named.contains m && !r.markHolds s.now m) }).followAlarm

/-- The named marks that MARKS CLEAR keeps at `now`, in the order of R17. -/
def Zone.keptMarks (r : Zone) (now : Nat) (named : List Mark) : List Mark :=
  allMarks.filter fun m => named.contains m && r.markHolds now m

/-- REPORT SET (R154, R157): the floor with its purge first, then the alarm level and mode. -/
def State.setReport (s : State) (r : ReportSettings) : State :=
  let kept := if s.report.floor < r.floor then s.notices.filter fun n => r.floor ≤ n.level else s.notices
  let s1 := { s with notices := kept, report := r }
  match s.report.mode, r.mode with
  | .level, .level => s1.followAlarm
  | .level, .pulse => { s1 with alarm := false, pulsing := false }
  | .pulse, .level => { s1 with pulsing := false }.followAlarm
  | .pulse, .pulse => s1

end Sys2Proof.Machine
end

