-- ==== Sys2Proof/Machine/Commands.lean ====
section
/-! DEFINITION. Placing an actuator command, what a failed command does to the block that issued it, and the trim pulse
endings and bank recovery that place commands of their own (R55, R56, R72 to R75, R95, R141, R142). -/

namespace Sys2Proof.Machine

/-! ## Demands in order (R83) -/

/-- The order of the pending list: by level, highest first, then by arrival number, lowest first. -/
def Demand.precedes (a b : Demand) : Bool := b.level < a.level || (a.level == b.level && a.arrival < b.arrival)

def insertDemand (d : Demand) : List Demand → List Demand
  | [] => [d]
  | x :: xs => if d.precedes x then d :: x :: xs else x :: insertDemand d xs

/-- The demands of `ds` entered into the list `l`, each at its place. -/
def insertDemands (ds l : List Demand) : List Demand := ds.foldr insertDemand l

/-- The highest level among some demands, or 0 (R84). -/
def topLevel (ds : List Demand) : Nat := ds.foldr (fun d m => max d.level m) 0

/-- The plant with both timers stopped and their flags cleared. -/
def Plant.stopTimers (r : Plant) : Plant :=
  { r with minRunDue := none, minRunElapsed := false, changeDue := none, changeExpired := false, changeAcked := false }

/-- Every demand of the service set returns to the pending list, keeping its arrival number. -/
def Plant.returnService (r : Plant) : Plant :=
  { r with service := [], waiting := insertDemands r.service r.waiting, serviceLevel := 0 }

/-! ## What a failure does to an owner -/

/-- R48: the next light review sends the current level again. -/
def State.dimmerFailed (s : State) (z : Nat) : State :=
  s.modZone z fun r => { r with light := { r.light with refreshOwed := true } }

/-- R55. -/
def State.bankFault (s : State) (b : Nat) : State := s.modBank b fun r => { r with state := .faulted }

/-- R74: trim becomes unavailable with an OFF owed, and a pulse in flight ends with no command queued. -/
def State.trimFault (s : State) (z : Nat) : State :=
  s.modZone z fun r =>
    if r.climate.trimUnavailable then r
    else { r with climate := { r.climate with trimUnavailable := true, offOwed := true, pulse := none } }

/-- R95: a plant that is not FAULTED returns its demands, stops its timers, becomes FAULTED and offers PLANT FAULT. -/
def State.plantFault (s : State) (p : Nat) (reason : PlantFaultReason) : State :=
  match s.plant? p with
  | some r =>
    if r.state == .faulted then s
    else ((s.putPlant p { r.returnService.stopTimers with state := .faulted }).followAlarm).offer
      (.plantFault reason r.target) (.plant p)
  | none => s

/-! ## Outcomes returned to the issuer (R142) -/

/-- The issuer still names the device in the role the command had. -/
def State.issuerNames (s : State) (i : Issuer) (d : DeviceAddr) : Bool :=
  match i with
  | .governor z => (s.zone? z).any fun r => r.defn.dimmer == some d
  | .bank b => (s.bank? b).any fun r => r.louvre == d
  | .tracker z => (s.zone? z).any fun r => r.defn.trim == some d
  | .arbiter p => (s.plant? p).any fun r => r.controller == d

/-- The final failure of a command to device `d`, returned to its issuer where that still names the device. -/
def State.commandFailed (s : State) (i : Issuer) (d : DeviceAddr) : State :=
  if s.issuerNames i d then
    match i with
    | .governor z => s.dimmerFailed z
    | .bank b => s.bankFault b
    | .tracker z => s.trimFault z
    | .arbiter p => s.plantFault p .commandFailed
  else s

/-! ## Placing a command (R141) -/

/-- A queued command for the same actuator takes the new value and issuer in place; else the command joins the end. -/
def enqueueCommand (c : Command) (q : List Command) : List Command :=
  if q.any (·.address == c.address) then q.map fun x => if x.address == c.address then c else x else q ++ [c]

/-- A placed command is taken into the line's queue in these states, and fails at once in the others. -/
def LineState.takesCommands : LineState → Bool
  | .active | .enrolling | .recovering => true
  | .off | .disabled => false

/-- Places a command with value `v` for device `d` (R141). A failure at once is acted on within the placement. -/
def State.place (s : State) (d : DeviceAddr) (v : Nat) (i : Issuer) : State :=
  match s.line? d.line with
  | some l =>
    if l.state.takesCommands then s.putLine d.line { l with queue := enqueueCommand ⟨d.address, v, i⟩ l.queue }
    else s.commandFailed i d
  | none => s

/-- The zone's dimmer device, if it has one, is sent level `v` (R9, R48). -/
def State.placeDimmer (s : State) (z : Nat) (d : Option DeviceAddr) (v : Nat) : State :=
  match d with
  | some d => s.place d v (.governor z)
  | none => s

/-! ## Trim pulses (R72 to R75) -/

/-- Ends the trim pulse of zone `z`, if one is in flight: its timer stops with its record, and OFF is placed for the device
of the pulse. The trim count is unchanged. -/
def State.endPulse (s : State) (z : Nat) : State :=
  match s.zone? z with
  | some r =>
    match r.climate.pulse with
    | some p =>
      (s.putZone z { r with climate := { r.climate with pulse := none } }).place p.device trimOff (.tracker z)
    | none => s
  | none => s

/-- R75: service begins for zone `z`. -/
def State.serviceBegins (s : State) (z : Nat) : State := s.endPulse z

/-- R74: the zone's trim device has entered ACTIVE; an OFF that is owed is placed. -/
def State.trimAvailable (s : State) (z : Nat) : State :=
  match s.zone? z with
  | some r =>
    if r.climate.trimUnavailable then
      let s := s.putZone z { r with climate := { r.climate with trimUnavailable := false, offOwed := false } }
      match r.climate.offOwed, r.defn.trim with
      | true, some d => s.place d trimOff (.tracker z)
      | _, _ => s
    else s
  | none => s

/-! ## Banks (R56) -/

/-- A SET transaction with the device is in flight on its line. -/
def Transaction.isSetTo (t : Transaction) (address : Nat) : Bool :=
  match t.ask with
  | .set _ _ => t.address == address
  | .poll | .ident => false

/-- A command for the device is queued or in flight on its line. -/
def Line.hasCommandFor (l : Line) (address : Nat) : Bool :=
  l.queue.any (·.address == address) || l.inFlight.any fun t => t.isSetTo address

/-- Places a louvre command with the bank's commanded closure. -/
def State.placeClosure (s : State) (b : Nat) : State :=
  match s.bank? b with
  | some r => s.place r.louvre r.commanded (.bank b)
  | none => s

/-- R56: a FAULTED bank becomes ACTIVE, and sends its commanded closure unless a command for its device is on the way. -/
def State.bankRecover (s : State) (b : Nat) : State :=
  match s.bank? b with
  | some r =>
    if r.state == .faulted then
      let s := s.putBank b { r with state := .active }
      if (s.line? r.louvre.line).any fun l => l.hasCommandFor r.louvre.address then s else s.placeClosure b
    else s
  | none => s

end Sys2Proof.Machine
end

