-- ==== Sys2Proof/Machine/Plants.lean ====
section
/-! DEFINITION. Plant arbitration: selection, raise, update, withdrawal, preemption, changeover, faults and recovery, hold and
release, and the two timers of a plant (R82 to R103). -/

namespace Sys2Proof.Machine

/-! ## Entering RUNNING, CHANGEOVER and IDLE -/

/-- Places a duty command for plant `p`; the commanded duty becomes the value placed (R94). -/
def State.placeDuty (s : State) (p : Nat) (duty : Duty) : State :=
  match s.plant? p with
  | some r => (s.putPlant p { r with commanded := duty }).place r.controller duty.code (.arbiter p)
  | none => s

/-- R86. The zones' receipts of service begins are not ordered among themselves, and the OFF commands they place may join one
line's queue: the model takes the zones in the order of the service set (DESIGN CHOICE, log entry 40). -/
def State.enterRunning (s : State) (p : Nat) : State :=
  match s.plant? p with
  | some r =>
    let s := s.putPlant p { r with state := .running, minRunDue := some (s.now + Config.minimumRun), minRunElapsed := false }
    let s := if r.commanded == r.target then s else s.placeDuty p r.target
    let s := s.offer (.plantDuty r.target r.serviceLevel r.service.length) (.plant p)
    r.service.foldl (fun s d => s.serviceBegins d.zone) s
  | none => s

/-- R92. The timer and the flags are set before the command is placed, so that a command that fails at once finds the
changeover it belongs to and faults the plant out of it (log entry 23). -/
def State.enterChangeover (s : State) (p : Nat) : State :=
  match s.plant? p with
  | some r =>
    let s := s.putPlant p { r with state := .changeover, changeDue := some (s.now + Config.changeoverSeconds),
                                   changeExpired := false, changeAcked := false }
    s.placeDuty p r.target
  | none => s

/-- R85 step 1. -/
def State.enterIdle (s : State) (p : Nat) : State :=
  match s.plant? p with
  | some r =>
    let s := s.putPlant p { r with state := .idle, target := .neutral, serviceLevel := 0 }
    if r.physical == .neutral && r.commanded == .neutral then s else s.placeDuty p .neutral
  | none => s

/-- Selection (R85): with demands waiting, every one of the head's duty joins the service set, and the plant runs where it
is physically in that duty and changes over where it is not. -/
def State.select (s : State) (p : Nat) : State :=
  match s.plant? p with
  | some r0 =>
    let r := r0.stopTimers
    match r.waiting with
    | [] => (s.putPlant p r).enterIdle p
    | h :: _ =>
      let served := r.waiting.filter fun d => d.duty == h.duty
      let s := s.putPlant p
        { r with service := served, waiting := r.waiting.filter fun d => d.duty != h.duty, target := h.duty,
                 serviceLevel := topLevel served }
      if r.physical == h.duty then s.enterRunning p else s.enterChangeover p
  | none => s

/-! ## Preemption (R90) -/

/-- The test of R90. -/
def Plant.preempted (r : Plant) : Bool :=
  r.state == .running && r.minRunElapsed && r.waiting.head?.any fun h => r.serviceLevel < h.level

/-- The preemption test; where it finds one, the served demands return and a selection follows. -/
def State.preemptTest (s : State) (p : Nat) : State :=
  match s.plant? p with
  | some r => if r.preempted then (s.putPlant p r.returnService).select p else s
  | none => s

/-! ## Raise, update, withdraw (R87 to R89) -/

/-- R83: with the counter at its end, every demand takes its rank among the present arrival numbers. -/
def Plant.renumber (r : Plant) : Plant :=
  let all := r.service ++ r.waiting
  let rank (d : Demand) : Demand := { d with arrival := (all.filter fun e => e.arrival < d.arrival).length + 1 }
  { r with service := r.service.map rank, waiting := r.waiting.map rank, arrivals := all.length }

/-- The plant ready to give out its next arrival number. -/
def Plant.numbered (r : Plant) : Plant := if r.arrivals = Config.count32Max then r.renumber else r

/-- The plant after a new demand has taken its place: in the service set where the plant is moving to or performing that
duty, else in the pending list (R87). -/
def Plant.accept (r : Plant) (z : Nat) (duty : Duty) (level : Nat) : Plant :=
  let r := r.numbered
  let d : Demand := { zone := z, duty, level, arrival := r.arrivals + 1 }
  let r := { r with arrivals := r.arrivals + 1 }
  if (r.state == .changeover || r.state == .running) && duty == r.target then
    { r with service := insertDemand d r.service, serviceLevel := topLevel (d :: r.service) }
  else { r with waiting := insertDemand d r.waiting }

/-- A raise from zone `z` (R87). -/
def State.raise (s : State) (p z : Nat) (duty : Duty) (level : Nat) : State :=
  match s.plant? p with
  | some r =>
    let s := s.putPlant p (r.accept z duty level)
    match r.state with
    | .idle => s.select p
    | .running => if duty == r.target then s.serviceBegins z else s.preemptTest p
    | .changeover | .held | .faulted => s
  | none => s

/-- The plant with the level of zone `z`'s demand replaced, and a pending demand at its new place (R88). -/
def Plant.relevel (r : Plant) (z level : Nat) : Plant :=
  let service := r.service.map fun d => if d.zone == z then { d with level } else d
  let moved := (r.waiting.filter fun d => d.zone == z).map fun d => { d with level }
  { r with service := insertDemands service [], serviceLevel := topLevel service,
           waiting := insertDemands moved (r.waiting.filter fun d => d.zone != z) }

/-- An update from zone `z` (R88). The preemption test finds nothing in a plant that is not RUNNING. -/
def State.update (s : State) (p z level : Nat) : State :=
  match s.plant? p with
  | some r => (s.putPlant p (r.relevel z level)).preemptTest p
  | none => s

/-- The plant without zone `z`'s demand. -/
def Plant.drop (r : Plant) (z : Nat) : Plant :=
  let service := r.service.filter fun d => d.zone != z
  { r with service, serviceLevel := topLevel service, waiting := r.waiting.filter fun d => d.zone != z }

/-- A withdrawal of zone `z`'s demand (R89). -/
def State.withdraw (s : State) (p z : Nat) : State :=
  match s.plant? p with
  | some r =>
    let s := s.putPlant p (r.drop z)
    if r.state == .running && r.service.any fun d => d.zone == z then
      if (r.drop z).service.isEmpty then s.select p else s.preemptTest p
    else s
  | none => s

/-! ## Changeover (R92, R93) and duty commands (R94 to R96) -/

/-- R93: a changeover whose timer has expired and whose command is acknowledged completes. -/
def State.completeChangeover (s : State) (p : Nat) : State :=
  match s.plant? p with
  | some r =>
    if r.state == .changeover && r.changeExpired && r.changeAcked then
      let s := s.putPlant p r.stopTimers
      if r.service.isEmpty then s.select p else s.enterRunning p
    else s
  | none => s

/-- R94: a duty command of value `v` succeeded. -/
def State.dutySucceeded (s : State) (p v : Nat) : State :=
  match s.plant? p, Duty.ofCode? v with
  | some r, some duty =>
    let acked := r.state == .changeover && duty == r.target
    (s.putPlant p { r with physical := duty, changeAcked := r.changeAcked || acked }).completeChangeover p
  | _, _ => s

/-- R96: a FAULTED plant takes the duty its controller reported, becomes IDLE and selects. -/
def State.plantRecover (s : State) (p : Nat) (reported : Option Nat) : State :=
  match s.plant? p with
  | some r =>
    if r.state == .faulted then
      let physical := (reported.bind Duty.ofCode?).getD r.physical
      ((s.putPlant p { r with state := .idle, physical }).followAlarm).select p
    else s
  | none => s

/-! ## Host requests (R97 to R100) -/

/-- The record of a plant just defined, and of a defined plant at start (R82). -/
def Plant.fresh (controller : DeviceAddr) : Plant :=
  { state := .idle, controller, physical := .neutral, commanded := .neutral, target := .neutral, service := [],
    waiting := [], serviceLevel := 0, arrivals := 0, minRunDue := none, minRunElapsed := false, changeDue := none,
    changeExpired := false, changeAcked := false }

/-- A command for the device would be taken into the queue of its line (R141). -/
def State.takesCommandFor (s : State) (d : DeviceAddr) : Bool := (s.line? d.line).any fun l => l.state.takesCommands

/-- Steps 2 and 3 of R98, with the duties of step 4 and the state of step 5: the plant names its new controller, every
demand waits, and both duties are NEUTRAL. -/
def Plant.withController (r : Plant) (d : DeviceAddr) : Plant :=
  { r.returnService.stopTimers with controller := d, state := .idle, target := .neutral, physical := .neutral,
                                    commanded := .neutral }

/-- An accepted PLANT DEFINE naming another device than the defined plant `r` does (R98): NEUTRAL to the old controller,
whose outcome reaches no plant, NEUTRAL to the new one, and a selection. DEDUCED (log entry 23): where the line of the new
controller takes no command, the failure of its NEUTRAL is returned within the request as R141 says, after the selection. -/
def State.changeController (s : State) (p : Nat) (r : Plant) (d : DeviceAddr) : State :=
  let s := ((s.putPlant p (r.withController d)).followAlarm).place r.controller Duty.neutral.code (.arbiter p)
  if s.takesCommandFor d then (s.place d Duty.neutral.code (.arbiter p)).select p
  else (s.select p).commandFailed (.arbiter p) d

/-- An accepted PLANT DEFINE (R97, R98). -/
def State.definePlant (s : State) (p : Nat) (d : DeviceAddr) : State :=
  match s.plant? p with
  | none => (s.putPlant p (Plant.fresh d)).placeDuty p .neutral
  | some r => if r.controller == d then s else s.changeController p r d

/-- An accepted PLANT HOLD (R99). -/
def State.holdPlant (s : State) (p : Nat) (duty : Duty) : State :=
  match s.plant? p with
  | some r =>
    (s.putPlant p { r.returnService.stopTimers with state := .held, target := duty }).placeDuty p duty
  | none => s

/-! ## Timers of the plant -/

/-- R91. -/
def State.minimumRunExpiry (s : State) (p : Nat) : State :=
  match s.plant? p with
  | some r =>
    if r.state == .running && s.expired r.minRunDue then
      (s.putPlant p { r with minRunElapsed := true, minRunDue := none }).preemptTest p
    else s
  | none => s

/-- R92: the changeover timer expires. -/
def State.changeoverTimerExpiry (s : State) (p : Nat) : State :=
  match s.plant? p with
  | some r =>
    if r.state == .changeover && s.expired r.changeDue then
      (s.putPlant p { r with changeExpired := true, changeDue := none }).completeChangeover p
    else s
  | none => s

end Sys2Proof.Machine
end

