-- ==== Sys2Proof/Machine/Devices.lean ====
section
/-! DEFINITION. The field device table: readings, the outcome of a transaction with an entry, the reports to its owner, and
what an enrolment probe does to the table (R116 to R131). -/

namespace Sys2Proof.Machine

/-! ## Readings (R120, R133) -/

/-- Bit `i` of a byte's number is set. -/
def bitSet (n i : Nat) : Bool := n / 2 ^ i % 2 = 1

def luxOf (raw flags : Nat) : Quantity := { value := raw, valid := !bitSet flags 0 }

/-- A UV ratio above 5000 is recorded as 5000. -/
def uvOf (raw flags : Nat) : Quantity := { value := (min raw 5000 : Nat), valid := !bitSet flags 1 }

/-- An RH above 1000 is recorded as 1000. -/
def rhOf (raw flags : Nat) : Quantity := { value := (min raw 1000 : Nat), valid := !bitSet flags 2 }

/-- A temperature outside −400..850 is recorded as received, and invalid. -/
def tempOf (raw flags : Nat) : Quantity :=
  let v := int16Of raw
  { value := v, valid := !bitSet flags 3 && decide (-400 ≤ v) && decide (v ≤ 850) }

/-- The reading a READING payload carries, by the kind of the sensor; none where the length is not that kind's. -/
def readingOf (kind : DeviceKind) (payload : List Byte) (clock arrived : Nat) : Option Reading :=
  let u16 (i : Nat) : Nat := natOf ((payload.drop i).take 2)
  let u8 (i : Nat) : Nat := natOf ((payload.drop i).take 1)
  match kind, payload.length with
  | .lightSensor, 5 =>
    some { illuminance := some (luxOf (u16 0) (u8 4)), uvRatio := some (uvOf (u16 2) (u8 4)), rh := none,
           temperature := none, clock, arrived }
  | .climateSensor, 5 =>
    some { illuminance := none, uvRatio := none, rh := some (rhOf (u16 0) (u8 4)),
           temperature := some (tempOf (u16 2) (u8 4)), clock, arrived }
  | .lightClimateSensor, 9 =>
    some { illuminance := some (luxOf (u16 0) (u8 8)), uvRatio := some (uvOf (u16 2) (u8 8)),
           rh := some (rhOf (u16 4) (u8 8)), temperature := some (tempOf (u16 6) (u8 8)), clock, arrived }
  | _, _ => none

/-- The greatest value an actuator of a kind reports or takes (R116, R133); a sensor has none. -/
def DeviceKind.valueMax? : DeviceKind → Option Nat
  | .dimmer | .louvre => some 100
  | .trimUnit => some 2
  | .plantController => some 4
  | .lightSensor | .climateSensor | .lightClimateSensor => none

/-- The value an actuator's READING payload reports; none where it is not a report of that kind (R121). -/
def reportOf (kind : DeviceKind) (payload : List Byte) : Option Nat :=
  match kind.valueMax?, payload with
  | some hi, [b] => if b.toNat ≤ hi then some b.toNat else none
  | _, _ => none

/-- A READING payload suits the entry's kind (R134). -/
def DeviceKind.suits (kind : DeviceKind) (payload : List Byte) : Bool :=
  (readingOf kind payload 0 0).isSome || (reportOf kind payload).isSome

/-! ## Reports to the owner (R124) -/

/-- The entry at the device entered FAULTED. -/
def State.ownerFault (s : State) : Option Owner → State
  | some (.zoneTrim z) => s.trimFault z
  | some (.bank b) => s.bankFault b
  | some (.plant p) => s.plantFault p .deviceFaulted
  | some (.zoneDimmer _) => s
  | none => s

/-- A successful transaction with the device, which has just recorded `value`. -/
def State.ownerSuccess (s : State) (value : Option Nat) : Option Owner → State
  | some (.zoneTrim z) => s.trimAvailable z
  | some (.bank b) => s.bankRecover b
  | some (.plant p) => s.plantRecover p value
  | some (.zoneDimmer _) => s
  | none => s

/-! ## Outcomes (R122, R123) -/

/-- The entry after a successful poll with this payload: the reading or the reported value is written. -/
def Device.polled (e : Device) (payload : List Byte) (clock now : Nat) : Device :=
  match readingOf e.kind payload clock now with
  | some r => { e with reading := some r }
  | none => { e with reported := (reportOf e.kind payload).or e.reported }

/-- The entry after a successful command transaction with this value: the acknowledged command is written in the report of an
actuator; a sensor has no report (R117, R121). -/
def Device.acknowledged (e : Device) (v : Nat) : Device :=
  if e.kind.isActuator then { e with acked := some v } else e

/-- A successful transaction with entry `e`, whose reading or report `upd` writes and which records `value` (R122). -/
def State.deviceSuccess (s : State) (e : Device) (upd : Device → Device) (value : Option Nat) : State :=
  let s := s.modDevice e.addr fun x => upd { x with failures := 0, state := .active }
  let s := if e.state == .faulted then s.offer (.deviceRecovered e.line e.address) (.device e.line e.address) else s
  s.ownerSuccess value (s.owner? e.addr)

/-- The state of an entry after a final failure that brings its count to `n` (R123). -/
def DeviceState.afterFailure (n : Nat) : DeviceState → DeviceState
  | .faulted => .faulted
  | .absent => .absent
  | .enrolled | .active | .suspect => if n < Config.faultThreshold then .suspect else .faulted

/-- A final failure of a transaction with entry `e` (R123). -/
def State.deviceFailure (s : State) (e : Device) (reason : FaultReason) : State :=
  let n := min (e.failures + 1) Config.failuresMax
  let after := e.state.afterFailure n
  let s := s.modDevice e.addr fun x => { x with failures := n, state := after, fault := some ⟨reason, s.clock⟩ }
  if after == .faulted && e.state != .faulted then
    (s.offer (.deviceFault e.line e.address reason n) (.device e.line e.address)).ownerFault (s.owner? e.addr)
  else s

/-! ## Enrolment probes (R126) -/

/-- The entry an enrolment adds (R117). -/
def Device.enrolled (l a : Nat) (k : DeviceKind) : Device :=
  { line := l, address := a, kind := k, state := .enrolled, failures := 0, reading := none, reported := none,
    acked := none, fault := none, mismatch := false }

/-- An actuator kind where the line already holds its sixteen actuators (R118). -/
def State.actuatorsFull (s : State) (l : Nat) (k : DeviceKind) : Bool :=
  k.isActuator && Config.actuatorsPerLine ≤ (s.lineActuators l).length

/-- A valid IDENT reply of kind `k` from an address without an entry. -/
def State.probeNew (s : State) (l a : Nat) (k : DeviceKind) : State × Bool :=
  if s.devices.length < Config.deviceCapacity && !s.actuatorsFull l k then (s.addDevice (Device.enrolled l a k), true)
  else (s, false)

/-- An entry that answers as a kind it cannot take: FAULTED with WRONG_KIND. A DEVICE FAULT notice and the report to the
owner are given where it was not FAULTED already (log entry 22 for an entry without an owner). -/
def State.probeWrongKind (s : State) (e : Device) : State :=
  let s' := s.modDevice e.addr fun x =>
    { x with state := .faulted, fault := some ⟨.wrongKind, s.clock⟩, mismatch := true }
  if e.state == .faulted then s'
  else (s'.offer (.deviceFault e.line e.address .wrongKind e.failures) (.device e.line e.address)).ownerFault
    (s'.owner? e.addr)

/-- What the outcome of a probe adds to the counts of the enrolment. -/
structure ProbeCount where
  found : Nat
  added : Nat
  absent : Nat
  notAdded : Nat
  deriving DecidableEq, Repr

/-- A valid IDENT reply of kind `k` from address `a` of line `l` (R126). -/
def State.probeFound (s : State) (l a : Nat) (k : DeviceKind) : State × ProbeCount :=
  match s.device? ⟨l, a⟩ with
  | some e =>
    if e.kind = k then
      (s.modDevice ⟨l, a⟩ fun x =>
        if x.state == .absent then { x with state := .enrolled, failures := 0, mismatch := false }
        else { x with mismatch := false }, ⟨1, 0, 0, 0⟩)
    else if (s.owner? ⟨l, a⟩).isSome then (s.probeWrongKind e, ⟨1, 0, 0, 0⟩)
    else if s.actuatorsFull l k then (s.probeWrongKind e, ⟨1, 0, 0, 1⟩)
    else (s.modDevice ⟨l, a⟩ fun _ => Device.enrolled l a k, ⟨1, 0, 0, 0⟩)
  | none =>
    match s.probeNew l a k with
    | (s', true) => (s', ⟨1, 1, 0, 0⟩)
    | (s', false) => (s', ⟨1, 0, 0, 1⟩)

/-- No reply from address `a` of line `l` within the timeout (R126). -/
def State.probeSilent (s : State) (l a : Nat) : State × ProbeCount :=
  match s.device? ⟨l, a⟩ with
  | some _ =>
    (s.modDevice ⟨l, a⟩ fun x => { x with state := .absent, reading := none, reported := none, acked := none },
     ⟨0, 0, 1, 0⟩)
  | none => (s, ⟨0, 0, 0, 0⟩)

end Sys2Proof.Machine
end

