-- ==== Sys2Proof/Machine/Lines.lean ====
section
/-! DEFINITION. The field line controllers: classing a reply, transactions and their outcomes, poll rounds, enrolment, hangs and
recovery (R125 to R128, R132 to R149). -/

namespace Sys2Proof.Machine

/-! ## Classing an attempt (R134) -/

/-- The outcome of an attempt: the payload of a reply that passes every test, or the reason it failed. -/
inductive Attempt where
  | ok (payload : List Byte)
  | failed (reason : FaultReason)
  deriving DecidableEq, Repr

/-- The bytes of the reply packet, if they are complete: as many as the payload length calls for, with the check byte.
Bytes after it are ignored. -/
def completePacket (bytes : List FieldByte) : Option (List FieldByte) :=
  match bytes[2]? with
  | some len => let n := len.data.toNat + 4
                if n ≤ bytes.length then some (bytes.take n) else none
  | none => none

def Ask.replyKind : Ask → Byte
  | .poll => readingKind | .set _ _ => setAckKind | .ident => identReplyKind

/-- The content test of R134, for the entry addressed; where the table no longer holds an entry, no kind can be asked of a
READING (log entry 25). A SET-ACK is tested against the value sent alone: the range of R121, to which R134 points for an
actuator value, is stated there for the reply to a poll; so an acknowledgement outside the range of a kind that a probe has
changed meanwhile passes (DEDUCED, log entry 36). -/
def contentSuits (entry : Option Device) (payload : List Byte) : Ask → Bool
  | .poll => entry.all fun e => !e.mismatch && e.kind.suits payload
  | .set v _ => payload == be 1 v && entry.all fun e => !e.mismatch
  | .ident => payload.length == 1

/-- The tests of R134 on a complete packet, in their order. -/
def classifyPacket (ask : Ask) (address : Nat) (entry : Option Device) (packet : List FieldByte) : Attempt :=
  let bs := packet.map (·.data)
  let payload := (bs.drop 3).take (bs.length - 4)
  if !packet.all wellFramed then .failed .garbled
  else if 12 < payload.length then .failed .garbled
  else if bs.sum != 0 then .failed .garbled
  else if bs.take 1 != be 1 address then .failed .wrongReply
  else if (bs.drop 1).take 1 != [ask.replyKind] then .failed .wrongReply
  else if !contentSuits entry payload ask then .failed .wrongReply
  else .ok payload

/-! ## Rounds (R139) -/

def State.startRound (s : State) (l : Nat) : State :=
  s.modLine l fun r =>
    { r with roundCounter := (r.roundCounter + 1) % 10, pollPos := 0, roundInProgress := true,
             roundDue := some (s.now + Config.roundSeconds) }

/-- A round starts where the line is ACTIVE and holds no enrolment progress, none is in progress, and its timer has
expired or been stopped. -/
def State.startRoundIfDue (s : State) (l : Nat) : State :=
  match s.line? l with
  | some r =>
    if r.state == .active && r.enrolment.isNone && !r.roundInProgress && r.roundDue.isNone then s.startRound l else s
  | none => s

/-- The entry the next poll of the round goes to. -/
def State.nextPoll (s : State) (l : Nat) (r : Line) : Option Device :=
  (s.lineDevices l).find? fun e =>
    decide (r.pollPos < e.address) && e.state != .absent && (r.roundCounter == 0 || e.state != .faulted)

/-! ## Sending -/

/-- The request of a transaction is sent on the line, and its reply is awaited. -/
def Line.send (r : Line) (t : Transaction) : Line :=
  { r with inFlight := some { t with awaiting := true }, sent := requestPacket t.address t.ask }

/-- A transaction as it begins (R137). -/
def Transaction.new (address : Nat) (ask : Ask) : Transaction :=
  { ask, address, retries := 0, lastReason := none, awaiting := true }

/-- R140: an ACTIVE line with nothing in flight and no enrolment progress takes up its oldest queued command, else the
next poll of a round in progress; where no entry remains, the round ends. A line that LINE ENABLE has made ACTIVE within the
release sequence of its third hang may send before that release has ended (DEDUCED, log entry 34). -/
def State.takeUp (s : State) (l : Nat) : State :=
  match s.line? l with
  | some r =>
    if r.state == .active && r.enrolment.isNone && r.inFlight.isNone then
      match r.queue with
      | c :: rest => s.putLine l ({ r with queue := rest }.send (.new c.address (.set c.value c.issuer)))
      | [] =>
        if r.roundInProgress then
          match s.nextPoll l r with
          | some e => s.putLine l ({ r with pollPos := e.address }.send (.new e.address .poll))
          | none => (s.putLine l { r with roundInProgress := false }).startRoundIfDue l
        else s
    else s
  | none => s

/-- R137, R145: the request of a transaction in flight that waits to be sent (again) is sent. -/
def State.resend (s : State) (l : Nat) : State :=
  match s.line? l with
  | some r =>
    match r.inFlight with
    | some t => if r.state == .active && !t.awaiting then s.putLine l (r.send t) else s
    | none => s
  | none => s

/-- R126: an ENROLLING line sends the IDENT probe to its next address. -/
def State.sendProbe (s : State) (l : Nat) : State :=
  match s.line? l with
  | some r =>
    match r.enrolment, r.inFlight with
    | some e, none => if r.state == .enrolling then s.putLine l (r.send (.new e.next .ident)) else s
    | _, _ => s
  | none => s

/-! ## Enrolment (R125 to R128) -/

/-- R125: a line that holds enrolment progress enters ENROLLING once nothing is in flight; a round in progress ends. -/
def State.enterEnrolling (s : State) (l : Nat) : State :=
  s.modLine l fun r =>
    if r.state == .active && r.enrolment.isSome && r.inFlight.isNone then
      { r with state := .enrolling, roundInProgress := false }
    else r

/-- R127. -/
def State.completeEnrolment (s : State) (l : Nat) (e : Enrolment) : State :=
  let s := s.offer (.enrolDone true e.found e.added e.absent e.notAdded) (.line l)
  (s.modLine l fun r => { r with enrolment := none, state := .active }).startRound l

/-- The outcome of the probe of address `a` has been applied: the counts rise, and the next address follows or the
enrolment is complete. -/
def State.advanceEnrolment (s : State) (l a : Nat) (c : ProbeCount) : State :=
  match s.line? l with
  | some r =>
    match r.enrolment with
    | some e =>
      let e : Enrolment := { next := e.next, found := e.found + c.found, added := e.added + c.added,
                             absent := e.absent + c.absent, notAdded := e.notAdded + c.notAdded }
      if a = Config.lastAddress then s.completeEnrolment l e
      else s.putLine l { r with enrolment := some { e with next := a + 1 } }
    | none => s
  | none => s

/-- A probe that changes an entry obliges the next checkpoint to write the configuration record (R165, R168). -/
def State.noteProbe (s : State) (before : List Device) : State :=
  { s with configChanged := s.configChanged || decide (s.devices ≠ before) }

/-- The outcome of the probe of address `a` is applied to the table (R126). -/
def State.applyProbe (s : State) (l a : Nat) (result : Attempt) : State :=
  let before := s.devices
  let s := s.modLine l fun r => { r with inFlight := none }
  let (s, count) :=
    match result with
    | .ok payload =>
      match DeviceKind.ofCode? (natOf payload) with
      | some k => s.probeFound l a k
      | none => (s, ⟨0, 0, 0, 0⟩)
    | .failed .noReply => s.probeSilent l a
    | .failed _ => (s, ⟨0, 0, 0, 0⟩)
  (s.noteProbe before).advanceEnrolment l a count

/-- R128: an enrolment on the line is abandoned at a hang, with its notice. -/
def State.abandonEnrolment (s : State) (l : Nat) : State :=
  match (s.line? l).bind (·.enrolment) with
  | some e =>
    (s.modLine l fun r => { r with enrolment := none }).offer
      (.enrolDone false e.found e.added e.absent e.notAdded) (.line l)
  | none => s

def Transaction.isProbe (t : Transaction) : Bool := t.ask == .ident

/-- R128, R174: RESTART abandons an enrolment without a notice; an IDENT probe in flight is dropped; a line that was
ENROLLING becomes ACTIVE and starts a round, and one that stays ACTIVE starts the round that is due (log entry 21). -/
def State.dropEnrolment (s : State) (l : Nat) : State :=
  match s.line? l with
  | some r =>
    if r.enrolment.isSome then
      let s := s.putLine l { r with enrolment := none, inFlight := r.inFlight.filter fun t => !t.isProbe,
                                    state := if r.state == .enrolling then .active else r.state }
      if r.state == .enrolling then s.startRound l else s.startRoundIfDue l
    else s
  | none => s

/-! ## Outcomes (R137) -/

/-- The transaction record is removed, and a line that holds enrolment progress enters ENROLLING. -/
def State.endTransaction (s : State) (l : Nat) : State :=
  (s.modLine l fun r => { r with inFlight := none }).enterEnrolling l

/-- A success is returned to the command's issuer, where it still names the device (R142): only a plant acts on it. -/
def State.commandSucceeded (s : State) (i : Issuer) (d : DeviceAddr) (v : Nat) : State :=
  if s.issuerNames i d then
    match i with
    | .arbiter p => s.dutySucceeded p v
    | .governor _ | .bank _ | .tracker _ => s
  else s

/-- The hang count is set to 0 by each successful attempt of the line. -/
def State.clearHangs (s : State) (l : Nat) : State := s.modLine l fun r => { r with hangCount := 0 }

/-- A POLL or SET transaction ends in success: the entry, then the issuer, then the record. -/
def State.succeed (s : State) (l : Nat) (t : Transaction) (payload : List Byte) : State :=
  let d : DeviceAddr := ⟨l, t.address⟩
  let s :=
    match s.device? d with
    | some e =>
      match t.ask with
      | .poll => s.deviceSuccess e (fun x => x.polled payload s.clock s.now) (reportOf e.kind payload)
      | .set v i => (s.deviceSuccess e (fun x => x.acknowledged v) (some v)).commandSucceeded i d v
      | .ident => s
    | none => s
  (s.clearHangs l).endTransaction l

/-- A POLL or SET transaction ends in final failure: the entry, then the issuer, then the record. -/
def State.fail (s : State) (l : Nat) (t : Transaction) (reason : FaultReason) : State :=
  let d : DeviceAddr := ⟨l, t.address⟩
  let s :=
    match s.device? d with
    | some e =>
      match t.ask with
      | .poll => s.deviceFailure e reason
      | .set _ i => (s.deviceFailure e reason).commandFailed i d
      | .ident => s
    | none => s
  s.endTransaction l

/-- The attempt of the transaction `t` in flight on line `l` has been classed. -/
def State.attemptEnds (s : State) (l : Nat) (r : Line) (t : Transaction) (a : Attempt) : State :=
  if t.isProbe then
    match a with
    | .ok _ => (s.clearHangs l).applyProbe l t.address a
    | .failed _ => s.applyProbe l t.address a
  else
    match a with
    | .ok payload => s.succeed l t payload
    | .failed reason =>
      if t.retries < r.retryLimit then
        s.putLine l { r with inFlight := some { t with retries := t.retries + 1, lastReason := some reason,
                                                       awaiting := false } }
      else s.fail l t reason

/-- A complete reply packet has arrived (R134); it matters only while a reply is awaited. -/
def State.replyComplete (s : State) (l : Nat) (bytes : List FieldByte) : State :=
  match s.line? l with
  | some r =>
    match r.inFlight, completePacket bytes with
    | some t, some packet =>
      if t.awaiting then s.attemptEnds l r t (classifyPacket t.ask t.address (s.device? ⟨l, t.address⟩) packet) else s
    | _, _ => s
  | none => s

/-- The reply timeout has passed with `bytes` received and no complete packet (R134). -/
def State.replyTimeout (s : State) (l : Nat) (bytes : List FieldByte) : State :=
  match s.line? l with
  | some r =>
    match r.inFlight with
    | some t =>
      if t.awaiting then s.attemptEnds l r t (.failed (if bytes.isEmpty then .noReply else .garbled)) else s
    | none => s
  | none => s

/-! ## Hangs (R143 to R147) -/

/-- What the LINE HUNG notice says of the transaction abandoned. -/
def Transaction.described (t : Transaction) : Nat × Byte := (t.address, t.ask.packetKind)

/-- R144: a POLL or SET transaction is kept, to be sent again; an IDENT probe is dropped. -/
def keepAtHang (t : Option Transaction) : Option Transaction :=
  (t.filter fun t => !t.isProbe).map fun t => { t with awaiting := false }

/-- R144. -/
def State.hang (s : State) (l : Nat) (r : Line) : State :=
  let s := s.putLine l { r with inFlight := keepAtHang r.inFlight, releasing := true, state := .recovering,
                                hangCount := r.hangCount + 1, recoveryDue := none }
  (s.offer (.lineHung (r.hangCount + 1) (r.inFlight.map Transaction.described)) (.line l)).abandonEnrolment l

/-- The commands a third hang discards, oldest first: an abandoned SET, then the queue (R146). -/
def Line.discarded (r : Line) : List Command :=
  (match r.inFlight with
   | some t => match t.ask with
               | .set v i => [⟨t.address, v, i⟩]
               | .poll | .ident => []
   | none => []) ++ r.queue

/-- R146: the third hang in a row. -/
def State.disableLine (s : State) (l : Nat) (r : Line) : State :=
  let s := s.putLine l { r with inFlight := none, releasing := true, state := .disabled, hangCount := 3, queue := [],
                                roundInProgress := false, roundDue := none, recoveryDue := none }
  let s := s.followAlarm.offer (.lineHung 3 (r.inFlight.map Transaction.described)) (.line l)
  let s := (s.abandonEnrolment l).offer .lineDisabled (.line l)
  let s := r.discarded.foldl (fun s c => s.commandFailed c.issuer ⟨l, c.address⟩) s
  if r.discarded.isEmpty then s else s.offer (.commandsDiscarded r.discarded.length) (.line l)

/-- A hang on line `l`; detection is armed while the line is ACTIVE or ENROLLING (R143). -/
def State.hangDetected (s : State) (l : Nat) : State :=
  match s.line? l with
  | some r =>
    if r.state == .active || r.state == .enrolling then
      if r.hangCount < 2 then s.hang l r else s.disableLine l r
    else s
  | none => s

/-- R144 step 5: the release sequence ends, and the recovery wait timer of a RECOVERING line is set. -/
def State.releaseEnd (s : State) (l : Nat) : State :=
  s.modLine l fun r =>
    if r.releasing then
      { r with releasing := false,
               recoveryDue := if r.state == .recovering then some (s.now + Config.recoverySeconds) else r.recoveryDue }
    else r

/-- R145: the line becomes ACTIVE; a kept transaction waits to be sent again, and a round that is due starts. -/
def State.recoveryWaitExpiry (s : State) (l : Nat) : State :=
  match s.line? l with
  | some r =>
    if r.state == .recovering && s.expired r.recoveryDue then
      (s.putLine l { r with state := .active, recoveryDue := none }).startRoundIfDue l
    else s
  | none => s

/-- R139: the round timer expires; a round starts if the line allows it, and is due from now on if it does not. -/
def State.roundTimerExpiry (s : State) (l : Nat) : State :=
  match s.line? l with
  | some r => if s.expired r.roundDue then (s.putLine l { r with roundDue := none }).startRoundIfDue l else s
  | none => s

/-- R147: a DISABLED line becomes ACTIVE. -/
def State.enableLine (s : State) (l : Nat) : State :=
  match s.line? l with
  | some r =>
    if r.state == .disabled then
      (((s.putLine l { r with state := .active, hangCount := 0 }).followAlarm).offer .lineRestored (.line l)).startRound l
    else s
  | none => s

/-- An accepted LINE ENROL (R125). -/
def State.beginEnrolment (s : State) (l : Nat) : State :=
  (s.modLine l fun r =>
    { r with enrolment := some { next := 1, found := 0, added := 0, absent := 0, notAdded := 0 } }).enterEnrolling l

end Sys2Proof.Machine
end

