-- ==== Sys2Proof/Machine/Measure.lean ====
section
/-! DEFINITION. Binding and zone measurement: which sensors a zone draws on, and the resolution of its two channels (R104 to R112). -/

namespace Sys2Proof.Machine

/-! ## Binding (R105) -/

/-- The kind carries the quantity class. -/
def DeviceKind.carries : DeviceKind → QuantityClass → Bool
  | .lightSensor, .light => true
  | .climateSensor, .climate => true
  | .lightClimateSensor, _ => true
  | _, _ => false

/-- The address agrees with the base in each of the seven bit positions the care mask sets. -/
def Binding.covers (b : Binding) (address : Nat) : Bool := address &&& b.care &&& 127 == b.base &&& b.care &&& 127

/-- A device entry is bound through a binding entry. -/
def Binding.binds (b : Binding) (e : Device) : Bool :=
  e.line == b.line && e.kind.carries b.cls && e.state != .absent && b.covers e.address

/-- The set of entries a zone with these binding entries draws on for a channel, each once. -/
def State.boundTo (s : State) (bs : List Binding) (c : QuantityClass) : List Device :=
  s.devices.filter fun e => bs.any fun b => b.cls == c && b.binds e

/-- The number of entries a binding entry binds (R106). -/
def State.bindCount (s : State) (b : Binding) : Nat := (s.devices.filter fun e => b.binds e).length

/-! ## Fresh valid readings (R107) -/

/-- The value of a quantity a device supplies at a resolution: its reading is at most 30 s old and marks it valid. A reading of
age 30 s is used, as R107 says; R113 lets one that has come to that age before the resolution go unused, and seconds of the
model do not tell the two apart (DEDUCED, log entry 41). -/
def Device.supplies (e : Device) (now : Nat) (q : Reading → Option Quantity) : Option Int :=
  match e.reading with
  | some r =>
    if now - r.arrived ≤ Config.freshSeconds then
      match q r with
      | some v => if v.valid then some v.value else none
      | none => none
    else none
  | none => none

/-! ## Resolution (R108) -/

/-- The mean of `n` readings that add up to `sum`, an exact half rounded away from zero. -/
def roundedMean (sum : Int) (n : Nat) : Int :=
  if 0 ≤ sum then (2 * sum + n) / (2 * n) else -((2 * -sum + n) / (2 * n))

/-- The mean of the fresh valid readings of a quantity, if there is at least one. -/
def freshMean (devices : List Device) (now : Nat) (q : Reading → Option Quantity) : Option Int :=
  match devices.filterMap fun e => e.supplies now q with
  | [] => none
  | vs => some (roundedMean vs.sum vs.length)

/-- The channel after its quantities are resolved: valid where one is fresh, BLIND where none is and 30 s or more have
passed since the last fresh moment, else as it was (R109, R110). -/
def Channel.settle (c : Channel) (now : Nat) (anyFresh : Bool) : Channel :=
  if anyFresh then { blind := false, lastFresh := now }
  else if Config.freshSeconds ≤ now - c.lastFresh then { c with blind := true }
  else c

/-- The measurement record after the LIGHT channel is resolved with these means. -/
def Measurement.resolveLight (m : Measurement) (now : Nat) (lux uv : Option Int) : Measurement :=
  { m with illuminance := (lux.map Int.toNat).or m.illuminance, uvRatio := (uv.map Int.toNat).or m.uvRatio,
           illuminanceFresh := lux.isSome, uvRatioFresh := uv.isSome,
           light := m.light.settle now (lux.isSome || uv.isSome) }

/-- The measurement record after the CLIMATE channel is resolved with these means. -/
def Measurement.resolveClimate (m : Measurement) (now : Nat) (rh temp : Option Int) : Measurement :=
  { m with rh := (rh.map Int.toNat).or m.rh, temperature := temp.or m.temperature,
           rhFresh := rh.isSome, temperatureFresh := temp.isSome,
           climate := m.climate.settle now (rh.isSome || temp.isSome) }

/-- Resolution of the LIGHT channel of zone `z`, with the evaluation of BLIND_LIGHT (R108 to R111). -/
def State.resolveLight (s : State) (z : Nat) : State :=
  match s.zone? z with
  | some r =>
    let set := s.boundTo r.measure.bindings .light
    let m := r.measure.resolveLight s.now (freshMean set s.now (·.illuminance)) (freshMean set s.now (·.uvRatio))
    (s.putZone z { r with measure := m }).evalMark z .blindLight m.light.blind
  | none => s

/-- Resolution of the CLIMATE channel of zone `z`, with the evaluation of BLIND_CLIMATE (R108 to R111). -/
def State.resolveClimate (s : State) (z : Nat) : State :=
  match s.zone? z with
  | some r =>
    let set := s.boundTo r.measure.bindings .climate
    let m := r.measure.resolveClimate s.now (freshMean set s.now (·.rh)) (freshMean set s.now (·.temperature))
    (s.putZone z { r with measure := m }).evalMark z .blindClimate m.climate.blind
  | none => s

end Sys2Proof.Machine
end

