-- ==== Sys2Proof/Machine/Climate.lean ====
section
/-! DEFINITION. The climate tracker: the climate review, hourly history and swing, local trim, the demand decision, and the
hour rollover (R59 to R81). -/

namespace Sys2Proof.Machine

/-! ## Buckets and swing (R65, R66) -/

def Bucket.empty (hour : Nat) : Bucket := { hour, rh := none, temp := none, samples := 0 }

/-- A least and greatest value widened to include `v`; the first value sets both. -/
def widenNat (v : Nat) : Option (Nat × Nat) → Nat × Nat
  | none => (v, v)
  | some (lo, hi) => (min lo v, max hi v)

def widenInt (v : Int) : Option (Int × Int) → Int × Int
  | none => (v, v)
  | some (lo, hi) => (min lo v, max hi v)

/-- The bucket after a review with this RH and this temperature, where resolved. -/
def Bucket.sample (b : Bucket) (rh : Nat) (temp : Option Int) : Bucket :=
  { b with
    rh := some (widenNat rh b.rh)
    temp := match temp with
            | some t => some (widenInt t b.temp)
            | none => b.temp
    samples := min (b.samples + 1) 65535 }

/-- The buckets of the swing's window: the current one, and the closed ones at most 23 hours before it. -/
def Climate.window (c : Climate) : List Bucket :=
  c.current :: c.history.filter fun b => c.current.hour ≤ b.hour + Config.windowHours

/-- The spread from the smallest RH minimum to the largest RH maximum of some buckets. -/
def spread (bs : List Bucket) : Nat :=
  match bs.filterMap (·.rh) with
  | [] => 0
  | p :: ps => ps.foldl (fun m q => max m q.2) p.2 - ps.foldl (fun m q => min m q.1) p.1

/-! ## Steps 2 to 4 of the review (R63 to R66) -/

/-- The state of RH under the zone's band; IN while the band is absent (R1, R64). -/
def classifyRh (band : Option Band) : Option Nat → BandState
  | none => .unclassified
  | some v => match band with
              | none => .inBand
              | some b => classify v b.rhTarget b.rhHalf b.rhGuard

def classifyTemp (band : Option Band) : Option Int → BandState
  | none => .unclassified
  | some v => match band with
              | none => .inBand
              | some b => classify v b.tempTarget b.tempHalf b.tempGuard

/-- Step 2: the current bucket, where RH is resolved. -/
def Climate.bucketed (c : Climate) (m : Measurement) : Climate :=
  match m.rh with
  | some v => { c with current := c.current.sample v m.temperature }
  | none => c

/-- Step 4: the swing, where the current bucket holds a sample. -/
def Climate.swung (c : Climate) (band : Option Band) : Climate :=
  if c.current.samples = 0 then c
  else { c with lastSwing := some (spread c.window), swing := band.any fun b => b.swingLimit < spread c.window }

/-- Steps 2 to 4 of the review. -/
def Zone.track (r : Zone) : Zone :=
  let c := r.climate.bucketed r.measure
  let c := { c with rh := classifyRh r.band r.measure.rh, temp := classifyTemp r.band r.measure.temperature }
  { r with climate := c.swung r.band }

/-! ## Step 5: trim (R71, R73) -/

def TrimDir.duty : TrimDir → Duty
  | .humidify => .humidify | .dry => .dry

/-- The trim direction that corrects an RH state that is not IN: HUMIDIFY for LOW, DRY for HIGH. -/
def BandState.correction : BandState → Option TrimDir
  | .driftLow | .outLow => some .humidify
  | .driftHigh | .outHigh => some .dry
  | .unclassified | .inBand => none

/-- RH is classified in the direction opposite to a pulse (R73). -/
def BandState.opposes (b : BandState) (dir : TrimDir) : Bool := b.correction.any fun d => d != dir

/-- The zone is being served: its demand is in the service set of its plant, and that plant is RUNNING (R71). -/
def State.served (s : State) (z : Nat) (r : Zone) : Bool :=
  r.climate.demand.any fun d =>
    (s.plant? d.plant).any fun p => p.state == .running && p.service.any fun x => x.zone == z

/-- R73: a pulse that RH now opposes ends early. -/
def State.endOpposedPulse (s : State) (z : Nat) : State :=
  match s.zone? z with
  | some r => if r.climate.pulse.any fun p => r.climate.rh.opposes p.dir then s.endPulse z else s
  | none => s

/-- R71: a trim pulse is issued where every condition holds. The pulse record stands before its command is placed, so that
a command that fails at once ends it (R74). -/
def State.issuePulse (s : State) (z : Nat) : State :=
  match s.zone? z with
  | some r =>
    match r.climate.rh.correction, r.defn.trim with
    | some dir, some d =>
      if r.climate.pulse.isNone && !r.climate.trimUnavailable && decide (0 < r.climate.trimCount) && !s.served z r then
        (s.putZone z { r with climate := { r.climate with
            trimCount := r.climate.trimCount - 1, pulse := some ⟨dir, d, s.now + Config.pulseSeconds⟩ } }).place
          d dir.code (.tracker z)
      else s
    | _, _ => s
  | none => s

/-! ## Step 6: the demand decision (R76 to R79) -/

/-- The trim count as the decision sees it (R76). -/
def Zone.effectiveTrim (r : Zone) : Nat :=
  if r.defn.trim.isNone || r.climate.trimUnavailable then 0 else r.climate.trimCount

/-- The RH candidate's base and duty, or none and whether that leaves the decision unresolved (R76). -/
def Zone.rhCandidate (r : Zone) : Option (Nat × Duty) × Bool :=
  match r.climate.rh.correction with
  | none => (none, false)
  | some dir =>
    if r.climate.rh.isOut then (some (4, dir.duty), false)
    else if r.climate.demand.any fun d => d.duty == dir.duty then (some (2, dir.duty), false)
    else if r.effectiveTrim = 0 && r.climate.pulse.isNone then
      if r.defn.escalate then (some (2, dir.duty), false) else (none, true)
    else (none, false)

/-- The temperature candidate's base and duty (R77). -/
def Zone.tempCandidate (r : Zone) : Option (Nat × Duty) :=
  match r.climate.temp with
  | .unclassified | .inBand => none
  | .driftLow => some (1, .heat)
  | .driftHigh => some (1, .cool)
  | .outLow => some (3, .heat)
  | .outHigh => some (3, .cool)

/-- A candidate's level: its base, raised by SWING (RH alone), surge and sensitivity, capped at 7 (R77). -/
def Zone.levelOf (r : Zone) (base : Nat) (isRh : Bool) : Nat :=
  min 7 (base + (if isRh && r.climate.swing then 1 else 0) + (if r.surge then 1 else 0) + r.defn.sensitivity)

/-- The chosen need: the candidate of the higher level, RH where both have the same (R77). -/
def Zone.chosenNeed (r : Zone) : Option Need :=
  let rh := r.rhCandidate.1.map fun c => (⟨c.2, r.levelOf c.1 true⟩ : Need)
  let temp := r.tempCandidate.map fun c => (⟨c.2, r.levelOf c.1 false⟩ : Need)
  match rh, temp with
  | some a, some b => if a.level < b.level then some b else some a
  | some a, none => some a
  | none, b => b

/-- The zone's definition names a plant that is defined (R78). -/
def State.plantFor (s : State) (r : Zone) : Option Nat :=
  match r.defn.plant with
  | some p => if (s.plant? p).isSome then some p else none
  | none => none

/-- The zone's own record of its demand. -/
def State.setDemand (s : State) (z : Nat) (d : Option ZoneDemand) : State :=
  s.modZone z fun r => { r with climate := { r.climate with demand := d } }

/-- The zone raises a demand and records it. -/
def State.raiseDemand (s : State) (z p : Nat) (n : Need) : State :=
  (s.setDemand z (some ⟨p, n.duty, n.level⟩)).raise p z n.duty n.level

/-- The zone withdraws the demand in place and clears its record. -/
def State.withdrawDemand (s : State) (z : Nat) (d : ZoneDemand) : State := (s.setDemand z none).withdraw d.plant z

/-- R79: the demand in place is brought into agreement with what the zone may ask of plant `p`. -/
def State.settleDemand (s : State) (z : Nat) (held : Option ZoneDemand) (wanted : Option (Nat × Need)) : State :=
  match held, wanted with
  | none, none => s
  | none, some (p, n) => s.raiseDemand z p n
  | some d, none => s.withdrawDemand z d
  | some d, some (p, n) =>
    if d.duty = n.duty then
      if d.level = n.level then s
      else (s.setDemand z (some { d with level := n.level })).update d.plant z n.level
    else (s.withdrawDemand z d).raiseDemand z p n

/-- Step 6 of the review. -/
def State.decideDemand (s : State) (z : Nat) : State :=
  match s.zone? z with
  | some r =>
    let need := r.chosenNeed
    let plant := s.plantFor r
    let unresolved := r.rhCandidate.2 || (need.isSome && plant.isNone)
    let s := s.putZone z { r with climate := { r.climate with need, unresolved } }
    s.settleDemand z r.climate.demand (match plant, need with
      | some p, some n => some (p, n)
      | _, _ => none)
  | none => s

/-! ## Step 7 (R70) and the whole review (R62) -/

/-- Step 7: the four marks, in the order of R17. -/
def State.climateMarks (s : State) (z : Nat) : State :=
  match s.zone? z with
  | some r =>
    (((s.evalMark z .rhOut r.climate.rh.isOut).evalMark z .rhSwing r.climate.swing).evalMark z .tempOut
      r.climate.temp.isOut).evalMark z .unresolved r.climate.unresolved
  | none => s

/-- A climate review of zone `z`: a channel that is BLIND after resolution ends the review (R63). -/
def State.reviewClimate (s : State) (z : Nat) : State :=
  let s := s.resolveClimate z
  match s.zone? z with
  | some r =>
    if r.measure.climate.blind then s
    else ((((s.putZone z r.track).endOpposedPulse z).issuePulse z).decideDemand z).climateMarks z
  | none => s

/-- The climate review timer of zone `z` expires (R10, R62). -/
def State.climateReview (s : State) (z : Nat) : State :=
  match s.zone? z with
  | some r =>
    if s.reached r.climateDue then
      (s.putZone z { r with climateDue := r.climateDue + Config.climateReviewPeriod }).reviewClimate z
    else s
  | none => s

/-! ## Pulse end (R72) -/

/-- The pulse-end timer of zone `z` expires. -/
def State.pulseEndExpiry (s : State) (z : Nat) : State :=
  match s.zone? z with
  | some r => if r.climate.pulse.any fun p => s.reached p.due then s.endPulse z else s
  | none => s

/-! ## Hour rollover (R67, R68) -/

/-- The trim allowance of a zone: its band's, or 4 while the band is absent. -/
def trimAllowance (band : Option Band) : Nat := (band.map (·.trimAllowance)).getD Config.defaultTrimAllowance

/-- The history after a rollover: a forward one closes the current bucket and prunes what is too old, a backward one
removes what now lies in the future and discards the current bucket. -/
def Climate.rolledHistory (c : Climate) (o : Rollover) : List Bucket :=
  if o.oldHour < o.newHour then
    (if c.current.samples = 0 then c.history else c.history ++ [c.current]).filter fun b =>
      o.newHour ≤ b.hour + Config.windowHours
  else c.history.filter fun b => b.hour < o.newHour

/-- The climate state after a rollover of a zone with this trim allowance. -/
def Climate.rolled (c : Climate) (allowance : Nat) (o : Rollover) : Climate :=
  { c with history := c.rolledHistory o, trimCount := allowance, current := Bucket.empty o.newHour }

/-- The hour rollover that zone `z` has next to take is delivered to its climate tracker (R67, R68). The readings of a review
taken before it stand in the bucket that it closes or discards, and those of one taken after it enter the new bucket: R67, and the
words of the last row of R11 about that bucket, against the columns in which that row puts them (DEDUCED, log entry 42). -/
def State.hourRollover (s : State) (z : Nat) : State :=
  s.modZone z fun r =>
    match r.rollovers with
    | o :: rest => { r with climate := r.climate.rolled (trimAllowance r.band) o, rollovers := rest }
    | [] => r

/-- The clock moves to `count`; a change of hour is delivered to every defined zone (R13, R14). -/
def State.moveClock (s : State) (count : Nat) : State :=
  let o : Rollover := ⟨hourOf s.clock, hourOf count⟩
  let s := { s with clock := count }
  if o.oldHour = o.newHour then s
  else { s with zones := tableOf 16 fun z => (s.zone? z).map fun r => { r with rollovers := r.rollovers ++ [o] } }

/-- One second of the time base (R12). -/
def State.tick (s : State) : State := { s with now := s.now + 1 }.moveClock ((s.clock + 1) % (Config.count32Max + 1))

/-- R61: a band is installed; the trim count is clamped to its allowance. -/
def Zone.withBand (r : Zone) (b : Band) : Zone :=
  { r with band := some b, climate := { r.climate with trimCount := min r.climate.trimCount b.trimAllowance } }

end Sys2Proof.Machine
end

