-- ==== Sys2Proof/Machine/Light.lean ====
section
/-! DEFINITION. The dose accountant and the light governor: the light sample (R20 to R28) and the light review (R37 to R48). -/

namespace Sys2Proof.Machine

/-! ## The light sample -/

/-- The elapsed time of a sample (R22). -/
def elapsed (last : Option Nat) (clock : Nat) : Nat :=
  match last with
  | none => Config.elapsedDefault
  | some t => if clock < t then Config.elapsedDefault else min (clock - t) Config.elapsedMax

/-- The UV weight, in units of 1/1024 (R24). -/
def uvWeight (u uvRef : Nat) : Nat := min (1024 + (u - uvRef) * 1024 / uvRef) Config.uvWeightMax

/-- The illuminance a sample charges (R23). -/
def Zone.chargedLux (r : Zone) : Nat :=
  match r.measure.light.blind, r.measure.illuminance with
  | false, some e => e
  | _, _ => if r.isOpen then r.defn.ceiling else 0

/-- The UV ratio a sample charges (R23). -/
def Zone.chargedUv (r : Zone) : Nat :=
  match r.measure.light.blind, r.measure.illuminance with
  | false, some _ => r.measure.uvRatio.getD r.defn.uvRef
  | _, _ => r.defn.uvRef

/-- The account after a sample of illuminance `e` and weight `w` (R22, R25 to R27): the product with the residue is divided
by 1024, the increment is added up to the limit of the dose, and the elapsed time of an OPEN zone to the open seconds. -/
def Account.sampled (a : Account) (clock e w : Nat) (isOpen : Bool) : Account :=
  let dt := elapsed a.lastSample clock
  let sum := e * dt * w + a.residue
  let dose := a.dose + sum / 1024
  { a with
    dose := min dose Config.doseLimit
    residue := sum % 1024
    saturated := a.saturated || decide (Config.doseLimit < dose)
    openSeconds := if isOpen then min (a.openSeconds + dt) Config.count32Max else a.openSeconds
    lastSample := some clock }

/-- A light sample of zone `z` (R21): resolution, the account, and the mark SATURATED. -/
def State.sampleLight (s : State) (z : Nat) : State :=
  let s := s.resolveLight z
  match s.zone? z with
  | some r =>
    let a := r.account.sampled s.clock r.chargedLux (uvWeight r.chargedUv r.defn.uvRef) r.isOpen
    (s.putZone z { r with account := a }).evalMark z .saturated a.atLimit
  | none => s

/-- The light sample timer of zone `z` expires: it restarts for one more period, and the sample is taken (R10, R21). -/
def State.lightSample (s : State) (z : Nat) : State :=
  match s.zone? z with
  | some r =>
    if s.reached r.sampleDue then
      (s.putZone z { r with sampleDue := r.sampleDue + Config.samplePeriod }).sampleLight z
    else s
  | none => s

/-! ## The light review: target, permitted level, condition (R39 to R42) -/

/-- The remaining open time T, in seconds (R40). -/
def Account.openTimeLeft (a : Account) (season : Season) : Nat := max 3600 (season.plannedHours * 3600 - a.openSeconds)

/-- Target, permitted level and condition of a zone with this definition and account. -/
def budget (d : Definition) (a : Account) : Nat × Nat × Condition :=
  match a.season with
  | none => (d.ceiling, d.ceiling, .free)
  | some season =>
    let left := a.remaining season
    if left ≤ 0 then
      match d.policy with
      | .visibility => (d.floor, 0, .exhausted)
      | .budget => (0, 0, .dark)
    else
      let permitted := left.toNat / a.openTimeLeft season
      let (target, condition) :=
        if d.floor ≤ permitted then (min permitted d.ceiling, Condition.within)
        else
          match d.policy with
          | .visibility => (d.floor, .pressure)
          | .budget => (permitted, .restricted)
      (target, permitted, if d.policy = .budget ∧ target = 0 then .dark else condition)

/-- Step 1 of the review, with the condition of EXHAUSTED that it finds (R41, R43). -/
def Zone.fixTarget (r : Zone) : Zone :=
  let b := budget r.defn r.account
  { r with light :=
      { r.light with target := b.1, permitted := b.2.1, condition := b.2.2, spent := r.account.isExhausted } }

/-! ## The electric limit and the steps (R44 to R47) -/

/-- The effective electric limit (R44). -/
def Zone.effectiveLimit (r : Zone) : Nat :=
  if r.climate.temp = .outHigh then r.defn.electricLimit * r.defn.derate / 100 else r.defn.electricLimit

/-- Step 3 of the review: the limit, and the dimmer level clamped to it. -/
def Zone.limitDimmer (r : Zone) : Zone :=
  { r with light := { r.light with electricLimit := r.effectiveLimit, dimmer := min r.light.dimmer r.effectiveLimit } }

/-- The dimmer level and louvre demand after a step with resolved illuminance `em` (R46, R47). A zone that names no bank
steps its dimmer alone (R45). -/
def Zone.step (r : Zone) (em : Nat) : Nat × Nat :=
  let dim := r.light.dimmer
  let lou := r.light.louvre
  let db := max 5 (r.light.target / 10)
  let hasBanks := !r.defn.banks.isEmpty
  if r.light.target + db < em then
    if 0 < dim then (dim - 10, lou) else (dim, if hasBanks then min 100 (lou + 10) else lou)
  else if em + db < r.light.target then
    if hasBanks && decide (0 < lou) && decide (r.measure.uvRatio.getD r.defn.uvRef ≤ r.defn.uvRef) then (dim, lou - 10)
    else if dim < r.light.electricLimit then (min r.light.electricLimit (dim + 10), lou)
    else (dim, lou)
  else (dim, lou)

/-- Step 4 of the review (R45): the dimmer level and louvre demand are forced, held or stepped. -/
def Zone.stepLight (r : Zone) : Zone :=
  let (dim, lou) :=
    if !r.isOpen || r.light.condition == .dark then (0, 100)
    else
      match r.measure.light.blind, r.measure.illuminance with
      | false, some em => r.step em
      | _, _ => (r.light.dimmer, r.light.louvre)
  { r with light := { r.light with dimmer := dim, louvre := if r.defn.banks.isEmpty then 100 else lou } }

/-- Step 5 of the review needs a dimmer command: the level changed from `before`, or a refresh is owed (R48). -/
def Light.commandNeeded (l : Light) (before : Nat) : Bool := l.dimmer != before || l.refreshOwed

/-- A light review of zone `z` (R38). -/
def State.reviewLight (s : State) (z : Nat) : State :=
  match s.zone? z with
  | some r0 =>
    let r := r0.fixTarget
    let s := (s.putZone z r).evalMark z .lightPressure r.light.condition.isPressed
    let s := s.evalMark z .exhausted r.light.spent
    match s.zone? z with
    | some r =>
      let r := r.limitDimmer.stepLight
      let s := s.putZone z { r with light := { r.light with refreshOwed := false } }
      if r.light.commandNeeded r0.light.dimmer then s.placeDimmer z r.defn.dimmer r.light.dimmer else s
    | none => s
  | none => s

/-- The light review timer of zone `z` expires (R10, R38). -/
def State.lightReview (s : State) (z : Nat) : State :=
  match s.zone? z with
  | some r =>
    if s.reached r.reviewDue then
      (s.putZone z { r with reviewDue := r.reviewDue + Config.lightReviewPeriod }).reviewLight z
    else s
  | none => s

/-! ## Requests that write the account (R30, R32, R34) -/

/-- SEASON BEGIN. -/
def Account.beginSeason (a : Account) (allowance hours clock : Nat) : Account :=
  { a with dose := 0, residue := 0, openSeconds := 0, saturated := false,
           season := some { allowance, plannedHours := hours, start := clock } }

/-- SEASON END. -/
def Account.endSeason (a : Account) : Account := { a with season := none }

/-- ACCOUNT ADJUST. -/
def Account.adjusted (a : Account) (dose seconds : Nat) : Account :=
  { a with dose := min dose Config.doseLimit, residue := 0, openSeconds := seconds,
           saturated := decide (Config.doseLimit < dose) }

/-- The account of a zone just created, and of one whose record failed its check at start (R4, R36). -/
def Account.empty : Account :=
  { dose := 0, residue := 0, openSeconds := 0, season := none, lastSample := none, saturated := false }

end Sys2Proof.Machine
end

