-- ==== Sys2Proof/Machine/Zones.lean ====
section
/-! DEFINITION. The zone table: the checks of ZONE DEFINE, creating and redefining a zone, opening and closing (R1 to R9), and
the lantern banks (R50 to R58). -/

namespace Sys2Proof.Machine

/-! ## Checks of ZONE DEFINE (R3) -/

/-- The statuses of a reply (R162). -/
inductive Status where
  | done | accepted | partly | full | unknown | shape | range | noSuch | conflict | state | busy
  deriving DecidableEq, Repr

def Status.code : Status → Byte
  | .done => 0x00 | .accepted => 0x01 | .partly => 0x02 | .full => 0x10 | .unknown => 0x11 | .shape => 0x12
  | .range => 0x13 | .noSuch => 0x14 | .conflict => 0x15 | .state => 0x16 | .busy => 0x17

/-- An optional device has an entry in the table. -/
def State.known (s : State) (d : Option DeviceAddr) : Bool := d.all fun d => (s.device? d).isSome

/-- An optional device's entry is of this kind. -/
def State.ofKind (s : State) (d : Option DeviceAddr) (k : DeviceKind) : Bool :=
  d.all fun d => (s.device? d).any fun e => e.kind == k

/-- Another zone's definition names this device. -/
def State.namedElsewhere (s : State) (z : Nat) (d : Option DeviceAddr) : Bool :=
  d.any fun d => s.definedZones.any fun zr => zr.1 != z && (zr.2.defn.dimmer == some d || zr.2.defn.trim == some d)

/-- The zones that name bank `b`, in ascending order (R52). -/
def State.servedZones (s : State) (b : Nat) : List (Nat × Zone) :=
  s.definedZones.filter fun zr => zr.2.defn.banks.contains b

/-- The checks of R3, in order: the status of the first that fails. -/
def State.definitionRefused (s : State) (z : Nat) (d : Definition) : Option Status :=
  if !s.known d.dimmer || !s.known d.trim then some .noSuch
  else if d.banks.any fun b => (s.bank? b).isNone then some .noSuch
  else if !s.ofKind d.dimmer .dimmer || !s.ofKind d.trim .trimUnit then some .conflict
  else if s.namedElsewhere z d.dimmer || s.namedElsewhere z d.trim then some .conflict
  else if d.banks.any fun b =>
      decide (Config.zonesPerBank ≤ ((s.servedZones b).filter fun zr => zr.1 != z).length) then some .conflict
  else none

/-! ## Creating a zone (R4) -/

/-- The light state at creation (R4). -/
def Light.created (d : Definition) : Light :=
  { target := 0, permitted := 0, condition := .free, dimmer := 0, louvre := 100, electricLimit := d.electricLimit,
    refreshOwed := true, spent := false }

/-- The climate state at creation and at start (R59). -/
def Climate.created (hour trimCount : Nat) : Climate :=
  { rh := .unclassified, temp := .unclassified, lastSwing := none, swing := false, current := Bucket.empty hour,
    history := [], trimCount, pulse := none, trimUnavailable := false, offOwed := false, need := none,
    unresolved := false, demand := none }

/-- The measurement record at creation and at start (R104). -/
def Measurement.created (bindings : List Binding) (now : Nat) : Measurement :=
  { bindings, illuminance := none, uvRatio := none, rh := none, temperature := none, illuminanceFresh := false,
    uvRatioFresh := false, rhFresh := false, temperatureFresh := false, light := ⟨false, now⟩, climate := ⟨false, now⟩,
    occupancy := 0 }

/-- The zone ZONE DEFINE creates (R1, R4). -/
def Zone.created (d : Definition) (clock now : Nat) : Zone :=
  { isOpen := false, defn := d, band := none, marks := [], sampleDue := now + Config.samplePeriod,
    reviewDue := now + Config.lightReviewPeriod, climateDue := now + Config.climateReviewPeriod,
    account := Account.empty, light := Light.created d,
    climate := Climate.created (hourOf clock) Config.defaultTrimAllowance, measure := Measurement.created [] now,
    rollovers := [] }

/-! ## Redefining a zone (R5 to R7) -/

/-- The record with the new definition: a changed dimmer device is owed a refresh, a changed trim device starts available
with no pulse in flight, and a changed plant leaves the zone without a demand. -/
def Zone.redefined (r : Zone) (d : Definition) : Zone :=
  let trimSame := r.defn.trim == d.trim
  { r with
    defn := d
    light := { r.light with refreshOwed := r.light.refreshOwed || r.defn.dimmer != d.dimmer }
    climate := { r.climate with
      demand := if r.defn.plant = d.plant then r.climate.demand else none
      pulse := if trimSame then r.climate.pulse else none
      trimUnavailable := trimSame && r.climate.trimUnavailable
      offOwed := trimSame && r.climate.offOwed } }

/-- R6: the demand of a zone whose plant changes is withdrawn from the old plant. -/
def State.leavePlant (s : State) (z : Nat) (old : Zone) (d : Definition) : State :=
  if old.defn.plant = d.plant then s
  else match old.climate.demand with
    | some dm => s.withdraw dm.plant z
    | none => s

/-- R7: the old dimmer device is sent level 0. -/
def State.leaveDimmer (s : State) (z : Nat) (old : Zone) (d : Definition) : State :=
  if old.defn.dimmer = d.dimmer then s else s.placeDimmer z old.defn.dimmer 0

/-- R7: the old trim device is sent OFF where a pulse was in flight. -/
def State.leaveTrim (s : State) (z : Nat) (old : Zone) (d : Definition) : State :=
  if old.defn.trim = d.trim then s
  else match old.climate.pulse with
    | some p => s.place p.device trimOff (.tracker z)
    | none => s

/-- An accepted ZONE DEFINE. The commands that R6 and R7 place within the request may share a line's queue and the manual gives
no order among them: the model places what the old plant's withdrawal places, then level 0 for the old dimmer device, then OFF
for the old trim device (DESIGN CHOICE, log entry 37). -/
def State.defineZone (s : State) (z : Nat) (d : Definition) : State :=
  match s.zone? z with
  | none => s.putZone z (Zone.created d s.clock s.now)
  | some r =>
    (((s.putZone z (r.redefined d)).leavePlant z r d).leaveDimmer z r d).leaveTrim z r d

/-! ## Opening and closing (R8, R9) -/

/-- ZONE OPEN on a defined zone. -/
def State.openZone (s : State) (z : Nat) : State := s.modZone z fun r => { r with isOpen := true }

/-- ZONE CLOSE on a defined zone. -/
def State.closeZone (s : State) (z : Nat) : State :=
  match s.zone? z with
  | some r =>
    if r.isOpen then
      (s.putZone z { r with isOpen := false, light := { r.light with dimmer := 0, louvre := 100 } }).placeDimmer z
        r.defn.dimmer 0
    else s
  | none => s

/-! ## Lantern banks -/

/-- Another bank names this device. -/
def State.louvreElsewhere (s : State) (b : Nat) (d : DeviceAddr) : Bool :=
  bankNumbers.any fun k => k != b && (s.bank? k).any fun r => r.louvre == d

/-- An accepted BANK DEFINE (R51). -/
def State.defineBank (s : State) (b : Nat) (d : DeviceAddr) (slew : Nat) : State :=
  let r : Bank := match s.bank? b with
    | none => { state := .active, louvre := d, slew, target := 0, commanded := 100, stepDue := s.now + Config.bankPeriod }
    | some old => { old with state := .active, louvre := d, slew, commanded := 100 }
  (s.putBank b r).placeClosure b

/-- The largest louvre demand among the served zones, or 0 (R53). -/
def State.largestDemand (s : State) (b : Nat) : Nat :=
  (s.servedZones b).foldr (fun zr m => max zr.2.light.louvre m) 0

/-- The commanded closure after a step (R54). -/
def Bank.stepped (r : Bank) (target : Nat) : Nat :=
  if target < r.commanded then max target (r.commanded - r.slew)
  else if r.commanded < target then min target (r.commanded + r.slew)
  else r.commanded

/-- The bank step timer of bank `b` expires: it restarts, and the bank steps (R53, R54). -/
def State.bankStep (s : State) (b : Nat) : State :=
  match s.bank? b with
  | some r =>
    if s.reached r.stepDue then
      let target := s.largestDemand b
      let commanded := r.stepped target
      let s := s.putBank b { r with stepDue := r.stepDue + Config.bankPeriod, target, commanded }
      if commanded = r.commanded then s else s.placeClosure b
    else s
  | none => s

end Sys2Proof.Machine
end

