-- ==== Sys2Proof/Machine/Retention.lean ====
section
/-! DEFINITION. The nonvolatile store: the records, checkpoints, the start sequence and RESTART (R168 to R174). -/

namespace Sys2Proof.Machine

/-! ## What the records hold (R36, R168) -/

def Zone.stored (r : Zone) : StoredZone :=
  { defn := r.defn, isOpen := r.isOpen, band := r.band, bindings := r.measure.bindings }

/-- The configuration values of the part as they stand. -/
def State.configuration (s : State) : Configuration :=
  { zones := tableOf 16 fun z => (s.zone? z).map Zone.stored
    devices := s.devices.map fun e => { line := e.line, address := e.address, kind := e.kind }
    banks := tableOf 8 fun b => (s.bank? b).map fun r => { louvre := r.louvre, slew := r.slew }
    plants := tableOf 2 fun p => (s.plant? p).map (·.controller)
    retryLimits := tableOf 2 fun l => ((s.line? l).map (·.retryLimit)).getD Config.defaultRetryLimit
    report := s.report }

/-- The account record of a zone. -/
def Zone.accountRecord (r : Zone) : AccountRecord :=
  { dose := r.account.dose, residue := r.account.residue, openSeconds := r.account.openSeconds,
    season := r.account.season, saturated := r.account.saturated, isOpen := r.isOpen }

/-- The configuration changed flag after a request that has led from `before` to this state (R168). -/
def State.noteConfiguration (s before : State) : State :=
  { s with configChanged := s.configChanged || decide (s.configuration ≠ before.configuration) }

/-! ## Checkpoints (R169 to R171) -/

/-- The write of the configuration record begins: its content is taken, and the flag is set to no. -/
def State.beginConfigWrite (s : State) (full : Bool) : State :=
  { s with configChanged := false,
           checkpoint := some { full, writing := .config { config := s.configuration, clock := s.clock }, written := 0,
                                failed := 0 } }

/-- The next defined zone after number `z`, with its record. -/
def State.nextDefined (s : State) (z : Nat) : Option (Nat × Zone) := s.definedZones.find? fun zr => z < zr.1

/-- The write of the next account record after zone `z` begins, or there is none and `none` is answered. -/
def State.beginAccountWrite (s : State) (z : Nat) (full : Bool) (written failed : Nat) : Option State :=
  match s.nextDefined z with
  | some (k, r) => some { s with checkpoint := some { full, writing := .account k r.accountRecord, written, failed } }
  | none => none

/-- The checkpoint is complete: STORE DONE, and a RESTART that waits for it goes on (R169, R174). -/
def State.completeCheckpoint (s : State) (full : Bool) (written failed : Nat) : State :=
  let s := { s with checkpoint := none }.offer (.storeDone written failed) .none
  match s.restarting with
  | some r =>
    if full then { s with restarting := some { r with checkpointDone := true } }
    else if r.checkpointWaits then
      { s with restarting := some { r with checkpointWaits := false } }.beginConfigWrite true
    else s
  | none => s

/-- The checkpoint goes on after zone `z` (0: from the first), or is complete. -/
def State.continueCheckpoint (s : State) (z : Nat) (full : Bool) (written failed : Nat) : State :=
  match s.beginAccountWrite z full written failed with
  | some s => s
  | none => s.completeCheckpoint full written failed

/-- A checkpoint begins, where none is in flight (R169, R171). -/
def State.beginCheckpoint (s : State) : State :=
  match s.checkpoint with
  | some _ => s
  | none => if s.configChanged then s.beginConfigWrite false else s.continueCheckpoint 0 false 0 0

/-- The checkpoint timer expires (R171). -/
def State.checkpointTimerExpiry (s : State) : State :=
  if s.reached s.checkpointDue then
    { s with checkpointDue := s.checkpointDue + Config.checkpointPeriod }.beginCheckpoint
  else s

/-- The number by which CHECKPOINT FAILED names a record: 0 the configuration record, else the zone (R150). -/
def Writing.number : Writing → Nat
  | .config _ => 0
  | .account z _ => z

/-- The store with the record written: its new content, or a record that fails its check (R170). -/
def Store.put (st : Store) (w : Writing) (good : Bool) : Store :=
  match w with
  | .config c => { st with config := if good then some c else none }
  | .account z a => { st with accounts := slotSet st.accounts z (if good then some a else none) }

/-- A write that has failed offers CHECKPOINT FAILED, and one of the configuration record sets the changed flag (R170). -/
def State.noteWriteFailure (s : State) (w : Writing) : State :=
  let s := s.offer (.checkpointFailed w.number) .none
  { s with configChanged := s.configChanged || w.number == 0 }

/-- A record write ends and is read back; the checkpoint goes on (R170). -/
def State.endWrite (s : State) (agrees : Bool) : State :=
  match s.checkpoint with
  | some c =>
    let s := { s with store := s.store.put c.writing agrees }
    let s := if agrees then s else s.noteWriteFailure c.writing
    s.continueCheckpoint c.writing.number c.full (if agrees then c.written + 1 else c.written)
      (if agrees then c.failed else c.failed + 1)
  | none => s

/-! ## Stopping (R153, R160, R164, R170) -/

def Link.fresh : Link := { rx := none, intake := [], replies := [], output := none }

/-- The part stops: a record being written is left failing its check, and the link, the notices and the checkpoint are
lost. What else the part held stands in the state until the next start gives every block its start values. -/
def State.stop (s : State) : State :=
  { s with
    store := match s.checkpoint with
             | some c => s.store.put c.writing false
             | none => s.store
    checkpoint := none, restarting := none, notices := [], link := Link.fresh, pulsing := false }

/-! ## The start sequence (R172, R173) -/

/-- The configuration that a part whose configuration record fails its check takes (R172). -/
def Configuration.lost : Configuration :=
  { zones := Vector.replicate 16 none, devices := [], banks := Vector.replicate 8 none,
    plants := Vector.replicate 2 none, retryLimits := Vector.replicate 2 Config.defaultRetryLimit,
    report := { floor := 2, alarmLevel := 6, mode := .level } }

/-- The account a zone takes from its record (R36). -/
def AccountRecord.account (a : AccountRecord) : Account :=
  { dose := a.dose, residue := a.residue, openSeconds := a.openSeconds, season := a.season, lastSample := none,
    saturated := a.saturated }

/-- The light state at start (R37). -/
def Light.started (d : Definition) : Light :=
  { target := d.ceiling, permitted := d.ceiling, condition := .free, dimmer := 0, louvre := 100,
    electricLimit := d.electricLimit, refreshOwed := true, spent := false }

/-- The marks of a zone after its account has been loaded, in the order their notices are offered (R172, R173). -/
def startMarks (isOpen lost : Bool) : List Mark :=
  (if isOpen then [Mark.accountGap] else []) ++ (if lost then [Mark.accountLost] else [])

/-- A stored zone as the start sequence leaves it: its state and account from its account record where that passes its
check, else the stored state and a zeroed account. -/
def StoredZone.started (z : StoredZone) (a : Option AccountRecord) (clock now : Nat) : Zone :=
  let isOpen := (a.map (·.isOpen)).getD z.isOpen
  { isOpen, defn := z.defn, band := z.band, marks := startMarks isOpen a.isNone,
    sampleDue := now + Config.samplePeriod, reviewDue := now + Config.lightReviewPeriod,
    climateDue := now + Config.climateReviewPeriod,
    account := (a.map AccountRecord.account).getD Account.empty, light := Light.started z.defn,
    climate := Climate.created (hourOf clock) (trimAllowance z.band), measure := Measurement.created z.bindings now,
    rollovers := [] }

/-- A stored bank at start (R50). -/
def StoredBank.started (b : StoredBank) (now : Nat) : Bank :=
  { state := .active, louvre := b.louvre, slew := b.slew, target := 0, commanded := 100,
    stepDue := now + Config.bankPeriod }

/-- A line at start: ACTIVE where its termination is sensed, else OFF (R135, R136). -/
def Line.started (sensed : Bool) (retryLimit : Nat) : Line :=
  { state := if sensed then .active else .off, terminated := sensed, retryLimit, hangCount := 0, queue := [],
    roundCounter := 0, pollPos := 0, roundInProgress := false, inFlight := none, enrolment := none, releasing := false,
    recoveryDue := none, roundDue := none, sent := [] }

/-- The level of the termination sense input of line `l`. -/
def senseOf (t : TermSense) (l : Nat) : Bool := if l = 1 then t.line1 else t.line2

/-- Every block at its start values, from the store (R172, R173): the alarm line deasserted, the notice queue and the link
empty, no command placed and no round started yet. -/
def State.load (s : State) (sense : TermSense) : State :=
  let config := (s.store.config.map (·.config)).getD Configuration.lost
  let clock := (s.store.config.map (·.clock)).getD 0
  let accounts := tableOf 16 fun z =>
    if ((slot? config.zones z).join).isSome then (slot? s.store.accounts z).join else none
  { s with
    restarting := none, clock, synced := false
    zones := tableOf 16 fun z => ((slot? config.zones z).join).map fun st =>
      st.started ((slot? accounts z).join) clock s.now
    banks := tableOf 8 fun b => ((slot? config.banks b).join).map fun st => st.started s.now
    plants := tableOf 2 fun p => ((slot? config.plants p).join).map Plant.fresh
    devices := config.devices.map fun d => Device.enrolled d.line d.address d.kind
    lines := tableOf 2 fun l =>
      Line.started (senseOf sense l) ((slot? config.retryLimits l).getD Config.defaultRetryLimit)
    notices := [], report := config.report, alarm := false, pulsing := false, link := Link.fresh
    store := { s.store with accounts }
    configChanged := s.store.config.isNone, checkpoint := none, checkpointDue := s.now + Config.checkpointPeriod }

/-- Step 3: the MARK SET notices of the zones, in zone order. -/
def State.offerStartMarks (s : State) : State :=
  s.definedZones.foldl (fun s zr => zr.2.marks.foldl (fun s m => s.offer (.markSet m) (.zone zr.1)) s) s

/-- Step 4: NEUTRAL to the plants, closure 100 to the banks, OFF to the trim units. -/
def State.placeStartCommands (s : State) : State :=
  let s := plantNumbers.foldl (fun s p => s.placeDuty p .neutral) s
  let s := bankNumbers.foldl (fun s b => s.placeClosure b) s
  zoneNumbers.foldl (fun s z =>
    match (s.zone? z).bind (·.defn.trim) with
    | some d => s.place d trimOff (.tracker z)
    | none => s) s

/-- The start sequence (R172, R173). -/
def State.startSequence (s : State) (cause : StartCause) (sense : TermSense) : State :=
  let lost := s.store.config.isNone
  let s := (s.load sense).offer (.start cause lost) .none
  let s := s.offerStartMarks.placeStartCommands.followAlarm
  lineNumbers.foldl (fun s l => s.startRoundIfDue l) s

/-! ## RESTART (R174) -/

/-- What becomes of a record that is being written when the start of a RESTART begins: a free value decides whether its
old or its new content stands (log entry 19). It passes its check either way, since R168 names the cases in which a record
fails it and this start is none of them; so a RESTART loses no more than R36 says. -/
def State.cutWrite (s : State) : State :=
  match s.checkpoint with
  | none => s
  | some c =>
    { s with store := if Config.writtenAtRestart s.freeIx then s.store.put c.writing true else s.store
             checkpoint := none }.useFree

/-- The start of a RESTART begins once both its full checkpoint and the sending of its reply have ended. -/
def State.restartIfReady (s : State) (sense : TermSense) : State :=
  match s.restarting with
  | some r => if r.checkpointDone && r.replySent then s.cutWrite.startSequence .restart sense else s
  | none => s

/-- An accepted RESTART: enrolments are abandoned, and a full checkpoint begins, or waits for the one in flight. -/
def State.beginRestart (s : State) : State :=
  let s := lineNumbers.foldl (fun s l => s.dropEnrolment l) s
  let s := { s with restarting := some { checkpointWaits := s.checkpoint.isSome, checkpointDone := false,
                                         replySent := false } }
  if s.checkpoint.isSome then s else s.beginConfigWrite true

end Sys2Proof.Machine
end

