-- ==== Sys2Proof/Machine/HostLink.lean ====
section
/-! DEFINITION. The host link: receive assembly, intake, reply queue and output, the form of an answer, and the form of an
event (R159 to R164). -/

namespace Sys2Proof.Machine

/-! ## Output (R164) -/

/-- A frame begins to be sent. -/
def State.sendFrame (s : State) (f : Frame) (restartReply : Bool) : State :=
  { s with link := { s.link with output := some { wire := f.wire, restartReply } } }

/-- The DONE reply of RESTART: no other reply of its kind carries DONE, since a start follows it. -/
def Frame.isRestartReply (f : Frame) : Bool := f.kind == 0x9F && f.body == [Status.done.code]

/-- The oldest reply begins to be sent (R164). The manual says that the reply queue holds replies until they are sent, and not whether
that is the beginning or the end of the sending: the model takes the reply out, and frees its place, as the sending begins
(DESIGN CHOICE, log entry 43). -/
def State.sendReply (s : State) : State :=
  match s.link.replies with
  | f :: rest =>
    { s with link := { s.link with replies := rest } }.sendFrame f (s.restarting.isSome && f.isRestartReply)
  | [] => s

/-- The oldest notice leaves the notice queue and begins to be sent (R153). -/
def State.sendNotice (s : State) : State :=
  match s.notices with
  | n :: rest => { s with notices := rest }.sendFrame n.frame false
  | [] => s

/-- An idle output that has finished a frame chooses the next: the oldest reply, else the oldest notice (R164). -/
def State.chooseFrame (s : State) : State := if s.link.replies.isEmpty then s.sendNotice else s.sendReply

/-- The output at the end of an event: one that is idle takes up a reply or a notice that has become available; where the
event made both available, either may be taken, as a free value decides (R164). -/
def State.feedOutput (s : State) : State :=
  if s.link.output.isSome then s
  else if s.link.replies.isEmpty || s.notices.isEmpty then s.chooseFrame
  else if Config.replyTakenFirst s.freeIx then s.useFree.sendReply else s.useFree.sendNotice

/-! ## Intake (R161) -/

/-- The kind of the reply to a request kind. -/
def replyKind (kind : Byte) : Byte := if 1 ≤ kind.toNat && kind.toNat ≤ 0x1F then kind + 0x80 else 0xFF

/-- A reply joins the reply queue. -/
def State.queueReply (s : State) (f : Frame) : State :=
  { s with link := { s.link with replies := s.link.replies ++ [f] } }

/-- A complete good frame is delivered by the receive assembly. -/
def State.deliver (s : State) (f : Frame) : State :=
  if s.link.intake.length < Config.intakeCapacity then
    { s with link := { s.link with intake := s.link.intake ++ [f] } }
  else if s.link.replies.length < Config.replyCapacity then
    s.queueReply { tag := f.tag, kind := replyKind f.kind, body := [Status.full.code] }
  else s

/-! ## Receive assembly (R160) -/

/-- Two check bytes, high byte first. -/
def checkOf (bs : List Byte) : BitVec 16 := BitVec.ofNat 16 (natOf bs)

/-- The frame that the bytes after the start byte spell, once the second check byte is among them; `some none` where the
check does not match. -/
def assembled (bs : List Byte) : Option (Option Frame) :=
  match bs with
  | len :: tag :: kind :: rest =>
    if rest.length = len.toNat then
      let f : Frame := { tag, kind, body := rest.take (len.toNat - 2) }
      some (if crc16 f.checked = checkOf (rest.drop (len.toNat - 2)) then some f else none)
    else none
  | _ => none

/-- A length byte outside 2..250. -/
def badLength (b : Byte) : Bool := b.toNat < 2 || 250 < b.toNat

/-- What the receive assembly makes of a byte (R160): the bytes of the frame it is then inside, none while it hunts, and
the frame that the byte has completed, if its check matches. -/
def assemble (rx : Option (List Byte)) (b : Byte) (stopBit : Bool) : Option (List Byte) × Option Frame :=
  match rx with
  | none => (if stopBit && b == 0xA5 then some [] else none, none)
  | some bs =>
    if !stopBit then (none, none)
    else if bs.isEmpty && badLength b then (none, none)
    else match assembled (bs ++ [b]) with
      | none => (some (bs ++ [b]), none)
      | some f => (none, f)

/-! ## Handling a request (R161, R162) -/

/-- What a request comes to: a refusal, which changes nothing, or a reply with its content and the state it leaves. -/
inductive Answer where
  | refuse (status : Status)
  | reply (status : Status) (content : List Byte) (after : State)

/-- The reply to a request joins the reply queue. -/
def State.answer (s : State) (kind tag : Byte) : Answer → State
  | .refuse status => s.queueReply { tag, kind := replyKind kind, body := [status.code] }
  | .reply status content after => after.queueReply { tag, kind := replyKind kind, body := status.code :: content }

/-- The link may take up a request: the reply queue has room, and no RESTART is being carried out (R161, R174). -/
def State.mayTakeUp (s : State) : Bool :=
  s.restarting.isNone && decide (s.link.replies.length < Config.replyCapacity)

/-- The oldest request leaves the intake. -/
def State.leaveIntake (s : State) : State := { s with link := { s.link with intake := s.link.intake.tail } }

/-- A body that does not have the form of the request is refused with SHAPE, before the checks of the owning rule. -/
def withBody {α : Type} (r : Reader α) (body : List Byte) (f : α → State → Answer) (s : State) : Answer :=
  match readBody r body with
  | some a => f a s
  | none => .refuse .shape

/-- An event of a running part: its work, and then an idle output is fed. An event that reaches a part without supply or
held in reset does nothing. -/
def event (work : State → State) (s : State) : Host.Outcome State Fault Refusal :=
  .next (if s.running then (work s).feedOutput else s)

end Sys2Proof.Machine
end

