-- ==== Sys2Proof/Machine/Replies.lean ====
section
/-! DEFINITION. The contents of the replies that read the part's records, byte by byte in the order of the owning rules
(R19, R33, R57, R69, R101, R129, R148, R159, R162, R166). -/

namespace Sys2Proof.Machine

def DeviceAddr.bytes (d : DeviceAddr) : List Byte := be 1 d.line ++ be 1 d.address

/-- The content of the reply to IDENTIFY (R166). -/
def identityBytes : List Byte :=
  be 2 0x2C71 ++ be 2 416 ++ be 1 3 ++ be 1 16 ++ be 1 4 ++ be 1 8 ++ be 1 4 ++ be 1 2 ++ be 1 2 ++ be 1 64 ++ be 1 16
    ++ be 1 32 ++ be 1 4

/-! ## ZONE READ (R19) -/

/-- The plant byte of a definition: 0 for absent, 1 or 2 for the plant (R2). -/
def plantByte (p : Option Nat) : List Byte := be 1 (p.getD 0)

/-- The definition, with defaults shown as the values in force (R19). -/
def Definition.bytes (d : Definition) : List Byte :=
  be 2 d.ceiling ++ be 2 d.floor ++ be 1 d.policy.code ++ be 2 d.uvRef ++ be 1 d.sensitivity ++ be 1 d.electricLimit
    ++ be 1 d.derate ++ plantByte d.plant ++ optional DeviceAddr.bytes d.dimmer ++ optional DeviceAddr.bytes d.trim
    ++ counted (be 1) d.banks ++ optional (be 2) d.surgeThreshold ++ flag d.escalate

def Band.bytes (b : Band) : List Byte :=
  be 2 b.rhTarget ++ be 1 b.rhHalf ++ be 1 b.rhGuard ++ be 2 b.swingLimit ++ be 2 b.tempTarget ++ be 1 b.tempHalf
    ++ be 1 b.tempGuard ++ be 1 b.trimAllowance

/-- The first six fields of the light state (R37). -/
def Light.bytes (l : Light) : List Byte :=
  be 2 l.target ++ be 4 l.permitted ++ be 1 l.condition.code ++ be 1 l.dimmer ++ be 1 l.louvre ++ be 1 l.electricLimit

/-- Each quantity with its stale flag, then the two channel states (R19). -/
def Measurement.bytes (m : Measurement) : List Byte :=
  optional (be 2) m.illuminance ++ flag m.light.blind ++ optional (be 2) m.uvRatio ++ flag m.light.blind
    ++ optional (be 2) m.rh ++ flag m.climate.blind ++ optional (beInt 2) m.temperature ++ flag m.climate.blind
    ++ flag (!m.light.blind) ++ flag (!m.climate.blind)

/-- The demand of zone `z` as its plant holds it: plant, duty, level, arrival number, and whether it is in the service set
(0) or the pending list (1). -/
def State.demandBytes (s : State) (z : Nat) (d : ZoneDemand) : List Byte :=
  match s.plant? d.plant with
  | some p =>
    match p.service.find? (·.zone == z), p.waiting.find? (·.zone == z) with
    | some x, _ => be 1 d.plant ++ be 1 x.duty.code ++ be 1 x.level ++ be 4 x.arrival ++ be 1 0
    | none, some x => be 1 d.plant ++ be 1 x.duty.code ++ be 1 x.level ++ be 4 x.arrival ++ be 1 1
    | none, none => be 1 d.plant ++ be 1 d.duty.code ++ be 1 d.level ++ be 4 0 ++ be 1 1
  | none => be 1 d.plant ++ be 1 d.duty.code ++ be 1 d.level ++ be 4 0 ++ be 1 1

/-- The content of the reply for a defined zone. -/
def State.zoneBytes (s : State) (z : Nat) (r : Zone) : List Byte :=
  be 1 (zoneStateCode r.isOpen) ++ r.defn.bytes ++ optional Band.bytes r.band ++ r.light.bytes ++ r.measure.bytes
    ++ be 1 r.climate.rh.code ++ be 1 r.climate.temp.code ++ optional (be 2) r.climate.lastSwing ++ flag r.climate.swing
    ++ be 1 r.climate.trimCount ++ optional (fun (p : Pulse) => be 1 p.dir.code) r.climate.pulse
    ++ optional (s.demandBytes z) r.climate.demand ++ be 2 r.measure.occupancy ++ flag r.surge
    ++ counted (fun (m : Mark) => be 1 m.code) (allMarks.filter fun m => r.marks.contains m)

/-! ## Accounts (R30, R32, R33) -/

def Season.bytes (x : Season) : List Byte := be 4 x.allowance ++ be 2 x.plannedHours ++ be 4 x.start

/-- The content of the reply to ACCOUNT READ. -/
def Account.bytes (a : Account) : List Byte :=
  be 5 a.dose ++ be 2 a.residue ++ be 4 a.openSeconds ++ optional Season.bytes a.season ++ optional (be 4) a.lastSample
    ++ flag a.saturated

/-- What SEASON BEGIN reports of the account before it. -/
def Account.closingBytes (a : Account) : List Byte :=
  be 5 a.dose ++ be 4 a.openSeconds ++ optional Season.bytes a.season ++ flag a.saturated

/-- What SEASON END reports. -/
def Account.endingBytes (a : Account) : List Byte :=
  be 5 a.dose ++ be 4 a.openSeconds ++ optional Season.bytes a.season

/-! ## HISTORY READ (R69, with the forms of R162) -/

/-- A least and greatest value in two bytes each, 8000 hex where absent. -/
def extremesNat : Option (Nat × Nat) → List Byte
  | some (lo, hi) => be 2 lo ++ be 2 hi
  | none => be 2 0x8000 ++ be 2 0x8000

def extremesInt : Option (Int × Int) → List Byte
  | some (lo, hi) => beInt 2 lo ++ beInt 2 hi
  | none => be 2 0x8000 ++ be 2 0x8000

/-- The extremes of a bucket, and its sample count, 255 standing for 255 or more. -/
def Bucket.bytes (b : Bucket) : List Byte := extremesNat b.rh ++ extremesInt b.temp ++ be 1 (min b.samples 255)

/-- The content of the reply to HISTORY READ. -/
def Climate.historyBytes (c : Climate) : List Byte :=
  counted (fun (b : Bucket) => be 1 (c.current.hour - b.hour) ++ b.bytes) c.history
    ++ be 3 c.current.hour ++ c.current.bytes ++ optional (be 2) c.lastSwing ++ flag c.swing

/-! ## BANK READ (R57), PLANT READ (R101) -/

def State.bankBytes (s : State) (b : Nat) (r : Bank) : List Byte :=
  be 1 r.state.code ++ r.louvre.bytes ++ be 1 r.slew ++ be 1 r.target ++ be 1 r.commanded
    ++ optional (be 1) ((s.device? r.louvre).bind (·.reported))
    ++ counted (fun (zr : Nat × Zone) => be 1 zr.1 ++ be 1 (zoneStateCode zr.2.isOpen) ++ be 1 zr.2.light.louvre)
      (s.servedZones b)

def Demand.bytes (d : Demand) : List Byte := be 1 d.zone ++ be 1 d.duty.code ++ be 1 d.level ++ be 4 d.arrival

/-- The content of the reply to PLANT READ for a defined plant; the service set is given in the order of R84. -/
def Plant.bytes (r : Plant) : List Byte :=
  be 1 r.state.code ++ r.controller.bytes ++ be 1 r.physical.code ++ be 1 r.commanded.code ++ be 1 r.target.code
    ++ be 1 r.serviceLevel ++ counted Demand.bytes (insertDemands r.service []) ++ counted Demand.bytes r.waiting
    ++ be 4 r.arrivals ++ flag r.minRunElapsed ++ flag r.minRunDue.isSome ++ flag r.changeExpired ++ flag r.changeAcked
    ++ flag r.changeDue.isSome

/-! ## LINE READ (R148), DEVICE READ (R129) -/

/-- An issuer: its place in the table of R142, then the number of its zone, bank or plant (log entry 8). -/
def Issuer.bytes : Issuer → List Byte
  | .governor z => be 1 0 ++ be 1 z
  | .bank b => be 1 1 ++ be 1 b
  | .tracker z => be 1 2 ++ be 1 z
  | .arbiter p => be 1 3 ++ be 1 p

def Command.bytes (c : Command) : List Byte := be 1 c.address ++ be 1 c.value ++ c.issuer.bytes

def Transaction.bytes (t : Transaction) : List Byte :=
  t.ask.packetKind :: be 1 t.address ++ be 1 t.retries
    ++ optional (fun (r : FaultReason) => be 1 r.code) t.lastReason

def Enrolment.bytes (e : Enrolment) : List Byte :=
  be 1 e.next ++ be 1 e.found ++ be 1 e.added ++ be 1 e.absent ++ be 1 e.notAdded

/-- The content of the reply to LINE READ; the progress of an enrolment is given while the line is ENROLLING. -/
def State.lineBytes (s : State) (l : Nat) (r : Line) : List Byte :=
  be 1 r.state.code ++ flag r.terminated ++ be 1 r.retryLimit ++ be 1 r.hangCount ++ be 1 r.roundCounter
    ++ flag r.roundInProgress ++ be 1 r.pollPos ++ optional Transaction.bytes r.inFlight
    ++ counted Command.bytes r.queue
    ++ optional Enrolment.bytes (if r.state = .enrolling then r.enrolment else none)
    ++ be 1 (s.lineDevices l).length ++ be 1 (s.lineActuators l).length

def Quantity.bytes (q : Quantity) : List Byte := beInt 2 q.value ++ flag q.valid

/-- The quantities the kind carries, each with its validity, then the clock value of arrival. -/
def Reading.bytes (r : Reading) : List Byte :=
  ([r.illuminance, r.uvRatio, r.rh, r.temperature].filterMap id).flatMap Quantity.bytes ++ be 4 r.clock

def Owner.bytes : Owner → List Byte
  | .zoneDimmer z => be 1 0 ++ be 1 z
  | .zoneTrim z => be 1 1 ++ be 1 z
  | .bank b => be 1 2 ++ be 1 b
  | .plant p => be 1 3 ++ be 1 p

/-- The report record of an entry: absent until one of its fields has been written. -/
def Device.reportBytes (e : Device) : List Byte :=
  if e.reported.isNone && e.acked.isNone then be 1 0
  else be 1 1 ++ optional (be 1) e.reported ++ optional (be 1) e.acked

/-- The content of the reply to DEVICE READ. -/
def State.deviceBytes (s : State) (e : Device) : List Byte :=
  be 1 e.kind.code ++ be 1 e.state.code ++ be 1 e.failures ++ optional Reading.bytes e.reading ++ e.reportBytes
    ++ optional (fun (f : FaultRecord) => be 1 f.reason.code ++ be 4 f.clock) e.fault
    ++ optional Owner.bytes (s.owner? e.addr)

/-! ## REPORT SET (R154) -/

def ReportSettings.bytes (r : ReportSettings) : List Byte :=
  be 1 r.floor ++ be 1 r.alarmLevel ++ be 1 r.mode.code

end Sys2Proof.Machine
end

