-- ==== Sys2Proof/Machine/LineCommands.lean ====
section
/-! DEFINITION. The meanings of the commands of field lines and devices: the requests of R125, R129, R130, R138, R147, R148 and
the events of a line. -/

namespace Sys2Proof.Machine

/-- The checks of a line number; else the work on the line's record. -/
def onLine (l : Nat) (s : State) (work : Line → Answer) : Answer :=
  match s.line? l with
  | some r => work r
  | none => .refuse .range

/-- LINE SET (R138). -/
def answerLineSet (q : Nat × Nat) (s : State) : Answer :=
  onLine q.1 s fun r =>
    if 7 < q.2 then .refuse .range
    else .reply .done [] ((s.putLine q.1 { r with retryLimit := q.2 }).noteConfiguration s)

/-- LINE ENROL (R125). -/
def answerLineEnrol (l : Nat) (s : State) : Answer :=
  onLine l s fun r =>
    match r.state with
    | .off | .disabled | .recovering => .refuse .state
    | .enrolling => .refuse .busy
    | .active => if r.enrolment.isSome then .refuse .busy else .reply .accepted [] (s.beginEnrolment l)

/-- LINE ENABLE (R147). -/
def answerLineEnable (l : Nat) (s : State) : Answer :=
  onLine l s fun r => if r.state == .off then .refuse .state else .reply .done [] (s.enableLine l)

/-- LINE READ (R148). -/
def answerLineRead (l : Nat) (s : State) : Answer := onLine l s fun r => .reply .done (s.lineBytes l r) s

/-- DEVICE READ (R129). -/
def answerDeviceRead (d : DeviceAddr) (s : State) : Answer :=
  if !d.inRange then .refuse .range
  else match s.device? d with
    | some e => .reply .done (s.deviceBytes e) s
    | none => .refuse .noSuch

/-- An accepted DEVICE RETIRE: the entry leaves the table, and its queued command the queue (R130). -/
def State.retire (s : State) (d : DeviceAddr) : State :=
  (s.removeDevice d).modLine d.line fun r => { r with queue := r.queue.filter fun c => c.address != d.address }

/-- DEVICE RETIRE (R130). -/
def answerDeviceRetire (d : DeviceAddr) (s : State) : Answer :=
  if !d.inRange then .refuse .range
  else if (s.device? d).isNone then .refuse .noSuch
  else if (s.owner? d).isSome then .refuse .conflict
  else .reply .done [] ((s.retire d).noteConfiguration s)

/-! ## Events of a line -/

/-- Round timer expiry (R139). -/
def execRoundTimerExpiry (line : Nat) (s : State) : Host.Outcome State Fault Refusal := event (·.roundTimerExpiry line) s

/-- The line takes up a new transaction (R140). -/
def execTransactionTakeUp (line : Nat) (s : State) : Host.Outcome State Fault Refusal := event (·.takeUp line) s

/-- The request of a failed or kept attempt is sent again (R137, R145). -/
def execAttemptRetry (line : Nat) (s : State) : Host.Outcome State Fault Refusal := event (·.resend line) s

/-- The IDENT probe to the next address is sent (R126). -/
def execEnrolProbeSend (line : Nat) (s : State) : Host.Outcome State Fault Refusal := event (·.sendProbe line) s

/-- A complete reply packet arrives (R134). -/
def execReplyComplete (line : Nat) (bytes : List FieldByte) (s : State) : Host.Outcome State Fault Refusal :=
  event (·.replyComplete line bytes) s

/-- 20 ms pass without a complete reply (R134). -/
def execReplyTimeout (line : Nat) (bytes : List FieldByte) (s : State) : Host.Outcome State Fault Refusal :=
  event (·.replyTimeout line bytes) s

/-- The line is held active beyond 50 ms (R143 to R146). -/
def execHangDetected (line : Nat) (s : State) : Host.Outcome State Fault Refusal := event (·.hangDetected line) s

/-- The release sequence ends (R144). -/
def execReleaseEnd (line : Nat) (s : State) : Host.Outcome State Fault Refusal := event (·.releaseEnd line) s

/-- Recovery wait expiry (R145). -/
def execRecoveryWaitExpiry (line : Nat) (s : State) : Host.Outcome State Fault Refusal :=
  event (·.recoveryWaitExpiry line) s

end Sys2Proof.Machine
end

