-- ==== Sys2Proof/Machine/PartRequests.lean ====
section
/-! DEFINITION. What the requests to the part as a whole are answered: identity, report settings, store and RESTART (R154, R157,
R166, R171, R174). -/

namespace Sys2Proof.Machine

/-- IDENTIFY (R166). -/
def answerIdentify (_ : Unit) (s : State) : Answer := .reply .done identityBytes s

/-- REPORT SET (R154, R157): the reply gives the settings, the number of notices purged, and the alarm line. -/
def answerReportSet (q : Nat × Nat × Nat) (s : State) : Answer :=
  match AlarmMode.ofCode? q.2.2 with
  | none => .refuse .range
  | some mode =>
    if inRange 0 7 q.1 && inRange 1 7 q.2.1 then
      let s' := s.setReport { floor := q.1, alarmLevel := q.2.1, mode }
      .reply .done (s'.report.bytes ++ be 1 (s.notices.length - s'.notices.length) ++ flag s'.alarm)
        (s'.noteConfiguration s)
    else .refuse .range

/-- CHECKPOINT NOW (R171). -/
def answerCheckpointNow (_ : Unit) (s : State) : Answer := .reply .done [] s.beginCheckpoint

/-- RESTART (R174). -/
def answerRestart (_ : Unit) (s : State) : Answer := .reply .done [] s.beginRestart

/-- A kind code of the catalogue (R165). -/
def inCatalogue (kind : Byte) : Bool := 1 ≤ kind.toNat && kind.toNat ≤ 0x1F

end Sys2Proof.Machine
end

