-- ==== Sys2Proof/Machine/PlantCommands.lean ====
section
/-! DEFINITION. The meanings of the commands of lantern banks and plants: the requests of R51, R57, R97 to R101 and the events
of the bank step and plant timers. -/

namespace Sys2Proof.Machine

/-! ## Banks -/

/-- BANK DEFINE (R51). -/
def answerBankDefine (q : Nat × DeviceAddr × Nat) (s : State) : Answer :=
  if !validBank q.1 || !inRange 1 50 q.2.2 || !q.2.1.inRange then .refuse .range
  else if !s.known (some q.2.1) then .refuse .noSuch
  else if !s.ofKind (some q.2.1) .louvre then .refuse .conflict
  else if s.louvreElsewhere q.1 q.2.1 then .refuse .conflict
  else .reply .done [] ((s.defineBank q.1 q.2.1 q.2.2).noteConfiguration s)

/-- BANK READ (R57). -/
def answerBankRead (b : Nat) (s : State) : Answer :=
  if !validBank b then .refuse .range
  else match s.bank? b with
    | some r => .reply .done (s.bankBytes b r) s
    | none => .reply .done (be 1 0) s

/-- Bank step timer expiry (R53). -/
def execBankStep (bank : Nat) (s : State) : Host.Outcome State Fault Refusal := event (·.bankStep bank) s

/-! ## Plants -/

/-- The other plant names this controller. -/
def State.controllerElsewhere (s : State) (p : Nat) (d : DeviceAddr) : Bool :=
  plantNumbers.any fun k => k != p && (s.plant? k).any fun r => r.controller == d

/-- PLANT DEFINE (R97, R98). -/
def answerPlantDefine (q : Nat × DeviceAddr) (s : State) : Answer :=
  if !validPlant q.1 || !q.2.inRange then .refuse .range
  else if !s.known (some q.2) then .refuse .noSuch
  else if !s.ofKind (some q.2) .plantController then .refuse .conflict
  else if s.controllerElsewhere q.1 q.2 then .refuse .conflict
  else .reply .done [] ((s.definePlant q.1 q.2).noteConfiguration s)

/-- PLANT HOLD (R99). -/
def answerPlantHold (q : Nat × Nat) (s : State) : Answer :=
  match validPlant q.1, Duty.ofCode? q.2 with
  | true, some duty =>
    match s.plant? q.1 with
    | some r => if r.state == .faulted then .refuse .state else .reply .done [] (s.holdPlant q.1 duty)
    | none => .refuse .state
  | _, _ => .refuse .range

/-- PLANT RELEASE (R100). -/
def answerPlantRelease (p : Nat) (s : State) : Answer :=
  if !validPlant p then .refuse .range
  else match s.plant? p with
    | some r => if r.state == .held then .reply .done [] (s.select p) else .refuse .state
    | none => .refuse .state

/-- PLANT READ (R101). -/
def answerPlantRead (p : Nat) (s : State) : Answer :=
  if !validPlant p then .refuse .range
  else match s.plant? p with
    | some r => .reply .done r.bytes s
    | none => .reply .done (be 1 0) s

/-- Minimum-run expiry (R91). -/
def execMinimumRunExpiry (plant : Nat) (s : State) : Host.Outcome State Fault Refusal :=
  event (·.minimumRunExpiry plant) s

/-- Changeover timer expiry (R92). -/
def execChangeoverTimerExpiry (plant : Nat) (s : State) : Host.Outcome State Fault Refusal :=
  event (·.changeoverTimerExpiry plant) s

end Sys2Proof.Machine
end

