-- ==== Sys2Proof/Machine/ZoneCommands.lean ====
section
/-! DEFINITION. The meanings of the commands of zones, marks, clock and accounts: the requests of R2, R8, R9, R12, R13, R18,
R19, R30, R32, R33, R34, R60, R69, R106, R114 and the events of the clock and of a zone's timers. -/

namespace Sys2Proof.Machine

/-- The checks of a zone number: out of range, then UNSET; else the work on the zone's record. -/
def onZone (z : Nat) (s : State) (work : Zone → Answer) : Answer :=
  if !validZone z then .refuse .range
  else match s.zone? z with
    | some r => work r
    | none => .refuse .state

/-! ## The clock (R12, R13) -/

/-- TIME SET (R13). -/
def answerTimeSet (count : Nat) (s : State) : Answer :=
  .reply .done (be 4 s.clock) { s.moveClock count with synced := true }

/-- TIME READ (R12). -/
def answerTimeRead (_ : Unit) (s : State) : Answer := .reply .done (be 4 s.clock ++ flag s.synced) s

/-- The clock advances by one second (R12). -/
def execClockTick (s : State) : Host.Outcome State Fault Refusal := event State.tick s

/-- An hour rollover is delivered to a defined zone's climate tracker (R14, R67, R68). -/
def execHourRollover (zone : Nat) (s : State) : Host.Outcome State Fault Refusal := event (·.hourRollover zone) s

/-! ## Defining, opening, closing and reading a zone -/

/-- ZONE DEFINE (R2 to R7): ranges, references, then the definition is installed. -/
def answerZoneDefine (q : Nat × DefinitionFields) (s : State) : Answer :=
  if !validZone q.1 then .refuse .range
  else match q.2.definition? with
    | none => .refuse .range
    | some d =>
      match s.definitionRefused q.1 d with
      | some status => .refuse status
      | none => .reply .done [] ((s.defineZone q.1 d).noteConfiguration s)

/-- ZONE BIND (R106): the reply counts the entries each binding binds. -/
def answerZoneBind (q : Nat × List (Nat × Nat × Nat × Nat)) (s : State) : Answer :=
  onZone q.1 s fun r =>
    if 4 < q.2.length then .refuse .range
    else match allSome bindingOf? q.2 with
      | none => .refuse .range
      | some bs =>
        .reply .done (counted (fun b => be 1 (s.bindCount b)) bs)
          ((s.putZone q.1 { r with measure := { r.measure with bindings := bs } }).noteConfiguration s)

/-- ZONE OPEN (R8). -/
def answerZoneOpen (z : Nat) (s : State) : Answer :=
  onZone z s fun _ => .reply .done [] ((s.openZone z).noteConfiguration s)

/-- ZONE CLOSE (R9). -/
def answerZoneClose (z : Nat) (s : State) : Answer :=
  onZone z s fun _ => .reply .done [] ((s.closeZone z).noteConfiguration s)

/-- ZONE READ (R19): an UNSET zone is read as its number and the state UNSET. -/
def answerZoneRead (z : Nat) (s : State) : Answer :=
  if !validZone z then .refuse .range
  else match s.zone? z with
    | some r => .reply .done (s.zoneBytes z r) s
    | none => .reply .done (be 1 z ++ be 1 0) s

/-- MARKS CLEAR (R18). R18 says a set of mark names and not what a body is that names one mark twice: the model accepts it, and
the mark counts once (DEDUCED, log entry 38). -/
def answerMarksClear (q : Nat × List Nat) (s : State) : Answer :=
  onZone q.1 s fun r =>
    match allSome Mark.ofCode? q.2 with
    | none => .refuse .range
    | some named =>
      let kept := r.keptMarks s.now named
      if kept.isEmpty then .reply .done [] (s.clearMarks q.1 named)
      else .reply .partly (counted (fun (m : Mark) => be 1 m.code) kept) (s.clearMarks q.1 named)

/-! ## Accounts -/

/-- A request gives the zone another account. The condition of EXHAUSTED is that of the new account from then on, as R17 (SEASON
BEGIN and ACCOUNT ADJUST), R30 and R32 say (log entry 39). -/
def State.setAccount (s : State) (z : Nat) (r : Zone) (a : Account) : State :=
  s.putZone z { r with account := a, light := { r.light with spent := a.isExhausted } }

/-- SEASON BEGIN (R30). -/
def answerSeasonBegin (q : Nat × Nat × Nat) (s : State) : Answer :=
  onZone q.1 s fun r =>
    if inRange 1 300000000 q.2.1 && inRange 1 8784 q.2.2 then
      .reply .done r.account.closingBytes (s.setAccount q.1 r (r.account.beginSeason q.2.1 q.2.2 s.clock))
    else .refuse .range

/-- SEASON END (R32). -/
def answerSeasonEnd (z : Nat) (s : State) : Answer :=
  onZone z s fun r => .reply .done r.account.endingBytes (s.setAccount z r r.account.endSeason)

/-- ACCOUNT READ (R33). -/
def answerAccountRead (z : Nat) (s : State) : Answer := onZone z s fun r => .reply .done r.account.bytes s

/-- ACCOUNT ADJUST (R34). -/
def answerAccountAdjust (q : Nat × Nat × Nat) (s : State) : Answer :=
  onZone q.1 s fun r =>
    let a := r.account.adjusted q.2.1 q.2.2
    .reply .done (be 5 r.account.dose ++ be 2 r.account.residue ++ be 4 r.account.openSeconds ++ be 5 a.dose)
      ((s.setAccount q.1 r a).evalMark q.1 .saturated a.atLimit)

/-! ## Climate and occupancy -/

/-- CLIMATE BAND (R60, R61). The check that a field without a default is present belongs to the form of the body here, so an
UNSET zone named by a body of the wrong form is answered SHAPE, by the order of R162. -/
def answerClimateBand (q : Nat × Band) (s : State) : Answer :=
  onZone q.1 s fun r =>
    if q.2.inRange then .reply .done [] ((s.putZone q.1 (r.withBand q.2)).noteConfiguration s) else .refuse .range

/-- HISTORY READ (R69). -/
def answerHistoryRead (z : Nat) (s : State) : Answer := onZone z s fun r => .reply .done r.climate.historyBytes s

/-- OCCUPANCY (R114): the count is clamped to 9999. -/
def answerOccupancy (q : Nat × Nat) (s : State) : Answer :=
  onZone q.1 s fun r =>
    let r' := { r with measure := { r.measure with occupancy := min q.2 Config.occupancyMax } }
    .reply .done (be 2 r'.measure.occupancy ++ flag r'.surge) (s.putZone q.1 r')

/-! ## Events of a zone's timers -/

/-- Light sample timer expiry (R21). -/
def execLightSample (zone : Nat) (s : State) : Host.Outcome State Fault Refusal := event (·.lightSample zone) s

/-- Light review timer expiry (R38). -/
def execLightReview (zone : Nat) (s : State) : Host.Outcome State Fault Refusal := event (·.lightReview zone) s

/-- Climate review timer expiry (R62). -/
def execClimateReview (zone : Nat) (s : State) : Host.Outcome State Fault Refusal := event (·.climateReview zone) s

/-- Pulse-end timer expiry (R72). -/
def execPulseEndExpiry (zone : Nat) (s : State) : Host.Outcome State Fault Refusal := event (·.pulseEndExpiry zone) s

end Sys2Proof.Machine
end

