-- ==== Sys2Proof/Machine/Requests.lean ====
section
/-! DEFINITION. The requests of the catalogue by their codes, the taking up of the oldest request of the intake, and what the
arrival of a frame comes to (R161, R162, R165). -/

namespace Sys2Proof.Machine

/-- What the request in a frame is answered: the kinds of R165, each with the form of its body and its owning rule; any other
kind is refused with UNKNOWN (R162). -/
def answerTo (f : Frame) : State → Answer :=
  match f.kind.toNat with
  | 1 => withBody readNothing f.body answerIdentify
  | 2 => withBody (readNat 4) f.body answerTimeSet
  | 3 => withBody readNothing f.body answerTimeRead
  | 4 => withBody readZoneDefine f.body answerZoneDefine
  | 5 => withBody readZoneBind f.body answerZoneBind
  | 6 => withBody (readNat 1) f.body answerZoneOpen
  | 7 => withBody (readNat 1) f.body answerZoneClose
  | 8 => withBody (readNat 1) f.body answerZoneRead
  | 9 => withBody readMarksClear f.body answerMarksClear
  | 10 => withBody readSeasonBegin f.body answerSeasonBegin
  | 11 => withBody (readNat 1) f.body answerSeasonEnd
  | 12 => withBody (readNat 1) f.body answerAccountRead
  | 13 => withBody readAccountAdjust f.body answerAccountAdjust
  | 14 => withBody readClimateBand f.body answerClimateBand
  | 15 => withBody (readNat 1) f.body answerHistoryRead
  | 16 => withBody readOccupancy f.body answerOccupancy
  | 17 => withBody readBankDefine f.body answerBankDefine
  | 18 => withBody (readNat 1) f.body answerBankRead
  | 19 => withBody readPlantDefine f.body answerPlantDefine
  | 20 => withBody readPair f.body answerPlantHold
  | 21 => withBody (readNat 1) f.body answerPlantRelease
  | 22 => withBody (readNat 1) f.body answerPlantRead
  | 23 => withBody readPair f.body answerLineSet
  | 24 => withBody (readNat 1) f.body answerLineEnrol
  | 25 => withBody (readNat 1) f.body answerLineEnable
  | 26 => withBody (readNat 1) f.body answerLineRead
  | 27 => withBody readDevice f.body answerDeviceRead
  | 28 => withBody readDevice f.body answerDeviceRetire
  | 29 => withBody readReportSet f.body answerReportSet
  | 30 => withBody readNothing f.body answerCheckpointNow
  | 31 => withBody readNothing f.body answerRestart
  | _ => fun _ => .refuse .unknown

/-- The request `f` is handled within one event: its reply joins the reply queue as it leaves the intake, and an idle output
is fed (R161, log entry 11). -/
def State.handled (s : State) (f : Frame) : State :=
  ((s.answer f.kind f.tag (answerTo f s)).leaveIntake).feedOutput

/-- At most `n` requests of the intake are handled, oldest first, while the link may take one up. Of each `now` says whether it
is taken up or goes on waiting, with all behind it; its argument is the counter of free values. -/
def State.serve (now : Nat → Bool) : Nat → State → State
  | 0, s => s
  | n + 1, s =>
    match s.link.intake with
    | f :: _ =>
      if s.mayTakeUp then
        if now s.freeIx then State.serve now n (s.useFree.handled f) else s.useFree
      else s
    | [] => s

/-- R161: of the requests that may be taken up, those that free values let be taken up within the event at hand. -/
def State.serveSome (s : State) : State := s.serve Config.takenUpNow s.link.intake.length

/-- R161: the link takes up the oldest request whenever the intake is not empty and the reply queue has room. -/
def State.serveIntake (s : State) : State := s.serve (fun _ => true) s.link.intake.length

/-- A complete good frame arrives (R161): it passes to the intake, is answered FULL or is discarded. Requests that may be taken
up are, before it or after it or after the event: a frame that meets the freeing of a place in the intake finds the place freed,
or comes first and is answered FULL (log entry 3). -/
def State.arrive (s : State) (f : Frame) : State := ((s.serveSome.deliver f).serveSome).feedOutput

/-- The command of a host request is the arrival of its frame and, where no other request waits and it may be taken up, its
handling too, in one step (log entry 3). A part that does not work answers nothing. -/
def request (kind tag : Byte) (body : List Byte) (s : State) : Host.Outcome State Fault Refusal :=
  .next (if s.running then
      if s.link.intake.isEmpty && s.mayTakeUp then s.handled { tag, kind, body } else s.arrive { tag, kind, body }
    else s)

/-- What a part does that no command waits for: the requests that may be taken up are (R161, log entry 18). -/
def State.idle (s : State) : State := if s.running then s.serveIntake else s

end Sys2Proof.Machine
end

