-- ==== Sys2Proof/Machine/RequestCommands.lean ====
section
/-! DEFINITION. The meanings of the commands that are host requests: each is the arrival of its frame, of its kind in the
catalogue (R161, R165); what it is answered stands under the name answer… in the files of its blocks. -/

namespace Sys2Proof.Machine

/-- IDENTIFY (R166). -/
def execIdentify (tag : Byte) (body : List Byte) (s : State) : Host.Outcome State Fault Refusal := request 0x01 tag body s

/-- TIME SET (R13). -/
def execTimeSet (tag : Byte) (body : List Byte) (s : State) : Host.Outcome State Fault Refusal := request 0x02 tag body s

/-- TIME READ (R12). -/
def execTimeRead (tag : Byte) (body : List Byte) (s : State) : Host.Outcome State Fault Refusal := request 0x03 tag body s

/-- ZONE DEFINE (R2 to R7). -/
def execZoneDefine (tag : Byte) (body : List Byte) (s : State) : Host.Outcome State Fault Refusal := request 0x04 tag body s

/-- ZONE BIND (R106). -/
def execZoneBind (tag : Byte) (body : List Byte) (s : State) : Host.Outcome State Fault Refusal := request 0x05 tag body s

/-- ZONE OPEN (R8). -/
def execZoneOpen (tag : Byte) (body : List Byte) (s : State) : Host.Outcome State Fault Refusal := request 0x06 tag body s

/-- ZONE CLOSE (R9). -/
def execZoneClose (tag : Byte) (body : List Byte) (s : State) : Host.Outcome State Fault Refusal := request 0x07 tag body s

/-- ZONE READ (R19). -/
def execZoneRead (tag : Byte) (body : List Byte) (s : State) : Host.Outcome State Fault Refusal := request 0x08 tag body s

/-- MARKS CLEAR (R18). -/
def execMarksClear (tag : Byte) (body : List Byte) (s : State) : Host.Outcome State Fault Refusal := request 0x09 tag body s

/-- SEASON BEGIN (R30). -/
def execSeasonBegin (tag : Byte) (body : List Byte) (s : State) : Host.Outcome State Fault Refusal := request 0x0A tag body s

/-- SEASON END (R32). -/
def execSeasonEnd (tag : Byte) (body : List Byte) (s : State) : Host.Outcome State Fault Refusal := request 0x0B tag body s

/-- ACCOUNT READ (R33). -/
def execAccountRead (tag : Byte) (body : List Byte) (s : State) : Host.Outcome State Fault Refusal := request 0x0C tag body s

/-- ACCOUNT ADJUST (R34). -/
def execAccountAdjust (tag : Byte) (body : List Byte) (s : State) : Host.Outcome State Fault Refusal := request 0x0D tag body s

/-- CLIMATE BAND (R60, R61). -/
def execClimateBand (tag : Byte) (body : List Byte) (s : State) : Host.Outcome State Fault Refusal := request 0x0E tag body s

/-- HISTORY READ (R69). -/
def execHistoryRead (tag : Byte) (body : List Byte) (s : State) : Host.Outcome State Fault Refusal := request 0x0F tag body s

/-- OCCUPANCY (R114). -/
def execOccupancy (tag : Byte) (body : List Byte) (s : State) : Host.Outcome State Fault Refusal := request 0x10 tag body s

/-- BANK DEFINE (R51). -/
def execBankDefine (tag : Byte) (body : List Byte) (s : State) : Host.Outcome State Fault Refusal := request 0x11 tag body s

/-- BANK READ (R57). -/
def execBankRead (tag : Byte) (body : List Byte) (s : State) : Host.Outcome State Fault Refusal := request 0x12 tag body s

/-- PLANT DEFINE (R97, R98). -/
def execPlantDefine (tag : Byte) (body : List Byte) (s : State) : Host.Outcome State Fault Refusal := request 0x13 tag body s

/-- PLANT HOLD (R99). -/
def execPlantHold (tag : Byte) (body : List Byte) (s : State) : Host.Outcome State Fault Refusal := request 0x14 tag body s

/-- PLANT RELEASE (R100). -/
def execPlantRelease (tag : Byte) (body : List Byte) (s : State) : Host.Outcome State Fault Refusal := request 0x15 tag body s

/-- PLANT READ (R101). -/
def execPlantRead (tag : Byte) (body : List Byte) (s : State) : Host.Outcome State Fault Refusal := request 0x16 tag body s

/-- LINE SET (R138). -/
def execLineSet (tag : Byte) (body : List Byte) (s : State) : Host.Outcome State Fault Refusal := request 0x17 tag body s

/-- LINE ENROL (R125). -/
def execLineEnrol (tag : Byte) (body : List Byte) (s : State) : Host.Outcome State Fault Refusal := request 0x18 tag body s

/-- LINE ENABLE (R147). -/
def execLineEnable (tag : Byte) (body : List Byte) (s : State) : Host.Outcome State Fault Refusal := request 0x19 tag body s

/-- LINE READ (R148). -/
def execLineRead (tag : Byte) (body : List Byte) (s : State) : Host.Outcome State Fault Refusal := request 0x1A tag body s

/-- DEVICE READ (R129). -/
def execDeviceRead (tag : Byte) (body : List Byte) (s : State) : Host.Outcome State Fault Refusal := request 0x1B tag body s

/-- DEVICE RETIRE (R130). -/
def execDeviceRetire (tag : Byte) (body : List Byte) (s : State) : Host.Outcome State Fault Refusal := request 0x1C tag body s

/-- REPORT SET (R154, R157). -/
def execReportSet (tag : Byte) (body : List Byte) (s : State) : Host.Outcome State Fault Refusal := request 0x1D tag body s

/-- CHECKPOINT NOW (R171). -/
def execCheckpointNow (tag : Byte) (body : List Byte) (s : State) : Host.Outcome State Fault Refusal := request 0x1E tag body s

/-- RESTART (R174). -/
def execRestart (tag : Byte) (body : List Byte) (s : State) : Host.Outcome State Fault Refusal := request 0x1F tag body s

/-- A request whose kind is not in the catalogue (R162); no such request has a kind of the catalogue. -/
def execUnknownRequestKind (kind tag : Byte) (body : List Byte) (s : State) : Host.Outcome State Fault Refusal :=
  if inCatalogue kind then .next s else request kind tag body s

end Sys2Proof.Machine
end

