-- ==== Sys2Proof/Machine/PartCommands.lean ====
section
/-! DEFINITION. The meanings of the events of the part as a whole: the host link's own, the alarm pulse, the store, supply and
reset input (R156, R160 to R174). -/

namespace Sys2Proof.Machine

/-! ## The host link -/

/-- A complete good frame (R161). The receive assembly that delivers it returns to hunting. -/
def execFrameReceived (tag kind : Byte) (body : List Byte) (s : State) : Host.Outcome State Fault Refusal :=
  .next (if s.running then { s with link := { s.link with rx := none } }.arrive { tag, kind, body } else s)

/-- 100 ms pass inside a frame with no byte (R160). -/
def execFrameGapExpiry (s : State) : Host.Outcome State Fault Refusal :=
  event (fun s => { s with link := { s.link with rx := none } }) s

/-- A byte arrives at the receive assembly, and the frame it completes, if any, arrives (R160, R161). -/
def State.receiveByte (s : State) (b : Byte) (stopBit : Bool) : State :=
  let a := assemble s.link.rx b stopBit
  let s := { s with link := { s.link with rx := a.1 } }
  match a.2 with
  | none => s.feedOutput
  | some f => s.arrive f

def execUartByteReceived (data : Byte) (stopBit : Bool) (s : State) : Host.Outcome State Fault Refusal :=
  .next (if s.running then s.receiveByte data stopBit else s)

/-- The output finishes sending a frame and chooses the next; where that was the reply of RESTART, its start may begin
(R164, R174). A reply that has left its queue leaves room to take up a request that waits, now or after the event (R161). -/
def State.frameSent (s : State) (sense : TermSense) : State :=
  match s.link.output with
  | some o =>
    let s := { s with link := { s.link with output := none } }
    if o.restartReply then
      let s := { s with restarting := s.restarting.map fun (r : Restart) => { r with replySent := true } }
      (s.restartIfReady sense).chooseFrame.serveSome
    else s.chooseFrame.serveSome
  | none => s

/-- The output finishes sending a frame (R164). -/
def execOutputFrameSent (sense : TermSense) (s : State) : Host.Outcome State Fault Refusal :=
  .next (if s.running then s.frameSent sense else s)

/-! ## Alarm pulse and store -/

/-- R156: the pulse ends and the alarm line deasserts. -/
def State.endAlarmPulse (s : State) : State :=
  if s.pulsing then { s with alarm := false, pulsing := false } else s

def execAlarmPulseEnd (s : State) : Host.Outcome State Fault Refusal := event State.endAlarmPulse s

/-- Checkpoint timer expiry (R171). -/
def execCheckpointTimerExpiry (s : State) : Host.Outcome State Fault Refusal := event State.checkpointTimerExpiry s

/-- A record write ends and is read back (R170); the start of a RESTART may begin (R174). -/
def execRecordWriteEnd (readBackAgrees : Bool) (sense : TermSense) (s : State) : Host.Outcome State Fault Refusal :=
  event (fun s => (s.endWrite readBackAgrees).restartIfReady sense) s

/-! ## Supply and reset input (R167, R170, R172) -/

/-- Supply returns: the start sequence begins, unless the reset input is held low. -/
def State.supplyReturns (s : State) (sense : TermSense) : State :=
  if s.powered then s
  else
    let s := { s with powered := true, alarm := false }
    if s.resetLow then s else (s.startSequence .powerOn sense).feedOutput

def execPowerOn (sense : TermSense) (s : State) : Host.Outcome State Fault Refusal := .next (s.supplyReturns sense)

/-- The supply falls: the part stops, and its open-drain alarm output no longer conducts. -/
def State.supplyFails (s : State) : State :=
  if s.powered then { s.stop with powered := false, alarm := false } else s

def execPowerFail (s : State) : Host.Outcome State Fault Refusal := .next s.supplyFails

/-- The reset input is held low: a running part stops; the level of its alarm output is a free value (log entry 17). -/
def State.resetAsserted (s : State) : State :=
  if s.resetLow then s
  else if s.powered then { s.stop with resetLow := true, alarm := Config.alarmWhileReset s.freeIx }.useFree
  else { s with resetLow := true }

def execResetInputAssert (s : State) : Host.Outcome State Fault Refusal := .next s.resetAsserted

/-- The reset input returns high: the start sequence of a supplied part begins. -/
def State.resetReleased (s : State) (sense : TermSense) : State :=
  if s.resetLow then
    let s := { s with resetLow := false }
    if s.powered then (s.startSequence .resetInput sense).feedOutput else s
  else s

def execResetInputRelease (sense : TermSense) (s : State) : Host.Outcome State Fault Refusal :=
  .next (s.resetReleased sense)

end Sys2Proof.Machine
end

