-- ==== Sys2Proof/Machine/Dispatch.lean ====
section
/-! DEFINITION. The command dispatch: one arm for each constructor of `Instr`, each one call of that command's meaning. -/

namespace Sys2Proof.Machine

def exec (i : Instr) (s : State) : Host.Outcome State Fault Refusal :=
  match i with
  | .identify tag body => Sys2Proof.Machine.execIdentify tag body s
  | .timeSet tag body => Sys2Proof.Machine.execTimeSet tag body s
  | .timeRead tag body => Sys2Proof.Machine.execTimeRead tag body s
  | .zoneDefine tag body => Sys2Proof.Machine.execZoneDefine tag body s
  | .zoneBind tag body => Sys2Proof.Machine.execZoneBind tag body s
  | .zoneOpen tag body => Sys2Proof.Machine.execZoneOpen tag body s
  | .zoneClose tag body => Sys2Proof.Machine.execZoneClose tag body s
  | .zoneRead tag body => Sys2Proof.Machine.execZoneRead tag body s
  | .marksClear tag body => Sys2Proof.Machine.execMarksClear tag body s
  | .seasonBegin tag body => Sys2Proof.Machine.execSeasonBegin tag body s
  | .seasonEnd tag body => Sys2Proof.Machine.execSeasonEnd tag body s
  | .accountRead tag body => Sys2Proof.Machine.execAccountRead tag body s
  | .accountAdjust tag body => Sys2Proof.Machine.execAccountAdjust tag body s
  | .climateBand tag body => Sys2Proof.Machine.execClimateBand tag body s
  | .historyRead tag body => Sys2Proof.Machine.execHistoryRead tag body s
  | .occupancy tag body => Sys2Proof.Machine.execOccupancy tag body s
  | .bankDefine tag body => Sys2Proof.Machine.execBankDefine tag body s
  | .bankRead tag body => Sys2Proof.Machine.execBankRead tag body s
  | .plantDefine tag body => Sys2Proof.Machine.execPlantDefine tag body s
  | .plantHold tag body => Sys2Proof.Machine.execPlantHold tag body s
  | .plantRelease tag body => Sys2Proof.Machine.execPlantRelease tag body s
  | .plantRead tag body => Sys2Proof.Machine.execPlantRead tag body s
  | .lineSet tag body => Sys2Proof.Machine.execLineSet tag body s
  | .lineEnrol tag body => Sys2Proof.Machine.execLineEnrol tag body s
  | .lineEnable tag body => Sys2Proof.Machine.execLineEnable tag body s
  | .lineRead tag body => Sys2Proof.Machine.execLineRead tag body s
  | .deviceRead tag body => Sys2Proof.Machine.execDeviceRead tag body s
  | .deviceRetire tag body => Sys2Proof.Machine.execDeviceRetire tag body s
  | .reportSet tag body => Sys2Proof.Machine.execReportSet tag body s
  | .checkpointNow tag body => Sys2Proof.Machine.execCheckpointNow tag body s
  | .restart tag body => Sys2Proof.Machine.execRestart tag body s
  | .unknownRequestKind kind tag body => Sys2Proof.Machine.execUnknownRequestKind kind tag body s
  | .frameReceived tag kind body => Sys2Proof.Machine.execFrameReceived tag kind body s
  | .frameGapExpiry => Sys2Proof.Machine.execFrameGapExpiry s
  | .outputFrameSent sense => Sys2Proof.Machine.execOutputFrameSent sense s
  | .clockTick => Sys2Proof.Machine.execClockTick s
  | .hourRollover zone => Sys2Proof.Machine.execHourRollover zone s
  | .lightSample zone => Sys2Proof.Machine.execLightSample zone s
  | .lightReview zone => Sys2Proof.Machine.execLightReview zone s
  | .climateReview zone => Sys2Proof.Machine.execClimateReview zone s
  | .pulseEndExpiry zone => Sys2Proof.Machine.execPulseEndExpiry zone s
  | .bankStep bank => Sys2Proof.Machine.execBankStep bank s
  | .minimumRunExpiry plant => Sys2Proof.Machine.execMinimumRunExpiry plant s
  | .changeoverTimerExpiry plant => Sys2Proof.Machine.execChangeoverTimerExpiry plant s
  | .roundTimerExpiry line => Sys2Proof.Machine.execRoundTimerExpiry line s
  | .transactionTakeUp line => Sys2Proof.Machine.execTransactionTakeUp line s
  | .attemptRetry line => Sys2Proof.Machine.execAttemptRetry line s
  | .enrolProbeSend line => Sys2Proof.Machine.execEnrolProbeSend line s
  | .replyComplete line bytes => Sys2Proof.Machine.execReplyComplete line bytes s
  | .replyTimeout line bytes => Sys2Proof.Machine.execReplyTimeout line bytes s
  | .hangDetected line => Sys2Proof.Machine.execHangDetected line s
  | .releaseEnd line => Sys2Proof.Machine.execReleaseEnd line s
  | .recoveryWaitExpiry line => Sys2Proof.Machine.execRecoveryWaitExpiry line s
  | .alarmPulseEnd => Sys2Proof.Machine.execAlarmPulseEnd s
  | .checkpointTimerExpiry => Sys2Proof.Machine.execCheckpointTimerExpiry s
  | .recordWriteEnd readBackAgrees sense => Sys2Proof.Machine.execRecordWriteEnd readBackAgrees sense s
  | .powerOn sense => Sys2Proof.Machine.execPowerOn sense s
  | .powerFail => Sys2Proof.Machine.execPowerFail s
  | .resetInputAssert => Sys2Proof.Machine.execResetInputAssert s
  | .resetInputRelease sense => Sys2Proof.Machine.execResetInputRelease sense s
  | .uartByteReceived data stopBit => Sys2Proof.Machine.execUartByteReceived data stopBit s

end Sys2Proof.Machine
end

