-- ==== Sys2Proof/Machine/Step.lean ====
section
/-! DEFINITION. One step: the command at the front of the queue is carried out; on an empty queue waiting requests are taken up. -/

namespace Sys2Proof.Machine

/-- The oldest waiting command leaves the queue and is carried out. With none waiting the part takes up the requests of its intake
that may be taken up, and else idles (DESIGN CHOICE, log entry 18): each second of its clock and each expiry of a timer is a command
of its own. -/
def step (s : State) : Host.Outcome State Fault Refusal :=
  match s.pending with
  | [] => .next s.idle
  | c :: rest => exec c { s with pending := rest }

/-- The state with the command that the word spells put at the front of the queue; unchanged where it spells none. -/
def State.withFetchWord (s : State) (nbits w : Nat) : State :=
  match decodeTableWord nbits w with
  | some c => { s with pending := c :: s.pending }
  | none => s

end Sys2Proof.Machine
end

