-- ==== Sys2Proof/Safety.lean ====
section
/-! DEFINITION. The words in which statements speak of a run: which frame a request command comes in, when the link takes it
up and what its answer is, and the invariants of the part. -/

namespace Sys2Proof

/-- The frame a host request comes in (R165); none for an event, and none for a request of unknown kind that carries a kind of
the catalogue, which is not well formed and has no effect (log entry 26). -/
def Instr.request? : Instr → Option Machine.Frame
  | .identify tag body => some ⟨tag, 0x01, body⟩
  | .timeSet tag body => some ⟨tag, 0x02, body⟩
  | .timeRead tag body => some ⟨tag, 0x03, body⟩
  | .zoneDefine tag body => some ⟨tag, 0x04, body⟩
  | .zoneBind tag body => some ⟨tag, 0x05, body⟩
  | .zoneOpen tag body => some ⟨tag, 0x06, body⟩
  | .zoneClose tag body => some ⟨tag, 0x07, body⟩
  | .zoneRead tag body => some ⟨tag, 0x08, body⟩
  | .marksClear tag body => some ⟨tag, 0x09, body⟩
  | .seasonBegin tag body => some ⟨tag, 0x0A, body⟩
  | .seasonEnd tag body => some ⟨tag, 0x0B, body⟩
  | .accountRead tag body => some ⟨tag, 0x0C, body⟩
  | .accountAdjust tag body => some ⟨tag, 0x0D, body⟩
  | .climateBand tag body => some ⟨tag, 0x0E, body⟩
  | .historyRead tag body => some ⟨tag, 0x0F, body⟩
  | .occupancy tag body => some ⟨tag, 0x10, body⟩
  | .bankDefine tag body => some ⟨tag, 0x11, body⟩
  | .bankRead tag body => some ⟨tag, 0x12, body⟩
  | .plantDefine tag body => some ⟨tag, 0x13, body⟩
  | .plantHold tag body => some ⟨tag, 0x14, body⟩
  | .plantRelease tag body => some ⟨tag, 0x15, body⟩
  | .plantRead tag body => some ⟨tag, 0x16, body⟩
  | .lineSet tag body => some ⟨tag, 0x17, body⟩
  | .lineEnrol tag body => some ⟨tag, 0x18, body⟩
  | .lineEnable tag body => some ⟨tag, 0x19, body⟩
  | .lineRead tag body => some ⟨tag, 0x1A, body⟩
  | .deviceRead tag body => some ⟨tag, 0x1B, body⟩
  | .deviceRetire tag body => some ⟨tag, 0x1C, body⟩
  | .reportSet tag body => some ⟨tag, 0x1D, body⟩
  | .checkpointNow tag body => some ⟨tag, 0x1E, body⟩
  | .restart tag body => some ⟨tag, 0x1F, body⟩
  | .unknownRequestKind kind tag body => if Machine.inCatalogue kind then none else some ⟨tag, kind, body⟩
  | .frameReceived _ _ _ => none
  | .frameGapExpiry => none
  | .outputFrameSent _ => none
  | .clockTick => none
  | .hourRollover _ => none
  | .lightSample _ => none
  | .lightReview _ => none
  | .climateReview _ => none
  | .pulseEndExpiry _ => none
  | .bankStep _ => none
  | .minimumRunExpiry _ => none
  | .changeoverTimerExpiry _ => none
  | .roundTimerExpiry _ => none
  | .transactionTakeUp _ => none
  | .attemptRetry _ => none
  | .enrolProbeSend _ => none
  | .replyComplete _ _ => none
  | .replyTimeout _ _ => none
  | .hangDetected _ => none
  | .releaseEnd _ => none
  | .recoveryWaitExpiry _ => none
  | .alarmPulseEnd => none
  | .checkpointTimerExpiry => none
  | .recordWriteEnd _ _ => none
  | .powerOn _ => none
  | .powerFail => none
  | .resetInputAssert => none
  | .resetInputRelease _ => none
  | .uartByteReceived _ _ => none

namespace Machine

/-! ## Requests and events -/

/-- The command is a request that the link takes up as it arrives in `s`: the part runs, no other request waits, the reply
queue has room, and no RESTART is being carried out (R161, R174). -/
def TakenUp (c : Instr) (s : State) : Prop :=
  ∃ f, c.request? = some f ∧ s.running = true ∧ s.link.intake = [] ∧ s.mayTakeUp = true

/-- The frame that arrives complete and good with the command: that of a request or of FRAME RECEIVED, and the one whose
last byte UART BYTE RECEIVED brings (R160, R161). -/
def arriving? (c : Instr) (s : State) : Option Frame :=
  match c with
  | .frameReceived tag kind body => some ⟨tag, kind, body⟩
  | .uartByteReceived data stop => (assemble s.link.rx data stop).2
  | c => c.request?

/-- The requests that the link may take up within the command: at an arrival those that wait and the one that arrives, and at
the end of a frame's sending those that wait (R161). -/
def atHand (c : Instr) (s : State) : List Frame :=
  match arriving? c s, c with
  | some f, _ => s.link.intake ++ [f]
  | none, .outputFrameSent _ => s.link.intake
  | none, _ => []

/-- The state in which the reply to the frame has joined the reply queue and the request has left the intake, and an idle
output has been fed (R161, R162, R164). -/
def State.replied (after : State) (f : Frame) (status : Status) (content : List Byte) : State :=
  ((after.queueReply { tag := f.tag, kind := replyKind f.kind, body := status.code :: content }).leaveIntake).feedOutput

/-- The request command answers a next state: it is answered with this status and content, and leaves the part as `after`
but for the reply on its way. -/
def Answers (c : Instr) (s : State) (status : Status) (content : List Byte) (after : State) : Prop :=
  ∃ f, c.request? = some f ∧ exec c s = .next (after.replied f status content)

/-- The event command answers a next state: its work leaves the part as `after`, and an idle output is fed. -/
def Happens (c : Instr) (s after : State) : Prop := exec c s = .next after.feedOutput

/-! ## Marks newly set -/

/-- The marks an evaluation newly sets (R15): those of the list whose condition holds and that the zone does not have. -/
def newMarks (had : List Mark) (conditions : List (Mark × Bool)) : List Mark :=
  (conditions.filter fun c => c.2 && !had.contains c.1).map (·.1)

/-- The notice queue after these notices have been offered, one after another (R151, R152). -/
def State.afterOffers (s : State) (ns : List (NoticeBody × Subject)) : List Notice :=
  ns.foldl (fun q n => if n.1.level < s.report.floor then q else enqueue ⟨n.1, n.2, s.clock⟩ q) s.notices

/-- What newly setting these marks of zone `z` offers and does to the alarm line between `s` and `t`: a MARK SET notice for each
mark and for no other, and the line in LEVEL and in PULSE mode (R15, R155, R156). -/
def MarkSetsOffered (s t : State) (z : Nat) (new : List Mark) : Prop :=
  t.notices = s.afterOffers (new.map fun m => (.markSet m, .zone z))
    ∧ (s.report.mode = .level → t.pulsing = s.pulsing ∧ t.alarm = if new = [] then s.alarm else t.alarmCondition)
    ∧ (s.report.mode = .pulse → t.alarm = (s.alarm || new.any fun m => decide (s.report.alarmLevel ≤ m.level))
        ∧ t.pulsing = (s.pulsing || new.any fun m => decide (s.report.alarmLevel ≤ m.level)))

/-! ## Climate: classes, extremes and candidates -/

/-- The class of a value against a target, half-width and guard, by its distance from the target (R64). -/
def Classified (v : Int) (target half guard : Nat) (b : BandState) : Prop :=
  ((v - target).natAbs ≤ half - guard → b = .inBand)
    ∧ (half - guard < (v - target).natAbs → (v - target).natAbs ≤ half → b = if v < target then .driftLow else .driftHigh)
    ∧ (half < (v - target).natAbs → b = if v < target then .outLow else .outHigh)

/-- The buckets from whose extremes the swing is taken: the current one, and the closed ones at most 23 hours before it (R66). -/
def swingBuckets (current : Bucket) (history : List Bucket) : List (Nat × Nat) :=
  (current :: history.filter fun b => decide ((current.hour : Int) - 23 ≤ b.hour)).filterMap (·.rh)

/-- `x` is the largest maximum less the smallest minimum of some extremes (R66). -/
def SpreadOf (w : List (Nat × Nat)) (x : Nat) : Prop :=
  ∃ lo hi, lo ∈ w ∧ hi ∈ w ∧ (∀ p ∈ w, lo.1 ≤ p.1 ∧ p.2 ≤ hi.2) ∧ x = hi.2 - lo.1

/-- A zone's trim has nothing left to give: no trim device, or trim unavailable, or no trim count, and no pulse in flight
(R76). -/
def Zone.trimSpent (r : Zone) : Prop :=
  (r.defn.trim = none ∨ r.climate.trimUnavailable = true ∨ r.climate.trimCount = 0) ∧ r.climate.pulse = none

/-- The RH candidate of R76, base and duty, and whether its row leaves the decision unresolved. -/
def Zone.RhCandidateIs (r : Zone) (c : Option (Nat × Duty)) (unresolved : Bool) : Prop :=
  match r.climate.rh with
  | .unclassified | .inBand => c = none ∧ unresolved = false
  | .outLow => c = some (4, .humidify) ∧ unresolved = false
  | .outHigh => c = some (4, .dry) ∧ unresolved = false
  | .driftLow => drift .humidify
  | .driftHigh => drift .dry
where
  /-- The four rows of a DRIFT whose correction is `duty`. -/
  drift (duty : Duty) : Prop :=
    ((∃ d, r.climate.demand = some d ∧ d.duty = duty) → c = some (2, duty) ∧ unresolved = false)
      ∧ ((∀ d, r.climate.demand = some d → d.duty ≠ duty) →
        (r.trimSpent → r.defn.escalate = true → c = some (2, duty) ∧ unresolved = false)
        ∧ (r.trimSpent → r.defn.escalate = false → c = none ∧ unresolved = true)
        ∧ (¬ r.trimSpent → c = none ∧ unresolved = false))

/-- The temperature candidate of R77, base and duty. -/
def BandState.tempNeed : BandState → Option (Nat × Duty)
  | .unclassified | .inBand => none
  | .driftLow => some (1, .heat)
  | .driftHigh => some (1, .cool)
  | .outLow => some (3, .heat)
  | .outHigh => some (3, .cool)

/-- What R77 adds to the base of either candidate: 1 where surge holds, and the sensitivity. -/
def Zone.urgency (r : Zone) : Nat :=
  (match r.defn.surgeThreshold with
   | some th => if th ≤ r.measure.occupancy then 1 else 0
   | none => 0) + r.defn.sensitivity

/-- The chosen need of R77: the candidate of the higher level, each capped at 7, and RH's where both have the same. -/
def Zone.NeedIs (r : Zone) (rh temp : Option (Nat × Duty)) (need : Option Need) : Prop :=
  match rh, temp with
  | none, none => need = none
  | some a, none => need = some ⟨a.2, rhLevel a.1⟩
  | none, some b => need = some ⟨b.2, tempLevel b.1⟩
  | some a, some b => need = if rhLevel a.1 < tempLevel b.1 then some ⟨b.2, tempLevel b.1⟩ else some ⟨a.2, rhLevel a.1⟩
where
  /-- The level of an RH candidate of this base. -/
  rhLevel (base : Nat) : Nat := min 7 (base + (if r.climate.swing then 1 else 0) + r.urgency)
  /-- The level of a temperature candidate of this base. -/
  tempLevel (base : Nat) : Nat := min 7 (base + r.urgency)

/-! ## Placed commands and their outcomes -/

/-- The lines after a command with value `v` for device `d` has been placed: it joins the queue of its line, or takes the place
of a queued command for the same device, where the line takes commands (R141). -/
def placedOn (lines : Vector Line 2) (d : DeviceAddr) (v : Nat) (i : Issuer) : Vector Line 2 :=
  match slot? lines d.line with
  | some l => if l.state.takesCommands then
      slotSet lines d.line { l with queue := enqueueCommand ⟨d.address, v, i⟩ l.queue } else lines
  | none => lines

/-- Plant `p` takes a fault (R95): FAULTED already, it changes nothing; else its demands wait, its timers stop, it is FAULTED
with its duties kept, PLANT FAULT is offered, and the alarm line takes up the conditions. -/
def PlantFaults (s t : State) (p : Nat) (reason : PlantFaultReason) : Prop :=
  ∀ y, s.plant? p = some y →
    (y.state = .faulted → t = s)
    ∧ (y.state ≠ .faulted → ∃ y', t.plant? p = some y'
      ∧ y' = { y with state := .faulted, service := [], waiting := y'.waiting, serviceLevel := 0, minRunDue := none,
                      minRunElapsed := false, changeDue := none, changeExpired := false, changeAcked := false }
      ∧ (∀ x, x ∈ y'.waiting ↔ x ∈ y.service ∨ x ∈ y.waiting)
      ∧ (∀ k, k ≠ p → t.plant? k = s.plant? k)
      ∧ t.notices = s.afterOffers [(.plantFault reason y.target, .plant p)]
      ∧ (s.report.mode = .level → t.alarm = t.alarmCondition ∧ t.pulsing = s.pulsing)
      ∧ (s.report.mode = .pulse → t.alarm = (s.alarm || decide (s.report.alarmLevel ≤ 6))
          ∧ t.pulsing = (s.pulsing || decide (s.report.alarmLevel ≤ 6)))
      ∧ t = { s with plants := t.plants, notices := t.notices, alarm := t.alarm, pulsing := t.pulsing })

/-- The trim of zone `z` fails (R74): it is unavailable with an OFF owed, and a pulse in flight has ended. -/
def TrimFaults (s t : State) (z : Nat) : Prop :=
  ∀ y, s.zone? z = some y →
    (y.climate.trimUnavailable = true → t = s)
    ∧ (y.climate.trimUnavailable = false → t = s.putZone z { y with climate :=
        { y.climate with trimUnavailable := true, offOwed := true, pulse := none } })

/-- The final failure of a command is returned to its issuer (R142): to one that no longer names the device it is nothing; the
governor owes a refresh (R48), a bank is FAULTED (R55), a zone's trim fails (R74), a plant takes a fault (R95). -/
def IssuerFails (s t : State) (i : Issuer) (d : DeviceAddr) : Prop :=
  (s.issuerNames i d = false → t = s)
  ∧ (s.issuerNames i d = true → match i with
    | .governor z => ∀ y, s.zone? z = some y → t = s.putZone z { y with light := { y.light with refreshOwed := true } }
    | .bank b => ∀ y, s.bank? b = some y → t = s.putBank b { y with state := .faulted }
    | .tracker z => TrimFaults s t z
    | .arbiter p => PlantFaults s t p .commandFailed)

/-- The final failures of these commands for devices of line `n` are returned to their issuers, one after another (R146). -/
def FailuresReturned (n : Nat) : List Command → State → State → Prop
  | [], s, t => t = s
  | c :: cs, s, t => ∃ u, IssuerFails s u c.issuer ⟨n, c.address⟩ ∧ FailuresReturned n cs u t

/-- Plant `p` of `s` enters RUNNING, which leaves `t` (R86, R75): its minimum run starts at 600 s; a duty command carries the target
duty to the controller where the commanded duty differs; PLANT DUTY is offered; and service begins reaches each zone whose demand
the service set holds. That a command which fails at once has faulted the plant before the notice, and that the zones are taken in
the order of the set, are the model's: log entries 31, 40. -/
def RunningEntered (s t : State) (p : Nat) : Prop :=
  ∀ y, s.plant? p = some y → ∃ u v,
    u = s.putPlant p { y with
      state := .running, commanded := y.target, minRunDue := some (s.now + 600), minRunElapsed := false }
    ∧ (y.commanded = y.target → v = u)
    ∧ (y.commanded ≠ y.target → v = u.place y.controller y.target.code (.arbiter p))
    ∧ t = (y.service.map (·.zone)).foldl State.serviceBegins
        (v.offer (.plantDuty y.target y.serviceLevel y.service.length) (.plant p))

/-- A selection at plant `p` of `s` leaves `t` (R85, R92). With nothing waiting the plant is IDLE, and NEUTRAL is sent unless physical
and commanded duty are NEUTRAL already. Else every waiting demand of the head's duty is served; the plant runs where it is physically
in that duty, and else changes over to it, with its timer at 120 s and its duty command sent. -/
def Selects (s t : State) (p : Nat) : Prop :=
  ∀ y, s.plant? p = some y →
    (∀ u : Plant, y.waiting = [] →
      u = { y with state := .idle, commanded := .neutral, target := .neutral, serviceLevel := 0, minRunDue := none
                   minRunElapsed := false, changeDue := none, changeExpired := false, changeAcked := false } →
      (y.physical = .neutral → y.commanded = .neutral → t = s.putPlant p u)
      ∧ ((y.physical ≠ .neutral ∨ y.commanded ≠ .neutral) → t = (s.putPlant p u).place y.controller 0 (.arbiter p)))
    ∧ ∀ (h : Demand) (rest : List Demand) (u : Plant), y.waiting = h :: rest →
      u = { y with target := h.duty, service := y.waiting.filter (fun d => decide (d.duty = h.duty))
                   waiting := y.waiting.filter (fun d => decide (d.duty ≠ h.duty)), serviceLevel := topLevel u.service
                   minRunDue := none, minRunElapsed := false, changeDue := none, changeExpired := false
                   changeAcked := false } →
      (y.physical = h.duty → RunningEntered (s.putPlant p u) t p)
      ∧ (y.physical ≠ h.duty →
        t = (s.putPlant p { u with state := .changeover, commanded := h.duty, changeDue := some (s.now + 120) }).place
          y.controller h.duty.code (.arbiter p))

/-- `q` is the plant `r` ready to give out its next arrival number (R83): with the counter at its end every demand takes its rank
1, 2, 3 and so on in the order of the present arrival numbers, in either list, and the counter takes the last number used. -/
def Plant.Numbered (r q : Plant) : Prop :=
  (r.arrivals ≠ 4294967295 → q = r)
    ∧ (r.arrivals = 4294967295 → ∃ rank : Demand → Nat,
      q = { r with service := r.service.map (fun d => { d with arrival := rank d })
                   waiting := r.waiting.map (fun d => { d with arrival := rank d })
                   arrivals := r.service.length + r.waiting.length }
      ∧ (∀ d, d ∈ r.service ∨ d ∈ r.waiting → 1 ≤ rank d ∧ rank d ≤ r.service.length + r.waiting.length)
      ∧ ∀ d e, (d ∈ r.service ∨ d ∈ r.waiting) → (e ∈ r.service ∨ e ∈ r.waiting) →
          (d.arrival < e.arrival ↔ rank d < rank e))

/-- Plant `p` learns that its controller has taken `duty` (R94): that is its physical duty; in a CHANGEOVER to it the command is
acknowledged, and the changeover completes where its timer has expired (R93), by RUNNING or, with nothing to serve, by a
selection. -/
def DutyTaken (s t : State) (p : Nat) (duty : Duty) : Prop :=
  ∀ y, s.plant? p = some y →
    ((y.state ≠ .changeover ∨ (duty ≠ y.target ∧ y.changeAcked = false)) → t = s.putPlant p { y with physical := duty })
    ∧ (y.state = .changeover → duty = y.target → y.changeExpired = false →
      t = s.putPlant p { y with physical := duty, changeAcked := true })
    ∧ (y.state = .changeover → duty = y.target → y.changeExpired = true →
      (y.service ≠ [] → RunningEntered (s.putPlant p { y with
        physical := duty, minRunDue := none, minRunElapsed := false, changeDue := none, changeExpired := false
        changeAcked := false }) t p)
      ∧ (y.service = [] → Selects (s.putPlant p { y with
        physical := duty, minRunDue := none, minRunElapsed := false, changeDue := none, changeExpired := false
        changeAcked := false }) t p))

/-- The owner of a device is told that it has entered FAULTED (R124). -/
def OwnerFaults (s t : State) : Option Owner → Prop
  | none | some (.zoneDimmer _) => t = s
  | some (.zoneTrim z) => TrimFaults s t z
  | some (.bank b) => ∀ y, s.bank? b = some y → t = s.putBank b { y with state := .faulted }
  | some (.plant p) => PlantFaults s t p .deviceFaulted

/-- The owner of a device is told of a successful transaction in which the device reported `value` (R124): an unavailable trim
is available again and sends the OFF it owes (R74); a FAULTED bank is ACTIVE and sends its commanded closure, unless a command
for its device is on the way (R56); a FAULTED plant takes the duty reported and selects (R96). -/
def OwnerSucceeds (s t : State) (value : Option Nat) : Option Owner → Prop
  | none | some (.zoneDimmer _) => t = s
  | some (.zoneTrim z) => ∀ y u, s.zone? z = some y →
      u = s.putZone z { y with climate := { y.climate with trimUnavailable := false, offOwed := false } } →
      (y.climate.trimUnavailable = false → t = s)
      ∧ (y.climate.trimUnavailable = true → y.climate.offOwed = false → t = u)
      ∧ ∀ d, y.climate.trimUnavailable = true → y.climate.offOwed = true → y.defn.trim = some d →
          t = u.place d 0 (.tracker z)
  | some (.bank b) => ∀ y l u, s.bank? b = some y → s.line? y.louvre.line = some l →
      u = s.putBank b { y with state := .active } →
      (y.state = .active → t = s)
      ∧ (y.state = .faulted →
          ((∃ c ∈ l.queue, c.address = y.louvre.address)
            ∨ (∃ x v i, l.inFlight = some x ∧ x.ask = .set v i ∧ x.address = y.louvre.address) → t = u)
          ∧ ((∀ c ∈ l.queue, c.address ≠ y.louvre.address)
            → (∀ x v i, l.inFlight = some x → x.ask = .set v i → x.address ≠ y.louvre.address) →
              t = u.place y.louvre y.commanded (.bank b)))
  | some (.plant p) => ∀ y, s.plant? p = some y →
      (y.state ≠ .faulted → t = s)
      ∧ ∀ duty : Duty, y.state = .faulted → value = some duty.code →
          Selects ((s.putPlant p { y with state := .idle, physical := duty }).followAlarm) t p

/-- The part with the table's entry at this line and address changed. -/
def State.withEntry (s : State) (line address : Nat) (f : Device → Device) : State :=
  { s with devices := s.devices.map fun y => if y.line = line ∧ y.address = address then f y else y }

/-- A line whose transaction has ended: nothing is in flight, and a line that holds enrolment progress enters ENROLLING, its
round ended (R125, R137). -/
def Line.ended (l : Line) : Line :=
  if l.state = .active ∧ l.enrolment ≠ none then
    { l with inFlight := none, state := .enrolling, roundInProgress := false }
  else { l with inFlight := none }

/-- The command is one by which the attempt of the transaction `x` in flight on line `n` fails for this reason (R134): nothing
arrived in time, the time passed before the packet was complete, or a complete packet fails a test. -/
def AttemptFails (c : Instr) (s : State) (n : Nat) (x : Transaction) (reason : FaultReason) : Prop :=
  (c = .replyTimeout n [] ∧ reason = .noReply)
    ∨ (∃ b bs, c = .replyTimeout n (b :: bs) ∧ reason = .garbled)
    ∨ ∃ bytes packet, c = .replyComplete n bytes ∧ completePacket bytes = some packet
        ∧ classifyPacket x.ask x.address (s.device? ⟨n, x.address⟩) packet = .failed reason

/-- The entry may be polled next in the round of line `n` (R139). -/
def PollCandidate (s : State) (n : Nat) (r : Line) (e : Device) : Prop :=
  e ∈ s.devices ∧ e.line = n ∧ r.pollPos < e.address ∧ e.state ≠ .absent ∧ (r.roundCounter = 0 ∨ e.state ≠ .faulted)

/-- The round of line `n` that starts in `s` (R139). -/
def Line.nextRound (r : Line) (s : State) : Line :=
  { r with roundCounter := (r.roundCounter + 1) % 10, pollPos := 0, roundInProgress := true, roundDue := some (s.now + 2) }

/-- The state after the probe of address `a` of line `n` has been applied, where `u` is the part with the table that it leaves, `r`
the line's record and `p` the enrolment with the counts that it leaves: the next address follows, and after address 126 the
enrolment is complete, with ENROL DONE, an ACTIVE line and a new round (R126, R127). A probe that has changed the table of `s`
obliges the next checkpoint to write the configuration record (R168). -/
def State.probed (u s : State) (n a : Nat) (r : Line) (p : Enrolment) : State :=
  { (if a = 126 then
        (u.offer (.enrolDone true p.found p.added p.absent p.notAdded) (.line n)).putLine n
          ({ r with inFlight := none, enrolment := none, state := .active }.nextRound s)
      else u.putLine n { r with inFlight := none, enrolment := some { p with next := a + 1 } }) with
    configChanged := s.configChanged || decide (u.devices ≠ s.devices) }

/-! ## Start -/

/-- The commands that a start places, in the order of step 4 of R173: NEUTRAL to the plants, closure 100 to the banks, OFF to
the trim units. -/
def Configuration.startCommands (conf : Configuration) : List (DeviceAddr × Nat × Issuer) :=
  plantNumbers.filterMap (fun p => ((slot? conf.plants p).join).map fun d => (d, 0, .arbiter p))
    ++ bankNumbers.filterMap (fun b => ((slot? conf.banks b).join).map fun r => (r.louvre, 100, .bank b))
    ++ zoneNumbers.filterMap fun z =>
        ((slot? conf.zones z).join).bind fun r => r.defn.trim.map fun d => (d, 0, .tracker z)

/-- The device's line is OFF after a start that has sensed these levels, so that a command for it fails at once (R141). -/
def offAtStart (sense : TermSense) (d : DeviceAddr) : Bool := validLine d.line && !senseOf sense d.line

/-- The notices that a start which has led to `t` offers, in the order of R173: START, the MARK SET notices in zone order, and
PLANT FAULT for each plant that the failure of its NEUTRAL has left FAULTED. -/
def State.startNotices (t : State) (cause : StartCause) (lost : Bool) : List (NoticeBody × Subject) :=
  (NoticeBody.start cause lost, Subject.none)
    :: (t.definedZones.flatMap fun zr => zr.2.marks.map fun m => (NoticeBody.markSet m, Subject.zone zr.1))
    ++ (plantNumbers.filter fun p => (t.plant? p).any fun y => y.state == .faulted).map fun p =>
        (NoticeBody.plantFault .commandFailed .neutral, Subject.plant p)

/-- What the start sequence leaves of `s`, where `st` is the store it finds (R172, R173; the account records by R36). -/
def StartedFrom (s : State) (st : Store) (cause : StartCause) (sense : TermSense) (t : State) : Prop :=
  ∃ conf clk,
    (∀ c, st.config = some c → conf = c.config ∧ clk = c.clock)
    ∧ (st.config = none → conf = Configuration.lost ∧ clk = 0)
    ∧ t = { s with
        powered := true, resetLow := false, restarting := none, clock := clk, synced := false, zones := t.zones
        banks := t.banks, plants := t.plants, lines := t.lines, notices := t.notices, report := conf.report
        devices := conf.devices.map fun d => ⟨d.line, d.address, d.kind, .enrolled, 0, none, none, none, none, false⟩
        alarm := t.alarm, pulsing := t.pulsing, link := ⟨none, [], [], none⟩, store := t.store
        configChanged := st.config.isNone, checkpoint := none, checkpointDue := s.now + 900, freeIx := t.freeIx }
    ∧ t.store.config = st.config
    ∧ (∀ z, validZone z = true → (slot? conf.zones z).join = none →
        t.zone? z = none ∧ slot? t.store.accounts z = some none)
    ∧ (∀ z y, (slot? conf.zones z).join = some y → slot? t.store.accounts z = slot? st.accounts z
      ∧ ∃ (a : Option AccountRecord) (o : Bool), slot? st.accounts z = some a ∧ o = (a.map (·.isOpen)).getD y.isOpen
        ∧ t.zone? z = some
          { isOpen := o, defn := y.defn, band := y.band
            marks := (if o then [.accountGap] else []) ++ (if a = none then [.accountLost] else [])
            sampleDue := s.now + 10, reviewDue := s.now + 60, climateDue := s.now + 60
            account := match a with
              | some a => ⟨a.dose, a.residue, a.openSeconds, a.season, none, a.saturated⟩
              | none => ⟨0, 0, 0, none, none, false⟩
            light := ⟨y.defn.ceiling, y.defn.ceiling, .free, 0, 100, y.defn.electricLimit, true, false⟩
            climate := { rh := .unclassified, temp := .unclassified, lastSwing := none, swing := false,
                         current := ⟨clk / 3600, none, none, 0⟩, history := [],
                         trimCount := (y.band.map (·.trimAllowance)).getD 4, pulse := none,
                         trimUnavailable := y.defn.trim.any (offAtStart sense),
                         offOwed := y.defn.trim.any (offAtStart sense), need := none, unresolved := false, demand := none }
            measure := ⟨y.bindings, none, none, none, none, false, false, false, false, ⟨false, s.now⟩, ⟨false, s.now⟩, 0⟩
            rollovers := [] })
    ∧ (∀ b, t.bank? b = ((slot? conf.banks b).join).map fun y =>
        ⟨if offAtStart sense y.louvre then .faulted else .active, y.louvre, y.slew, 0, 100, s.now + 30⟩)
    ∧ (∀ p, t.plant? p = ((slot? conf.plants p).join).map fun d =>
        { state := if offAtStart sense d then .faulted else .idle, controller := d, physical := .neutral
          commanded := .neutral, target := .neutral, service := [], waiting := [], serviceLevel := 0, arrivals := 0
          minRunDue := none, minRunElapsed := false, changeDue := none, changeExpired := false, changeAcked := false })
    ∧ (∀ l, validLine l = true → t.line? l = some
        { state := if senseOf sense l then .active else .off, terminated := senseOf sense l
          retryLimit := (slot? conf.retryLimits l).getD 3, hangCount := 0
          queue := if senseOf sense l then (conf.startCommands.filter fun c => c.1.line == l).foldl
              (fun q c => enqueueCommand ⟨c.1.address, c.2.1, c.2.2⟩ q) [] else []
          roundCounter := if senseOf sense l then 1 else 0, pollPos := 0, roundInProgress := senseOf sense l
          inFlight := none, enrolment := none, releasing := false, recoveryDue := none
          roundDue := if senseOf sense l then some (s.now + 2) else none, sent := [] })
    ∧ t.notices = { t with notices := [] }.afterOffers (t.startNotices cause st.config.isNone)
    ∧ (conf.report.mode = .level → t.alarm = t.alarmCondition ∧ t.pulsing = false)
    ∧ (conf.report.mode = .pulse → conf.report.alarmLevel ≤ 7 → t.alarm = true ∧ t.pulsing = true)

/-- The command begins a start with this cause, and the store that it finds is one of these: at the return of the supply, at the
release of the reset input, and for a RESTART at the later of the end of its full checkpoint and the end of the sending of its
reply (R167, R174). Where a record is being written as the start of a RESTART begins, its old or its new content stands (log
entry 19). -/
def StartBegins (c : Instr) (s : State) (cause : StartCause) (sense : TermSense) (found : List Store) : Prop :=
  (c = .powerOn sense ∧ s.powered = false ∧ s.resetLow = false ∧ cause = .powerOn ∧ found = [s.store])
    ∨ (c = .resetInputRelease sense ∧ s.powered = true ∧ s.resetLow = true ∧ cause = .resetInput ∧ found = [s.store])
    ∨ (c = .outputFrameSent sense ∧ s.running = true ∧ cause = .restart
      ∧ (∃ o r, s.link.output = some o ∧ o.restartReply = true ∧ s.restarting = some r ∧ r.checkpointDone = true)
      ∧ (s.checkpoint = none → found = [s.store])
      ∧ ∀ w, s.checkpoint = some w → found = [s.store, s.store.put w.writing true])
    ∨ (s.running = true ∧ cause = .restart
      ∧ ∃ agrees r w, c = .recordWriteEnd agrees sense ∧ s.restarting = some r ∧ r.replySent = true
        ∧ s.checkpoint = some w ∧ w.full = true ∧ (∀ k, w.writing.number < k → s.zone? k = none)
        ∧ found = [s.store.put w.writing agrees])

/-! ## Invariants -/

/-- The ranges of R20. -/
def Account.inRange (a : Account) : Prop :=
  a.dose ≤ Config.doseLimit ∧ a.residue ≤ 1023 ∧ a.openSeconds ≤ Config.count32Max

/-- Every account, in a zone, in the store and in a write to it, lies in its ranges (R20, R36). -/
def State.accountsInRange (s : State) : Prop :=
  (∀ z r, s.zone? z = some r → r.account.inRange)
    ∧ (∀ z a, slot? s.store.accounts z = some (some a) → a.account.inRange)
    ∧ ∀ cp z a, s.checkpoint = some cp → cp.writing = .account z a → a.account.inRange

/-- The notice queue holds at most 32 notices, each of level at least the report floor (R151). -/
def State.noticesKept (s : State) : Prop :=
  s.notices.length ≤ Config.noticeCapacity ∧ ∀ n ∈ s.notices, s.report.floor ≤ n.level

/-- The intake holds at most four requests, the reply queue at most eight replies; in a running part the output is idle only
while neither a reply nor a notice waits (R161, R164). -/
def State.linkBounded (s : State) : Prop :=
  s.link.intake.length ≤ Config.intakeCapacity ∧ s.link.replies.length ≤ Config.replyCapacity
    ∧ (s.running = true → s.link.output = none → s.link.replies = [] ∧ s.notices = [])

/-- A running part in LEVEL mode has its alarm line asserted exactly while a condition of R155 holds, no pulse is timed in
LEVEL mode, and a DISABLED line has no transaction in flight. -/
def State.alarmFollows (s : State) : Prop :=
  (s.running = true → s.report.mode = .level → s.alarm = s.alarmCondition)
    ∧ (s.report.mode = .level → s.pulsing = false)
    ∧ ∀ l r, s.line? l = some r → r.state = .disabled → r.inFlight = none

/-- The places of some device entries, in the order of the table. -/
def places (ds : List StoredDevice) : List (Nat × Nat) := ds.map fun d => (d.line, d.address)

/-- One place stands before another in the order of line, then address. -/
def placeBefore (a b : Nat × Nat) : Prop := a.1 < b.1 ∨ (a.1 = b.1 ∧ a.2 < b.2)

/-- A device table that R118 admits: at most 64 entries, in strictly ascending order of line and address, at most sixteen
actuators on each line. -/
def TableAdmitted (ds : List StoredDevice) : Prop :=
  ds.length ≤ Config.deviceCapacity ∧ (places ds).Pairwise placeBefore
    ∧ ∀ l, (ds.filter fun d => d.line == l && d.kind.isActuator).length ≤ Config.actuatorsPerLine

/-- The device table, the stored one and one being written are admitted (R118, R168). -/
def State.tablesAdmitted (s : State) : Prop :=
  TableAdmitted s.configuration.devices
    ∧ (∀ c, s.store.config = some c → TableAdmitted c.config.devices)
    ∧ ∀ cp c, s.checkpoint = some cp → cp.writing = .config c → TableAdmitted c.config.devices

/-- No actuator has two commands in the queue of its line (R141). -/
def State.queuesCoalesced (s : State) : Prop :=
  ∀ l r, s.line? l = some r → (r.queue.map (·.address)).Nodup

/-- What R82 and R84 say of the service set of a plant: which states have one, its duty, its level, and that no demand of the
target duty waits while the plant moves to that duty or performs it. -/
def Plant.serviceRight (r : Plant) : Prop :=
  ((r.state = .idle ∨ r.state = .held ∨ r.state = .faulted) → r.service = [])
    ∧ (r.state = .idle → r.waiting = []) ∧ (r.state = .running → r.service ≠ [])
    ∧ (∀ d ∈ r.service, d.duty = r.target) ∧ r.serviceLevel = topLevel r.service
    ∧ ((r.state = .changeover ∨ r.state = .running) → ∀ d ∈ r.waiting, d.duty ≠ r.target)

/-- The rollovers waiting for a zone lead from hour `h` to hour `last`, each to another hour (R14). -/
def rolloversLead : Nat → List Rollover → Nat → Prop
  | h, [], last => h = last
  | h, o :: rest, last => o.oldHour = h ∧ o.oldHour ≠ o.newHour ∧ rolloversLead o.newHour rest last

/-- What R61 and R65 say of the trim count and the history of a zone, where the clock stands at `clock`. -/
def Zone.historyRight (r : Zone) (clock : Nat) : Prop :=
  r.climate.trimCount ≤ trimAllowance r.band
    ∧ (r.climate.history.map (·.hour)).Pairwise (· < ·)
    ∧ (∀ b ∈ r.climate.history, b.hour < r.climate.current.hour ∧ r.climate.current.hour ≤ b.hour + Config.windowHours)
    ∧ rolloversLead r.climate.current.hour r.rollovers (hourOf clock)

def State.historiesRight (s : State) : Prop := ∀ z r, s.zone? z = some r → r.historyRight s.clock

/-- The pending list stands in its order, and a RUNNING plant whose minimum run has elapsed has no pending demand of a level
above its service level (R83, R90). -/
def Plant.settled (r : Plant) : Prop :=
  r.waiting.Pairwise (fun a b => b.precedes a = false) ∧ r.preempted = false

def State.plantsRight (s : State) : Prop := ∀ p r, s.plant? p = some r → r.serviceRight ∧ r.settled

/-- The demands a plant holds. -/
def Plant.demands (r : Plant) : List Demand := r.service ++ r.waiting

/-- The zones and the plants agree on their demands (R59, R83): a plant holds at most one demand of a zone, each that it holds
is the one its zone records, and each that a zone records is at the plant its definition names and held there. -/
def State.demandsAgree (s : State) : Prop :=
  (∀ p pl, s.plant? p = some pl → (pl.demands.map (·.zone)).Nodup)
    ∧ (∀ p pl d, s.plant? p = some pl → d ∈ pl.demands →
        ∃ r, s.zone? d.zone = some r ∧ r.climate.demand = some ⟨p, d.duty, d.level⟩)
    ∧ ∀ z r dm, s.zone? z = some r → r.climate.demand = some dm →
        r.defn.plant = some dm.plant ∧ ∃ pl d, s.plant? dm.plant = some pl ∧ d ∈ pl.demands ∧ d.zone = z

/-! ## Forms of a reply (R159) -/

/-- A named value: its position in the list of its set, counted from `first`. -/
def nameOf {α : Type} [BEq α] (first : Nat) (values : List α) (x : α) : List Byte := [BitVec.ofNat 8 (first + values.idxOf x)]

/-- A field of two values, the holding one first (log entry 5). -/
def yesNo (b : Bool) : List Byte := [if b then 0 else 1]

/-- A field that may be absent. -/
def ifPresent {α : Type} (x : Option α) (form : α → List Byte) : List Byte :=
  match x with
  | none => [0]
  | some v => 1 :: form v

/-- A list: the count of its members, then the members. -/
def listOf {α : Type} (xs : List α) (form : α → List Byte) : List Byte := BitVec.ofNat 8 xs.length :: xs.flatMap form

/-- A signed value of two bytes. -/
def signed (v : Int) : List Byte := be 2 (v % 65536).toNat

/-- A duty, by the codes of R133. -/
def dutyByte (d : Duty) : List Byte := nameOf 0 [.neutral, .humidify, .dry, .heat, .cool] d

/-- A device by its line and its address. -/
def deviceBytesOf (d : DeviceAddr) : List Byte := be 1 d.line ++ be 1 d.address

/-- A demand with its zone, duty, level and arrival number. -/
def demandBytesOf (d : Demand) : List Byte := be 1 d.zone ++ dutyByte d.duty ++ be 1 d.level ++ be 4 d.arrival

/-- A classification of RH or of temperature (log entry 7). -/
def classByte (b : BandState) : List Byte :=
  nameOf 0 [.unclassified, .inBand, .driftLow, .driftHigh, .outLow, .outHigh] b

/-- Why an attempt failed. -/
def reasonByte (r : FaultReason) : List Byte := nameOf 0 [.noReply, .garbled, .wrongReply, .wrongKind] r

/-- A block that names a device or issues a command to it: its place in its list, and its number (log entry 8). -/
def blockBytes (place number : Nat) : List Byte := be 1 place ++ be 1 number

/-- The notice level of a mark (R17). -/
def markLevel (m : Mark) : Nat :=
  if m ∈ [.rhOut, .accountLost, .saturated] then 6
  else if m ∈ [.rhSwing, .tempOut, .exhausted] then 5
  else if m ∈ [.lightPressure, .accountGap] then 3
  else 4

/-- The kind code, the level and the body bytes of a notice, row by row of the table of R150: START's configuration LOADED is 0 and
CONFIGURATION LOST 1 (log entry 5), and the record of CHECKPOINT FAILED is 0 for the configuration record, else the zone (log
entry 8). -/
def NoticeBody.sent : NoticeBody → Nat × Nat × List Byte
  | .start cause lost => (0, 7, nameOf 0 [.powerOn, .resetInput, .restart] cause ++ [if lost then 1 else 0])
  | .markSet m => (1, markLevel m, nameOf 0
      [.rhOut, .rhSwing, .tempOut, .lightPressure, .exhausted, .blindLight, .blindClimate, .unresolved, .accountGap,
       .accountLost, .saturated] m)
  | .deviceFault line address reason failures => (2, 4, be 1 line ++ be 1 address ++ reasonByte reason ++ be 1 failures)
  | .deviceRecovered line address => (3, 2, be 1 line ++ be 1 address)
  | .lineHung hangs abandoned => (4, 4, be 1 hangs ++ ifPresent abandoned fun (address, kind) => be 1 address ++ [kind])
  | .lineDisabled => (5, 6, [])
  | .lineRestored => (6, 2, [])
  | .commandsDiscarded count => (7, 5, be 1 count)
  | .enrolDone complete found added absent notAdded =>
    (8, if complete then 3 else 4,
      [if complete then 0 else 1] ++ be 1 found ++ be 1 added ++ be 1 absent ++ be 1 notAdded)
  | .plantDuty duty level count => (9, 1, dutyByte duty ++ be 1 level ++ be 1 count)
  | .plantFault reason duty => (10, 6, nameOf 0 [.commandFailed, .deviceFaulted] reason ++ dutyByte duty)
  | .checkpointFailed record => (11, 5, be 1 record)
  | .storeDone written failed => (12, 1, be 1 written ++ be 1 failed)

/-- The subject type byte and the two subject bytes of a notice frame, a number in the second of them (R164). -/
def Subject.sent : Subject → List Byte
  | .none => [0, 0, 0]
  | .zone z => 1 :: be 2 z
  | .device l a => 2 :: (be 1 l ++ be 1 a)
  | .line l => 3 :: be 2 l
  | .plant p => 4 :: be 2 p

/-- The extremes and the sample count of a bucket in HISTORY READ (R162): 8000 hex twice where a quantity has none, and 255 for 255
samples or more. -/
def bucketBytes (b : Bucket) : List Byte :=
  (match b.rh with
    | some (lo, hi) => be 2 lo ++ be 2 hi
    | none => [0x80, 0x00, 0x80, 0x00])
  ++ (match b.temp with
    | some (lo, hi) => signed lo ++ signed hi
    | none => [0x80, 0x00, 0x80, 0x00])
  ++ be 1 (if 255 ≤ b.samples then 255 else b.samples)

/-- The demand of zone `z` as its plant holds it, served (0) or pending (1), in the reply to ZONE READ (R19). -/
def State.DemandIsSent (s : State) (z : Nat) (r : Zone) (bs : List Byte) : Prop :=
  (r.climate.demand = none → bs = [0])
    ∧ ∀ dm p x, r.climate.demand = some dm → s.plant? dm.plant = some p → x.zone = z →
      (∀ y, y ∈ p.service ∨ y ∈ p.waiting → y.zone = z → y = x) →
      (x ∈ p.service → bs = 1 :: be 1 dm.plant ++ dutyByte x.duty ++ be 1 x.level ++ be 4 x.arrival ++ [0])
      ∧ (x ∉ p.service → x ∈ p.waiting →
        bs = 1 :: be 1 dm.plant ++ dutyByte x.duty ++ be 1 x.level ++ be 4 x.arrival ++ [1])

/-- The owner of a device is the definition that names it: a zone in the role dimmer or trim, a bank or a plant (R119). -/
def State.OwnedBy (s : State) (d : DeviceAddr) : Option Owner → Prop
  | none => (∀ z x, s.zone? z = some x → x.defn.dimmer ≠ some d ∧ x.defn.trim ≠ some d)
      ∧ (∀ b y, s.bank? b = some y → y.louvre ≠ d) ∧ ∀ p y, s.plant? p = some y → y.controller ≠ d
  | some (.zoneDimmer z) => ∃ x, s.zone? z = some x ∧ x.defn.dimmer = some d
  | some (.zoneTrim z) => ∃ x, s.zone? z = some x ∧ x.defn.trim = some d
  | some (.bank b) => ∃ y, s.bank? b = some y ∧ y.louvre = d
  | some (.plant p) => ∃ y, s.plant? p = some y ∧ y.controller = d

/-! ## Forms a host sends -/

/-- The body fields of ZONE DEFINE after the zone number (R2, R159, log entry 6). -/
def DefinitionFields.bytes (f : DefinitionFields) : List Byte :=
  be 2 f.ceiling ++ be 2 f.floor ++ be 1 f.policy ++ optional (be 2) f.uvRef ++ be 1 f.sensitivity
    ++ optional (be 1) f.electricLimit ++ optional (be 1) f.derate ++ be 1 f.plant ++ optional DeviceAddr.bytes f.dimmer
    ++ optional DeviceAddr.bytes f.trim ++ optional (counted (be 1)) f.banks ++ optional (be 2) f.surgeThreshold
    ++ optional (be 1) f.escalate

/-- A line and an address that fit their bytes. -/
def DeviceAddr.fits (d : DeviceAddr) : Prop := d.line < 256 ∧ d.address < 256

/-- Every field fits the bytes it is sent in. -/
def DefinitionFields.fits (f : DefinitionFields) : Prop :=
  f.ceiling < 65536 ∧ f.floor < 65536 ∧ f.policy < 256 ∧ (∀ v ∈ f.uvRef, v < 65536) ∧ f.sensitivity < 256
    ∧ (∀ v ∈ f.electricLimit, v < 256) ∧ (∀ v ∈ f.derate, v < 256) ∧ f.plant < 256 ∧ (∀ d ∈ f.dimmer, d.fits)
    ∧ (∀ d ∈ f.trim, d.fits) ∧ (∀ l ∈ f.banks, l.length < 256 ∧ ∀ b ∈ l, b < 256)
    ∧ (∀ v ∈ f.surgeThreshold, v < 65536) ∧ (∀ v ∈ f.escalate, v < 256)

/-- A value lies outside its range in the table of R2, or a code is outside its set: a device's line 1..2 and address 1..126
(log entry 27), the flag escalate by the codes of log entry 5. -/
def DefinitionFields.outOfRange (f : DefinitionFields) : Prop :=
  f.ceiling < 10 ∨ 1000 < f.ceiling ∨ f.ceiling < f.floor ∨ 1 < f.policy ∨ (∃ v, f.uvRef = some v ∧ (v < 10 ∨ 500 < v))
    ∨ 2 < f.sensitivity ∨ (∃ v, f.electricLimit = some v ∧ 100 < v) ∨ (∃ v, f.derate = some v ∧ 100 < v) ∨ 2 < f.plant
    ∨ (∃ a, (f.dimmer = some a ∨ f.trim = some a) ∧ (a.line < 1 ∨ 2 < a.line ∨ a.address < 1 ∨ 126 < a.address))
    ∨ (∃ l, f.banks = some l ∧ (2 < l.length ∨ (∃ b ∈ l, b < 1 ∨ 8 < b) ∨ ¬ l.Nodup))
    ∨ (∃ v, f.surgeThreshold = some v ∧ (v < 1 ∨ 9999 < v)) ∨ ∃ v, f.escalate = some v ∧ 1 < v

/-- Checks 1 and 2 of R3 fail: a named device has no entry, or a named bank is UNSET. -/
def State.namesMissing (s : State) (d : Definition) : Prop :=
  (∃ a, (d.dimmer = some a ∨ d.trim = some a) ∧ s.device? a = none) ∨ ∃ b ∈ d.banks, s.bank? b = none

/-- Checks 3 to 5 of R3 fail: a device of another kind, a device that another zone names, or a bank that four other zones
name. -/
def State.namesUnfit (s : State) (z : Nat) (d : Definition) : Prop :=
  (∃ a e, s.device? a = some e ∧ (d.dimmer = some a ∧ e.kind ≠ .dimmer ∨ d.trim = some a ∧ e.kind ≠ .trimUnit))
    ∨ (∃ a k x, (d.dimmer = some a ∨ d.trim = some a) ∧ k ≠ z ∧ s.zone? k = some x
        ∧ (x.defn.dimmer = some a ∨ x.defn.trim = some a))
    ∨ ∃ b ∈ d.banks, 4 ≤ (zoneNumbers.filter fun k =>
        k != z && (s.zone? k).any fun x => x.defn.banks.contains b).length

/-- One binding entry of ZONE BIND (R105, R106). -/
def Binding.bytes (b : Binding) : List Byte := be 1 b.line ++ be 1 b.base ++ be 1 b.care ++ be 1 b.cls.code

/-- The ranges of R105. -/
def Binding.inRange (b : Binding) : Prop := validLine b.line = true ∧ b.base ≤ 127 ∧ b.care ≤ 127

/-- The body fields of CLIMATE BAND after the zone number (R60). -/
def Band.sent (b : Band) : List Byte :=
  be 2 b.rhTarget ++ be 1 b.rhHalf ++ be 1 b.rhGuard ++ be 2 b.swingLimit ++ be 2 b.tempTarget ++ be 1 b.tempHalf
    ++ be 1 b.tempGuard ++ be 1 1 ++ be 1 b.trimAllowance

/-- The same fields with the trim allowance left out (R60, log entry 6). -/
def Band.sentWithout (b : Band) : List Byte :=
  be 2 b.rhTarget ++ be 1 b.rhHalf ++ be 1 b.rhGuard ++ be 2 b.swingLimit ++ be 2 b.tempTarget ++ be 1 b.tempHalf
    ++ be 1 b.tempGuard ++ be 1 0

/-- Every field of a band fits the bytes it is sent in. -/
def Band.fits (b : Band) : Prop :=
  b.rhTarget < 65536 ∧ b.rhHalf < 256 ∧ b.rhGuard < 256 ∧ b.swingLimit < 65536 ∧ b.tempTarget < 65536 ∧ b.tempHalf < 256
    ∧ b.tempGuard < 256 ∧ b.trimAllowance < 256

/-- The bytes of a run arrive one by one on the UART, each with its stop bit. -/
def receiveAll : List Byte → State → Host.Outcome State Fault Refusal
  | [], s => .next s
  | b :: bs, s =>
    match exec (.uartByteReceived b true) s with
    | .next t => receiveAll bs t
    | .fault e => .fault e
    | .refused e => .refused e

/-- A reply packet of a field device (R133): address, kind, payload length, payload, check byte, every byte well framed. -/
def replyPacket (address : Nat) (kind : Byte) (payload : List Byte) : List FieldByte :=
  (packetBytes address kind payload).map fieldByte

/-- Two bytes of a READING payload, high byte first (R133). -/
def wordOf (high low : Byte) : Nat := high.toNat * 256 + low.toNat

/-- Two bytes of a READING payload as a signed value in two's complement (R133). -/
def signedOf (high low : Byte) : Int :=
  if wordOf high low < 32768 then wordOf high low else (wordOf high low : Int) - 65536

/-! ## Runs of light samples (R25) -/

/-- One light sample as the account meets it: the clock, the illuminance, the UV weight, and whether the zone is OPEN. -/
structure SampleInput where
  clock : Nat
  lux : Nat
  weight : Nat
  isOpen : Bool
  deriving DecidableEq, Repr

/-- The account after a run of samples. -/
def Account.sampledAll : Account → List SampleInput → Account
  | a, [] => a
  | a, x :: xs => (a.sampled x.clock x.lux x.weight x.isOpen).sampledAll xs

/-- The sum of the products of a run of samples. -/
def Account.products : Account → List SampleInput → Nat
  | _, [] => 0
  | a, x :: xs =>
    x.lux * elapsed a.lastSample x.clock * x.weight + (a.sampled x.clock x.lux x.weight x.isOpen).products xs

end Machine

end Sys2Proof
end

