-- ==== Sys2Proof/Certificates/Slice0/Obligations.lean ====
section
/-! DEFINITION. The statements for the provers, from the numbered rules of the manual. A statement about a request speaks of it
when the link takes it up (`TakenUp`) and says what it is answered (`Answers`); one about an event says what it leaves of a
running part (`Happens`). A frame stands as an equation: the state after is the state before with the named fields changed. -/

open Sys2Proof Sys2Proof.Machine

/-! ## The machine as a whole -/

/-- A step carries out the command at the front of the queue with the queue's rest; with none waiting, and no request that may be
taken up, the part idles (the model's choice, log entry 18). What it does of a request that may be is stated with the host link. -/
def Obligations.StepRunsFrontCommand : Prop :=
  ∀ (c : Instr) (s : State),
    step { s with pending := c :: s.pending } = exec c s
    ∧ (s.pending = [] → (s.running = false ∨ s.link.intake = [] ∨ s.restarting ≠ none ∨ 8 ≤ s.link.replies.length) →
        step s = .next s)

/-- Every command has a next state in every state, and leaves the queue as it is.
A command whose record or timer is not there has no effect: the model's choice, log entry 26. -/
def Obligations.EveryCommandIsCarriedOut : Prop :=
  ∀ (c : Instr) (s : State), ∃ t, exec c s = .next t ∧ t.pending = s.pending

/-- R167: a part that is held in reset or has no supply does nothing at any command but those of its supply and its reset
input. -/
def Obligations.StoppedPartDoesNothing : Prop :=
  ∀ (c : Instr) (s : State), s.running = false → (∀ sense, c ≠ .powerOn sense) → c ≠ .powerFail →
    c ≠ .resetInputAssert → (∀ sense, c ≠ .resetInputRelease sense) → exec c s = .next s

/-- What the manual gives of the state after the first power-on: clock 0 and UNSYNCED, every zone, bank and plant UNSET, no
device entry, retry limits 3, the settings of R154, START being sent; and every invariant of the part holds there.
That `State.reset` is the part after its first power-on is the model's choice, log entry 14. -/
def Obligations.ResetState : Prop :=
  State.reset.clock = 0 ∧ State.reset.synced = false ∧ (∀ z, State.reset.zone? z = none)
    ∧ (∀ b, State.reset.bank? b = none) ∧ (∀ p, State.reset.plant? p = none) ∧ State.reset.devices = []
    ∧ (∀ l r, State.reset.line? l = some r → r.retryLimit = 3 ∧ r.hangCount = 0 ∧ r.queue = [])
    ∧ State.reset.report = ⟨2, 6, .level⟩ ∧ State.reset.configChanged = true ∧ State.reset.alarm = false
    ∧ State.reset.notices = [] ∧ State.reset.link.intake = [] ∧ State.reset.link.replies = []
    ∧ State.reset.link.output =
        some ⟨(Notice.frame ⟨.start .powerOn true, .none, 0⟩).wire, false⟩
    ∧ State.reset.accountsInRange ∧ State.reset.noticesKept ∧ State.reset.linkBounded ∧ State.reset.alarmFollows
    ∧ State.reset.tablesAdmitted ∧ State.reset.queuesCoalesced ∧ State.reset.plantsRight ∧ State.reset.demandsAgree
    ∧ State.reset.historiesRight

/-! ## Start and stop -/

/-- R172, R173: a power-on without a configuration record that passes its check gives the state after reset, whatever the part
held before, but for the lines whose termination is not sensed and for the moments from which its timers count.
The sensed levels are an operand of the command, and what a stopped part still holds is the model's choice: log entries 15, 16. -/
def Obligations.PowerOnWithoutConfiguration : Prop :=
  ∀ (s : State) (sense : TermSense), s.powered = false → s.resetLow = false → s.store.config = none →
    exec (.powerOn sense) s = .next { State.reset with
      now := s.now, freeIx := s.freeIx, pending := s.pending, checkpointDue := s.now + 900
      lines := tableOf 2 fun l =>
        if senseOf sense l then { State.resetLine with roundDue := some (s.now + 2) } else Line.started false 3 }

/-- R172, R173, R36, R168, R174: every start, at power-on, at the release of the reset input and at the end of a RESTART, loads
the store it finds and leaves every block at its start values: the configuration, the clock, each zone with its account and
marks, banks, plants, lines with the commands placed for them, the notices and the alarm line.
What the store holds of a record that is being written as the start of a RESTART begins is a free value: log entry 19. The
levels sensed are an operand of the command, log entry 15. -/
def Obligations.StartLoadsStore : Prop :=
  ∀ (c : Instr) (s : State) (cause : StartCause) (sense : TermSense) (found : List Store),
    StartBegins c s cause sense found → ∃ st ∈ found, ∃ t, Happens c s t ∧ StartedFrom s st cause sense t

/-- R170, R167, R153: a power failure or the reset input stops the part in the middle of whatever write is in progress: that
one record is left failing its check, every other record of the store stays, and queued notices and frames are lost. The
level of the alarm output of a part held in reset is a free value (log entry 17) and stands open here; that everything else of
the stopped part stands as it was, and that the alarm output is off without supply, is the model's choice, log entry 16. -/
def Obligations.StopTearsOneRecord : Prop :=
  ∀ (c : Instr) (s : State), s.running = true → c = .powerFail ∨ c = .resetInputAssert →
    ∃ t, exec c s = .next t
      ∧ t = { s with
        powered := decide (c ≠ .powerFail), resetLow := decide (c = .resetInputAssert), alarm := t.alarm
        freeIx := t.freeIx, checkpoint := none, restarting := none, notices := [], pulsing := false
        link := ⟨none, [], [], none⟩
        store := match s.checkpoint.map Checkpoint.writing with
          | none => s.store
          | some (Writing.config _) => { s.store with config := none }
          | some (Writing.account z _) => { s.store with accounts := slotSet s.store.accounts z none } }
      ∧ (c = .powerFail → t.alarm = false)

/-! ## The clock -/

/-- R12, R14: each second the count advances by one, from 4,294,967,295 to 0, and an hour rollover goes to every defined zone
when the hour changes.
The time base counted in seconds and the list of rollovers a zone has still to take are the model's forms: log entries 1, 28. -/
def Obligations.ClockTickAdvances : Prop :=
  ∀ s : State, s.running = true → ∃ t, Happens .clockTick s t ∧ t.now = s.now + 1
    ∧ t.clock = (s.clock + 1) % 4294967296
    ∧ (∀ z, t.zone? z = (s.zone? z).map fun r =>
        if s.clock / 3600 = t.clock / 3600 then r
        else { r with rollovers := r.rollovers ++ [⟨s.clock / 3600, t.clock / 3600⟩] })
    ∧ t = { s with now := t.now, clock := t.clock, zones := t.zones }

/-- R13, R14: TIME SET installs the count, makes the clock SYNCED, replies with the count before it, and delivers an hour
rollover to every defined zone where the hour changes.
The list of rollovers a zone has still to take is the model's form, log entry 28. -/
def Obligations.TimeSetMovesClock : Prop :=
  ∀ (s : State) (tag : Byte) (v : Nat), v < 4294967296 → TakenUp (.timeSet tag (be 4 v)) s →
    ∃ t, Answers (.timeSet tag (be 4 v)) s .done (be 4 s.clock) t ∧ t.clock = v ∧ t.synced = true
      ∧ (∀ z, t.zone? z = (s.zone? z).map fun r =>
          if s.clock / 3600 = v / 3600 then r
          else { r with rollovers := r.rollovers ++ [⟨s.clock / 3600, v / 3600⟩] })
      ∧ t = { s with clock := t.clock, synced := true, zones := t.zones }

/-- R67, R68: what an hour rollover does to the climate state of a zone, forward and backward; it changes nothing else.
That it is the oldest of a list held with the zone is the model's form, log entry 28; that the bucket it closes holds the readings
of every review taken before it is R67's reading of the last row of R11, log entry 42. -/
def Obligations.HourRolloverActs : Prop :=
  ∀ (s : State) (z : Nat) (r : Zone) (o : Rollover) (rest : List Rollover), s.running = true → s.zone? z = some r →
    r.rollovers = o :: rest →
    ∃ h, Happens (.hourRollover z) s (s.putZone z { r with
        rollovers := rest
        climate := { r.climate with history := h, current := ⟨o.newHour, none, none, 0⟩
                                    trimCount := (r.band.map (·.trimAllowance)).getD 4 } })
      ∧ (o.oldHour < o.newHour → h =
          (if 0 < r.climate.current.samples then r.climate.history ++ [r.climate.current] else r.climate.history).filter
            fun b => (o.newHour : Int) - 23 ≤ b.hour)
      ∧ (o.newHour < o.oldHour → h = r.climate.history.filter fun b => b.hour < o.newHour)

/-! ## Requests in general -/

/-- R162: a request refused at any check changes nothing, and its reply carries the status alone, whatever the request. -/
def Obligations.RefusalChangesNothing : Prop :=
  ∀ (c : Instr) (s : State), TakenUp c s →
    ∃ status content after, Answers c s status content after
      ∧ (0x10 ≤ status.code.toNat → after = s ∧ content = [])

/-- R162: a kind outside the catalogue is refused with UNKNOWN, and a body whose length is not the one the kind's fields give, or
for ZONE DEFINE, ZONE BIND, MARKS CLEAR, CLIMATE BAND and BANK DEFINE one that no values of the fields spell, is refused with
SHAPE, whatever the state of the part.
Which fields stand behind a presence byte is the model's reading, log entry 6. -/
def Obligations.RefusedBeforeOwningRule : Prop :=
  (∀ (s : State) (kind tag : Byte) (body : List Byte), inCatalogue kind = false →
    TakenUp (.unknownRequestKind kind tag body) s →
    exec (.unknownRequestKind kind tag body) s =
      .next ((s.queueReply ⟨tag, 0xFF, [0x11]⟩).leaveIntake.feedOutput))
  ∧ (∀ (s : State) (c : Byte → List Byte → Instr) (n : Nat) (tag : Byte) (body : List Byte),
    (c, n) ∈ ([(.identify, 0), (.timeSet, 4), (.timeRead, 0), (.zoneOpen, 1), (.zoneClose, 1), (.zoneRead, 1),
      (.seasonBegin, 7), (.seasonEnd, 1), (.accountRead, 1), (.accountAdjust, 11), (.historyRead, 1), (.occupancy, 3),
      (.bankRead, 1), (.plantDefine, 3), (.plantHold, 2), (.plantRelease, 1), (.plantRead, 1), (.lineSet, 2),
      (.lineEnrol, 1), (.lineEnable, 1), (.lineRead, 1), (.deviceRead, 2), (.deviceRetire, 2), (.reportSet, 3),
      (.checkpointNow, 0), (.restart, 0)] : List ((Byte → List Byte → Instr) × Nat)) →
    body.length ≠ n → TakenUp (c tag body) s → Answers (c tag body) s .shape [] s)
  ∧ ∀ (s : State) (tag : Byte) (body : List Byte),
    ((∀ (z : Byte) (f : DefinitionFields), f.fits → body ≠ z :: f.bytes) → TakenUp (.zoneDefine tag body) s →
      Answers (.zoneDefine tag body) s .shape [] s)
    ∧ ((∀ (z : Byte) (es : List (Byte × Byte × Byte × Byte)), es.length < 256 →
        body ≠ z :: counted (fun e => [e.1, e.2.1, e.2.2.1, e.2.2.2]) es) → TakenUp (.zoneBind tag body) s →
      Answers (.zoneBind tag body) s .shape [] s)
    ∧ ((∀ z : Byte, ∀ names : List Byte, names.length < 256 → body ≠ z :: counted (fun b => [b]) names) →
      TakenUp (.marksClear tag body) s → Answers (.marksClear tag body) s .shape [] s)
    ∧ ((∀ (z : Byte) (b : Band), b.fits → body ≠ z :: b.sent ∧ body ≠ z :: b.sentWithout) →
      TakenUp (.climateBand tag body) s → Answers (.climateBand tag body) s .shape [] s)
    ∧ ((∀ (b l a : Byte) (slew : Option Byte), body ≠ [b, l, a] ++ optional (fun v => [v]) slew) →
      TakenUp (.bankDefine tag body) s → Answers (.bankDefine tag body) s .shape [] s)

/-- R8, R9, R18, R30, R32, R33, R34, R60, R69, R106, R114: the checks of a zone number, which these requests share: a number
outside 1..16 is refused with RANGE, and then an UNSET zone with STATE. MARKS CLEAR refuses an unknown mark with RANGE (R18),
CLIMATE BAND a value outside its range (R60), ZONE BIND more than four entries or an entry outside its ranges (R106). ZONE DEFINE
refuses a number or a value outside its range with RANGE (R2), and then runs the five checks of R3 in their order.
That a zone of CLIMATE BAND is looked up after the form of the body is the order of R162, and presence bytes stand before the
fields with a default alone: log entry 6; MARKS CLEAR checks the zone before the names: log entry 27. -/
def Obligations.ZoneRequestRefusals : Prop :=
  (∀ (s : State) (c : List Byte → Instr) (n : Nat) (tag z : Byte) (rest : List Byte),
    ((c, n) ∈ ([(.zoneOpen tag, 0), (.zoneClose tag, 0), (.seasonBegin tag, 6), (.seasonEnd tag, 0), (.accountRead tag, 0),
        (.accountAdjust tag, 10), (.historyRead tag, 0), (.occupancy tag, 2)] : List ((List Byte → Instr) × Nat))
      ∧ rest.length = n
      ∨ c = .marksClear tag ∧ (∃ names : List Byte, names.length < 256 ∧ rest = counted (fun b => [b]) names)
      ∨ c = .climateBand tag ∧ (∃ b : Band, b.fits ∧ (rest = b.sent ∨ rest = b.sentWithout))
      ∨ c = .zoneBind tag ∧ ∃ es : List (Byte × Byte × Byte × Byte), es.length < 256
          ∧ rest = counted (fun e => [e.1, e.2.1, e.2.2.1, e.2.2.2]) es) →
    TakenUp (c (z :: rest)) s →
    ((z.toNat < 1 ∨ 16 < z.toNat) → Answers (c (z :: rest)) s .range [] s)
      ∧ (1 ≤ z.toNat → z.toNat ≤ 16 → s.zone? z.toNat = none → Answers (c (z :: rest)) s .state [] s))
  ∧ (∀ (s : State) (tag z : Byte) (r : Zone), s.zone? z.toNat = some r →
    (∀ names : List Byte, names.length < 256 → (∃ b ∈ names, 11 ≤ b.toNat) →
      TakenUp (.marksClear tag (z :: counted (fun b => [b]) names)) s →
      Answers (.marksClear tag (z :: counted (fun b => [b]) names)) s .range [] s)
    ∧ (∀ b : Band, b.fits →
      (b.rhTarget < 300 ∨ 700 < b.rhTarget ∨ b.rhHalf < 10 ∨ 200 < b.rhHalf ∨ b.rhHalf < b.rhGuard ∨ b.swingLimit < 10
        ∨ 400 < b.swingLimit ∨ b.tempTarget < 100 ∨ 300 < b.tempTarget ∨ b.tempHalf < 5 ∨ 100 < b.tempHalf
        ∨ b.tempHalf < b.tempGuard ∨ 15 < b.trimAllowance) →
      TakenUp (.climateBand tag (z :: b.sent)) s → Answers (.climateBand tag (z :: b.sent)) s .range [] s)
    ∧ ∀ es : List (Byte × Byte × Byte × Byte), es.length < 256 →
      (4 < es.length ∨ ∃ e ∈ es, e.1.toNat < 1 ∨ 2 < e.1.toNat ∨ 127 < e.2.1.toNat ∨ 127 < e.2.2.1.toNat
        ∨ 1 < e.2.2.2.toNat) →
      TakenUp (.zoneBind tag (z :: counted (fun e => [e.1, e.2.1, e.2.2.1, e.2.2.2]) es)) s →
      Answers (.zoneBind tag (z :: counted (fun e => [e.1, e.2.1, e.2.2.1, e.2.2.2]) es)) s .range [] s)
  ∧ ∀ (s : State) (tag z : Byte) (f : DefinitionFields), f.fits → TakenUp (.zoneDefine tag (z :: f.bytes)) s →
    ((z.toNat < 1 ∨ 16 < z.toNat) → Answers (.zoneDefine tag (z :: f.bytes)) s .range [] s)
    ∧ (f.outOfRange → Answers (.zoneDefine tag (z :: f.bytes)) s .range [] s)
    ∧ ∀ d, f.definition? = some d → 1 ≤ z.toNat → z.toNat ≤ 16 →
      (s.namesMissing d → Answers (.zoneDefine tag (z :: f.bytes)) s .noSuch [] s)
      ∧ (¬ s.namesMissing d → s.namesUnfit z.toNat d → Answers (.zoneDefine tag (z :: f.bytes)) s .conflict [] s)
      ∧ (¬ s.namesMissing d → ¬ s.namesUnfit z.toNat d → s.definitionRefused z.toNat d = none)

/-! ## Requests that read -/

/-- R166, R12, R19, R33, R69, R162: IDENTIFY and TIME READ; ZONE READ, ACCOUNT READ and HISTORY READ of a defined zone carry its
records as they stand, field by field, and change nothing; ZONE READ of an UNSET zone carries its number and its state alone, and of
a number outside 1..16 is refused with RANGE.
The codes of two-valued fields and the layout of ZONE READ are the model's reading: log entries 5, 7. -/
def Obligations.PartAndZoneReads : Prop :=
  (∀ (s : State) (tag : Byte),
    (TakenUp (.identify tag []) s → Answers (.identify tag []) s .done
      [0x2C, 0x71, 0x01, 0xA0, 3, 16, 4, 8, 4, 2, 2, 64, 16, 32, 4] s)
    ∧ (TakenUp (.timeRead tag []) s →
        Answers (.timeRead tag []) s .done (be 4 s.clock ++ [if s.synced then 0 else 1]) s))
  ∧ ∀ (s : State) (tag z : Byte),
    ((z.toNat < 1 ∨ 16 < z.toNat) → TakenUp (.zoneRead tag [z]) s → Answers (.zoneRead tag [z]) s .range [] s)
    ∧ (1 ≤ z.toNat → z.toNat ≤ 16 → s.zone? z.toNat = none → TakenUp (.zoneRead tag [z]) s →
      Answers (.zoneRead tag [z]) s .done [z, 0] s)
    ∧ ∀ r, s.zone? z.toNat = some r →
      (TakenUp (.zoneRead tag [z]) s → ∃ demand, s.DemandIsSent z.toNat r demand ∧ Answers (.zoneRead tag [z]) s .done
          (be 1 (if r.isOpen then 2 else 1)
            ++ be 2 r.defn.ceiling ++ be 2 r.defn.floor ++ nameOf 0 [.visibility, .budget] r.defn.policy
            ++ be 2 r.defn.uvRef ++ be 1 r.defn.sensitivity ++ be 1 r.defn.electricLimit ++ be 1 r.defn.derate
            ++ be 1 (r.defn.plant.getD 0) ++ ifPresent r.defn.dimmer deviceBytesOf ++ ifPresent r.defn.trim deviceBytesOf
            ++ listOf r.defn.banks (be 1) ++ ifPresent r.defn.surgeThreshold (be 2) ++ yesNo r.defn.escalate
            ++ ifPresent r.band (fun b => be 2 b.rhTarget ++ be 1 b.rhHalf ++ be 1 b.rhGuard ++ be 2 b.swingLimit
              ++ be 2 b.tempTarget ++ be 1 b.tempHalf ++ be 1 b.tempGuard ++ be 1 b.trimAllowance)
            ++ be 2 r.light.target ++ be 4 r.light.permitted
            ++ nameOf 0 [.free, .within, .pressure, .restricted, .exhausted, .dark] r.light.condition
            ++ be 1 r.light.dimmer ++ be 1 r.light.louvre ++ be 1 r.light.electricLimit
            ++ ifPresent r.measure.illuminance (be 2) ++ yesNo r.measure.light.blind
            ++ ifPresent r.measure.uvRatio (be 2) ++ yesNo r.measure.light.blind
            ++ ifPresent r.measure.rh (be 2) ++ yesNo r.measure.climate.blind
            ++ ifPresent r.measure.temperature signed ++ yesNo r.measure.climate.blind
            ++ yesNo (decide (r.measure.light.blind = false)) ++ yesNo (decide (r.measure.climate.blind = false))
            ++ classByte r.climate.rh ++ classByte r.climate.temp
            ++ ifPresent r.climate.lastSwing (be 2) ++ yesNo r.climate.swing ++ be 1 r.climate.trimCount
            ++ ifPresent r.climate.pulse (fun x => nameOf 1 [.humidify, .dry] x.dir)
            ++ demand ++ be 2 r.measure.occupancy
            ++ yesNo (match r.defn.surgeThreshold with
              | some th => decide (th ≤ r.measure.occupancy)
              | none => false)
            ++ (let named := [Mark.rhOut, .rhSwing, .tempOut, .lightPressure, .exhausted, .blindLight, .blindClimate,
                  .unresolved, .accountGap, .accountLost, .saturated]
                listOf (named.filter fun m => decide (m ∈ r.marks)) (nameOf 0 named))) s)
      ∧ (TakenUp (.accountRead tag [z]) s → Answers (.accountRead tag [z]) s .done
          (be 5 r.account.dose ++ be 2 r.account.residue ++ be 4 r.account.openSeconds
            ++ (match r.account.season with
                | none => [0]
                | some x => [1] ++ be 4 x.allowance ++ be 2 x.plannedHours ++ be 4 x.start)
            ++ (match r.account.lastSample with
                | none => [0]
                | some v => [1] ++ be 4 v)
            ++ [if r.account.saturated then 0 else 1]) s)
      ∧ (TakenUp (.historyRead tag [z]) s → Answers (.historyRead tag [z]) s .done
          (listOf r.climate.history (fun b => be 1 (r.climate.current.hour - b.hour) ++ bucketBytes b)
            ++ be 3 r.climate.current.hour ++ bucketBytes r.climate.current
            ++ ifPresent r.climate.lastSwing (be 2) ++ yesNo r.climate.swing) s)

/-- R57, R101, R148, R129, R119: BANK READ, PLANT READ, LINE READ and DEVICE READ carry the record as it stands, field by field, and
change nothing; an UNSET bank or plant is answered with its state alone, a device without an entry with NO_SUCH.
The codes of two-valued fields and of blocks and the layouts are the model's reading: log entries 5, 8, 9. -/
def Obligations.RecordReads : Prop :=
  ∀ (s : State) (tag n a : Byte),
    (TakenUp (.bankRead tag [n]) s →
      (∀ r served, s.bank? n.toNat = some r →
        served = zoneNumbers.filter (fun z => (s.zone? z).any fun x => decide (n.toNat ∈ x.defn.banks)) →
        Answers (.bankRead tag [n]) s .done
          (nameOf 1 [.active, .faulted] r.state ++ deviceBytesOf r.louvre ++ be 1 r.slew ++ be 1 r.target ++ be 1 r.commanded
            ++ ifPresent ((s.device? r.louvre).bind (·.reported)) (be 1)
            ++ listOf served (fun z => match s.zone? z with
              | some x => be 1 z ++ be 1 (if x.isOpen then 2 else 1) ++ be 1 x.light.louvre
              | none => [])) s)
      ∧ (validBank n.toNat = true → s.bank? n.toNat = none → Answers (.bankRead tag [n]) s .done [0] s)
      ∧ (validBank n.toNat = false → Answers (.bankRead tag [n]) s .range [] s))
    ∧ (TakenUp (.plantRead tag [n]) s →
      (∀ r, s.plant? n.toNat = some r → ∃ served : List Demand, served.Perm r.service
        ∧ served.Pairwise (fun x y => y.level < x.level ∨ (x.level = y.level ∧ x.arrival ≤ y.arrival))
        ∧ Answers (.plantRead tag [n]) s .done
          (nameOf 1 [.idle, .changeover, .running, .held, .faulted] r.state ++ deviceBytesOf r.controller
            ++ dutyByte r.physical ++ dutyByte r.commanded ++ dutyByte r.target ++ be 1 r.serviceLevel
            ++ listOf served demandBytesOf ++ listOf r.waiting demandBytesOf ++ be 4 r.arrivals
            ++ yesNo r.minRunElapsed ++ yesNo (decide (r.minRunDue ≠ none)) ++ yesNo r.changeExpired
            ++ yesNo r.changeAcked ++ yesNo (decide (r.changeDue ≠ none))) s)
      ∧ (validPlant n.toNat = true → s.plant? n.toNat = none → Answers (.plantRead tag [n]) s .done [0] s)
      ∧ (validPlant n.toNat = false → Answers (.plantRead tag [n]) s .range [] s))
    ∧ (TakenUp (.lineRead tag [n]) s →
      (∀ r mine, s.line? n.toNat = some r → mine = s.devices.filter (fun e => decide (e.line = n.toNat)) →
        Answers (.lineRead tag [n]) s .done
          (nameOf 0 [.off, .active, .enrolling, .recovering, .disabled] r.state ++ yesNo r.terminated
            ++ be 1 r.retryLimit ++ be 1 r.hangCount ++ be 1 r.roundCounter ++ yesNo r.roundInProgress ++ be 1 r.pollPos
            ++ ifPresent r.inFlight (fun x =>
              ([match x.ask with | .poll => 0x50 | .ident => 0x51 | .set _ _ => 0x52] : List Byte)
                ++ be 1 x.address ++ be 1 x.retries ++ ifPresent x.lastReason reasonByte)
            ++ listOf r.queue (fun c => be 1 c.address ++ be 1 c.value ++ match c.issuer with
              | .governor z => blockBytes 0 z
              | .bank b => blockBytes 1 b
              | .tracker z => blockBytes 2 z
              | .arbiter p => blockBytes 3 p)
            ++ ifPresent (if r.state = .enrolling then r.enrolment else none) (fun e =>
              be 1 e.next ++ be 1 e.found ++ be 1 e.added ++ be 1 e.absent ++ be 1 e.notAdded)
            ++ be 1 mine.length ++ be 1 (mine.filter fun e =>
              decide (e.kind ∈ [DeviceKind.dimmer, .louvre, .trimUnit, .plantController])).length) s)
      ∧ (validLine n.toNat = false → Answers (.lineRead tag [n]) s .range [] s))
    ∧ (TakenUp (.deviceRead tag [n, a]) s →
      (validLine n.toNat = true → validAddress a.toNat = true →
        (∀ e, s.device? ⟨n.toNat, a.toNat⟩ = some e → ∃ owner, s.OwnedBy ⟨n.toNat, a.toNat⟩ owner
          ∧ Answers (.deviceRead tag [n, a]) s .done
          (nameOf 1 [.lightSensor, .climateSensor, .lightClimateSensor, .dimmer, .louvre, .trimUnit, .plantController] e.kind
            ++ nameOf 0 [.enrolled, .active, .suspect, .faulted, .absent] e.state ++ be 1 e.failures
            ++ ifPresent e.reading (fun x =>
              (match x.illuminance with | some q => signed q.value ++ yesNo q.valid | none => [])
                ++ (match x.uvRatio with | some q => signed q.value ++ yesNo q.valid | none => [])
                ++ (match x.rh with | some q => signed q.value ++ yesNo q.valid | none => [])
                ++ (match x.temperature with | some q => signed q.value ++ yesNo q.valid | none => [])
                ++ be 4 x.clock)
            ++ (if e.reported = none ∧ e.acked = none then [0]
              else 1 :: ifPresent e.reported (be 1) ++ ifPresent e.acked (be 1))
            ++ ifPresent e.fault (fun x => reasonByte x.reason ++ be 4 x.clock)
            ++ ifPresent owner (fun o => match o with
              | .zoneDimmer z => blockBytes 0 z
              | .zoneTrim z => blockBytes 1 z
              | .bank b => blockBytes 2 b
              | .plant p => blockBytes 3 p)) s)
        ∧ (s.device? ⟨n.toNat, a.toNat⟩ = none → Answers (.deviceRead tag [n, a]) s .noSuch [] s))
      ∧ (validLine n.toNat = false ∨ validAddress a.toNat = false → Answers (.deviceRead tag [n, a]) s .range [] s))

/-! ## The host link -/

/-- R161, R160: FRAME RECEIVED is the arrival of a complete good frame, and leaves the assembly hunting. Once requests that wait
have been taken up, or not, as free values decide, the frame joins an intake that holds fewer than four, is answered FULL at a full
intake, or is discarded where the reply queue is full too; and then requests may be taken up again. So a frame that meets the
freeing of a place in the intake comes after it and joins, or before it and is answered FULL. A request command that is not taken
up at once is that same arrival. The receive assembly returns to hunting at a gap; and it takes a byte while hunting, a byte without
its stop bit, a length byte, a byte inside a frame that does not end it, and the byte that ends a frame whose check does not match,
which is discarded unanswered.
That a request command is the arrival of its frame, and when requests that wait are taken up, are the model's choices: log entries
3, 4. -/
def Obligations.FramesAreReceived : Prop :=
  (∀ (s u v : State) (f full : Frame), s.running = true → u = State.serveSome { s with link := { s.link with rx := none } } →
    full = ⟨f.tag, if 1 ≤ f.kind.toNat ∧ f.kind.toNat ≤ 0x1F then f.kind + 0x80 else 0xFF, [0x10]⟩ →
    v = (if u.link.intake.length < 4 then { u with link := { u.link with intake := u.link.intake ++ [f] } }
      else if u.link.replies.length < 8 then { u with link := { u.link with replies := u.link.replies ++ [full] } }
      else u) →
    exec (.frameReceived f.tag f.kind f.body) s = .next v.serveSome.feedOutput
    ∧ (s.link.intake.length = 4 → s.mayTakeUp = true →
      (Config.takenUpNow s.freeIx = true →
        u.link.intake.length < 4 ∧ v = { u with link := { u.link with intake := u.link.intake ++ [f] } })
      ∧ (Config.takenUpNow s.freeIx = false →
        v = { s with
          freeIx := s.freeIx + 1, link := { s.link with rx := none, replies := s.link.replies ++ [full] } })))
  ∧ (∀ (s : State) (c : Instr) (f : Frame), s.running = true → c.request? = some f →
    ((s.mayTakeUp = false ∨ s.link.intake ≠ []) →
      exec (.frameReceived f.tag f.kind f.body) s = exec c { s with link := { s.link with rx := none } })
    ∧ (s.mayTakeUp = false → s.link.intake.length < 4 →
        Happens c s { s with link := { s.link with intake := s.link.intake ++ [f] } })
    ∧ (s.mayTakeUp = false → 4 ≤ s.link.intake.length → s.link.replies.length < 8 →
        Happens c s { s with link := { s.link with replies := s.link.replies ++
          [⟨f.tag, if 1 ≤ f.kind.toNat ∧ f.kind.toNat ≤ 0x1F then f.kind + 0x80 else 0xFF, [0x10]⟩] } })
    ∧ (s.mayTakeUp = false → 4 ≤ s.link.intake.length → 8 ≤ s.link.replies.length → Happens c s s))
  ∧ ∀ (s : State) (b : Byte) (stop : Bool), s.running = true →
    Happens .frameGapExpiry s { s with link := { s.link with rx := none } }
    ∧ (s.link.rx = none → (b ≠ 0xA5 ∨ stop = false) → Happens (.uartByteReceived b stop) s s)
    ∧ (s.link.rx = none → Happens (.uartByteReceived 0xA5 true) s { s with link := { s.link with rx := some [] } })
    ∧ ∀ bs, s.link.rx = some bs →
      Happens (.uartByteReceived b false) s { s with link := { s.link with rx := none } }
      ∧ (bs = [] → (b.toNat < 2 ∨ 250 < b.toNat) →
          Happens (.uartByteReceived b true) s { s with link := { s.link with rx := none } })
      ∧ (bs = [] → 2 ≤ b.toNat → b.toNat ≤ 250 →
          Happens (.uartByteReceived b true) s { s with link := { s.link with rx := some [b] } })
      ∧ (∀ len rest, bs = len :: rest → rest.length + 1 < len.toNat + 2 →
          Happens (.uartByteReceived b true) s { s with link := { s.link with rx := some (bs ++ [b]) } })
      ∧ ∀ (len : Byte) (rest check : List Byte), 2 ≤ len.toNat → rest.length = len.toNat → check.length = 2 →
          bs ++ [b] = len :: rest ++ check → check ≠ be 2 (crc16 (len :: rest)).toNat →
          Happens (.uartByteReceived b true) s { s with link := { s.link with rx := none } }

/-- R159, R160, R161: the wire bytes of any frame, received one by one by a hunting assembly, come to what the arrival of
exactly that frame comes to.
That the frame arrives in the step of its last byte is the model's reading, log entry 4. -/
def Obligations.FrameRoundTrip : Prop :=
  ∀ (s : State) (f : Frame), f.body.length ≤ 248 → s.running = true → s.link.rx = none → s.feedOutput = s →
    receiveAll f.wire s = exec (.frameReceived f.tag f.kind f.body) s

/-- R164, R153, R161: when a frame other than RESTART's reply has been sent, the output chooses the oldest reply, else the
oldest notice, else it is idle; a reply is marked as RESTART's exactly where a RESTART is being carried out and the reply is a
DONE of its kind. Then requests that wait may be taken up, oldest first, while the reply queue has room and no RESTART is being
carried out, each as its request command is: a free value decides of each whether it is taken up in this step or waits on with those
behind it. A step on an empty queue of commands takes up all that may be.
At the end of every event an idle output takes up what has become available: the oldest reply, else the oldest notice; where both
are, a free value says which. A notice frame carries tag 0, kind F0 hex and the record of the notice.
When requests that wait are taken up, and that a reply leaves the reply queue as its sending begins, are the model's choices: log
entries 3, 18, 43; the free value is that of log entry 12, and the codes of START's configuration and of the record of CHECKPOINT
FAILED are those of log entries 5 and 8. -/
def Obligations.OutputChoosesNext : Prop :=
  (∀ (s : State) (sense : TermSense) (o : Sending), s.running = true → s.link.output = some o → o.restartReply = false →
    (∀ f rest, s.link.replies = f :: rest → exec (.outputFrameSent sense) s = .next (State.serveSome
      { s with link := { s.link with
          replies := rest
          output := some ⟨f.wire, decide (s.restarting ≠ none ∧ f.kind = 0x9F ∧ f.body = [0x00])⟩ } }))
    ∧ (∀ n rest, s.link.replies = [] → s.notices = n :: rest → exec (.outputFrameSent sense) s = .next (State.serveSome
      { s with notices := rest, link := { s.link with output := some ⟨n.frame.wire, false⟩ } }))
    ∧ (s.link.replies = [] → s.notices = [] → exec (.outputFrameSent sense) s = .next (State.serveSome
      { s with link := { s.link with output := none } })))
  ∧ (∀ s : State,
    ((s.link.intake = [] ∨ s.restarting ≠ none ∨ 8 ≤ s.link.replies.length) → s.serveSome = s)
    ∧ ∀ f rest u, s.link.intake = f :: rest → s.restarting = none → s.link.replies.length < 8 →
      u = State.handled { s with freeIx := s.freeIx + 1 } f →
      (Config.takenUpNow s.freeIx = true → s.serveSome = u.serveSome)
      ∧ (Config.takenUpNow s.freeIx = false → s.serveSome = { s with freeIx := s.freeIx + 1 })
      ∧ u.link.intake = rest
      ∧ (s.running = true → s.pending = [] → step s = step u))
  ∧ (∀ (f : Frame) (c : Instr) (u : State), c.request? = some f → TakenUp c u → exec c u = .next (u.handled f))
  ∧ (∀ s : State, s.running = true → s.pending = [] →
    ∃ t, step s = .next t ∧ (t.link.intake = [] ∨ t.restarting ≠ none ∨ 8 ≤ t.link.replies.length))
  ∧ (∀ s : State,
    (s.link.output ≠ none → s.feedOutput = s)
    ∧ (s.link.output = none → s.link.replies = [] → s.notices = [] → s.feedOutput = s)
    ∧ ∀ f rest n more t u, s.link.output = none →
      t = { s with link := { s.link with
          replies := rest
          output := some ⟨f.wire, decide (s.restarting ≠ none ∧ f.kind = 0x9F ∧ f.body = [0x00])⟩ } } →
      u = { s with notices := more, link := { s.link with output := some ⟨n.frame.wire, false⟩ } } →
      (s.link.replies = f :: rest → s.notices = [] → s.feedOutput = t)
      ∧ (s.link.replies = [] → s.notices = n :: more → s.feedOutput = u)
      ∧ (s.link.replies = f :: rest → s.notices = n :: more → s.feedOutput =
        if Config.replyTakenFirst s.freeIx = true then { t with freeIx := s.freeIx + 1 }
        else { u with freeIx := s.freeIx + 1 }))
  ∧ ∀ n : Notice, n.body.sent.2.2.length ≤ 8 ∧ n.level = n.body.sent.2.1 ∧ n.frame =
    { tag := 0, kind := 0xF0,
      body := be 1 n.body.sent.1 ++ be 1 n.body.sent.2.1 ++ n.subject.sent ++ be 4 n.clock
        ++ be 1 n.body.sent.2.2.length ++ n.body.sent.2.2 }

/-! ## Zones -/

/-- R1, R4: ZONE DEFINE that passes its checks on an UNSET zone creates the zone, with the records the manual gives, and
nothing else but the configuration changed flag.
The bytes of the request, with a presence byte before exactly the fields that have a default and the code of the escalate byte, are
the model's readings: log entries 6, 5. -/
def Obligations.ZoneDefineCreates : Prop :=
  ∀ (s : State) (tag : Byte) (z : Nat) (f : DefinitionFields) (d : Definition), validZone z = true → f.fits →
    f.definition? = some d → s.definitionRefused z d = none → s.zone? z = none →
    TakenUp (.zoneDefine tag (be 1 z ++ f.bytes)) s →
    ∃ t, Answers (.zoneDefine tag (be 1 z ++ f.bytes)) s .done [] t
      ∧ t.zone? z = some
        { isOpen := false, defn := d, band := none, marks := [], sampleDue := s.now + 10, reviewDue := s.now + 60,
          climateDue := s.now + 60, account := ⟨0, 0, 0, none, none, false⟩,
          light := ⟨0, 0, .free, 0, 100, d.electricLimit, true, false⟩,
          climate := { rh := .unclassified, temp := .unclassified, lastSwing := none, swing := false,
                       current := ⟨s.clock / 3600, none, none, 0⟩, history := [], trimCount := 4, pulse := none,
                       trimUnavailable := false, offOwed := false, need := none, unresolved := false, demand := none },
          measure := { bindings := [], illuminance := none, uvRatio := none, rh := none, temperature := none,
                       illuminanceFresh := false, uvRatioFresh := false, rhFresh := false, temperatureFresh := false,
                       light := ⟨false, s.now⟩, climate := ⟨false, s.now⟩, occupancy := 0 },
          rollovers := [] }
      ∧ (∀ k, k ≠ z → t.zone? k = s.zone? k) ∧ t = { s with zones := t.zones, configChanged := true }

/-- R5, R6, R7: ZONE DEFINE that passes its checks on a defined zone installs the definition and keeps the zone state, the
marks, the account, the band, the measurement and the timers; with plant, dimmer and trim device unchanged, nothing but the
definition and the configuration changed flag changes. Where the plant changes, the zone's demand is withdrawn from the old
plant, which then holds none of the zone; where the dimmer device changes, level 0 is placed for the old one; where the trim
device changes, a pulse in flight is ended with OFF for its device.
That the commands are placed in this order is the model's choice, log entry 37; the bytes of the request, with a presence byte before
exactly the fields that have a default and the code of the escalate byte, are its readings, log entries 6, 5. -/
def Obligations.ZoneDefineReplaces : Prop :=
  ∀ (s : State) (tag : Byte) (z : Nat) (f : DefinitionFields) (d : Definition) (r : Zone), f.fits →
    f.definition? = some d → s.definitionRefused z d = none → s.zone? z = some r → validZone z = true →
    TakenUp (.zoneDefine tag (be 1 z ++ f.bytes)) s →
    ∃ t s1 s2 s3 s4, Answers (.zoneDefine tag (be 1 z ++ f.bytes)) s .done [] t
      ∧ s1 = s.putZone z { r with
          defn := d, light := { r.light with refreshOwed := r.light.refreshOwed || decide (r.defn.dimmer ≠ d.dimmer) }
          climate := { r.climate with
            demand := if r.defn.plant = d.plant then r.climate.demand else none
            pulse := if r.defn.trim = d.trim then r.climate.pulse else none
            trimUnavailable := decide (r.defn.trim = d.trim) && r.climate.trimUnavailable
            offOwed := decide (r.defn.trim = d.trim) && r.climate.offOwed } }
      ∧ (r.defn.plant = d.plant ∨ r.climate.demand = none → s2 = s1)
      ∧ (∀ dm, r.defn.plant ≠ d.plant → r.climate.demand = some dm → s2 = s1.withdraw dm.plant z
          ∧ ∀ pl, t.plant? dm.plant = some pl → ∀ x ∈ pl.demands, x.zone ≠ z)
      ∧ (r.defn.dimmer = d.dimmer ∨ r.defn.dimmer = none → s3 = s2)
      ∧ (∀ a, r.defn.dimmer ≠ d.dimmer → r.defn.dimmer = some a → s3 = s2.place a 0 (.governor z)
          ∧ ∀ l l', s.line? a.line = some l → l.state.takesCommands = true → t.line? a.line = some l' →
            (∀ x, r.climate.pulse = some x → x.device ≠ a) → ⟨a.address, 0, .governor z⟩ ∈ l'.queue)
      ∧ (r.defn.trim = d.trim ∨ r.climate.pulse = none → s4 = s3)
      ∧ (∀ x, r.defn.trim ≠ d.trim → r.climate.pulse = some x → s4 = s3.place x.device 0 (.tracker z)
          ∧ ∀ l l', s.line? x.device.line = some l → l.state.takesCommands = true → t.line? x.device.line = some l' →
            ⟨x.device.address, 0, .tracker z⟩ ∈ l'.queue)
      ∧ t = { s4 with configChanged := s.configChanged || decide (r.defn ≠ d) }
      ∧ (∃ r', t.zone? z = some r' ∧ r'.defn = d ∧ r'.isOpen = r.isOpen ∧ r'.marks = r.marks
          ∧ r'.account = r.account ∧ r'.band = r.band ∧ r'.measure = r.measure ∧ r'.sampleDue = r.sampleDue
          ∧ r'.reviewDue = r.reviewDue ∧ r'.climateDue = r.climateDue ∧ r'.light.dimmer = r.light.dimmer
          ∧ (r.defn.plant ≠ d.plant → r'.climate.demand = none)
          ∧ (r.defn.dimmer ≠ d.dimmer → r'.light.refreshOwed = true)
          ∧ (r.defn.trim ≠ d.trim → r'.climate.pulse = none ∧ r'.climate.trimCount = r.climate.trimCount))
      ∧ (r.defn.plant = d.plant → r.defn.dimmer = d.dimmer → r.defn.trim = d.trim →
          t = { s with zones := slotSet s.zones z (some { r with defn := d })
                       configChanged := s.configChanged || decide (r.defn ≠ d) })

/-- R104 to R110: ZONE BIND installs the entries and counts what each binds; which device entries an entry binds, by line, kind,
state and the address bits its care mask has set; the set a zone draws on, each entry of the table once; the mean of the valid
readings of age 30 s or less, rounded to the nearest, an exact half away from zero; and what the resolution of each channel does
with its two means: the values, which are kept where there is none, the fresh flags and the channel's state. Of the record nothing
else changes. Light samples and climate reviews resolve in these words.
That a reading of age 30 s is used, and ages in whole seconds, are the model's readings: log entries 41, 1. -/
def Obligations.ZoneBindReplaces : Prop :=
  (∀ (s : State) (tag : Byte) (z : Nat) (r : Zone) (bs : List Binding), s.zone? z = some r → bs.length ≤ 4 →
    (∀ b ∈ bs, b.inRange) → TakenUp (.zoneBind tag (be 1 z ++ counted Binding.bytes bs)) s →
    Answers (.zoneBind tag (be 1 z ++ counted Binding.bytes bs)) s .done
      (be 1 bs.length ++ (bs.map fun b => BitVec.ofNat 8 (s.devices.countP fun e => b.binds e)))
      { s with zones := slotSet s.zones z (some { r with measure := { r.measure with bindings := bs } })
               configChanged := s.configChanged || decide (r.measure.bindings ≠ bs) })
  ∧ (∀ (b : Binding) (e : Device), b.binds e = true ↔
    e.line = b.line ∧ e.state ≠ .absent
      ∧ (match b.cls with
        | .light => e.kind = .lightSensor ∨ e.kind = .lightClimateSensor
        | .climate => e.kind = .climateSensor ∨ e.kind = .lightClimateSensor)
      ∧ ∀ i, i < 7 → b.care.testBit i = true → e.address.testBit i = b.base.testBit i)
  ∧ (∀ (s : State) (bs : List Binding) (c : QuantityClass), (s.boundTo bs c).Sublist s.devices
    ∧ ∀ e, e ∈ s.boundTo bs c ↔ e ∈ s.devices ∧ ∃ b ∈ bs, b.cls = c ∧ b.binds e = true)
  ∧ (∀ (set : List Device) (now : Nat) (q : Reading → Option Quantity) (values : List Int),
    values = set.filterMap (fun e => (e.reading.filter fun r => decide (now ≤ r.arrived + 30)).bind fun r =>
      (q r).bind fun v => if v.valid then some v.value else none) →
    (values = [] → freshMean set now q = none)
    ∧ ∀ n : Int, values ≠ [] → n = values.length → ∃ m, freshMean set now q = some m
      ∧ (0 ≤ values.sum → 2 * values.sum - n < 2 * n * m ∧ 2 * n * m ≤ 2 * values.sum + n)
      ∧ (values.sum < 0 → 2 * values.sum - n ≤ 2 * n * m ∧ 2 * n * m < 2 * values.sum + n))
  ∧ (∀ (m : Measurement) (now : Nat) (lux uv : Option Int), ∃ m', m' = m.resolveLight now lux uv
    ∧ m' = { m with illuminance := m'.illuminance, uvRatio := m'.uvRatio, illuminanceFresh := decide (lux ≠ none)
                    uvRatioFresh := decide (uv ≠ none), light := m'.light }
    ∧ (∀ v : Nat, lux = some (v : Int) → m'.illuminance = some v) ∧ (lux = none → m'.illuminance = m.illuminance)
    ∧ (∀ v : Nat, uv = some (v : Int) → m'.uvRatio = some v) ∧ (uv = none → m'.uvRatio = m.uvRatio)
    ∧ ((lux ≠ none ∨ uv ≠ none) → m'.light = ⟨false, now⟩)
    ∧ (lux = none → uv = none → now < m.light.lastFresh + 30 → m'.light = m.light)
    ∧ (lux = none → uv = none → m.light.lastFresh + 30 ≤ now → m'.light = ⟨true, m.light.lastFresh⟩))
  ∧ ∀ (m : Measurement) (now : Nat) (rh temp : Option Int), ∃ m', m' = m.resolveClimate now rh temp
    ∧ m' = { m with rh := m'.rh, temperature := m'.temperature, rhFresh := decide (rh ≠ none)
                    temperatureFresh := decide (temp ≠ none), climate := m'.climate }
    ∧ (∀ v : Nat, rh = some (v : Int) → m'.rh = some v) ∧ (rh = none → m'.rh = m.rh)
    ∧ (∀ v, temp = some v → m'.temperature = some v) ∧ (temp = none → m'.temperature = m.temperature)
    ∧ ((rh ≠ none ∨ temp ≠ none) → m'.climate = ⟨false, now⟩)
    ∧ (rh = none → temp = none → now < m.climate.lastFresh + 30 → m'.climate = m.climate)
    ∧ (rh = none → temp = none → m.climate.lastFresh + 30 ≤ now → m'.climate = ⟨true, m.climate.lastFresh⟩)

/-- R8, R9, R141, R48: ZONE OPEN and ZONE CLOSE. On a line that takes no command the level 0 of a zone closed fails at once: the lines
stand as before, and a refresh is owed. -/
def Obligations.ZoneOpenAndClose : Prop :=
  ∀ (s : State) (tag z : Byte) (r : Zone), s.zone? z.toNat = some r →
    (TakenUp (.zoneOpen tag [z]) s → Answers (.zoneOpen tag [z]) s .done []
      { s with zones := slotSet s.zones z.toNat (some { r with isOpen := true })
               configChanged := s.configChanged || !r.isOpen })
    ∧ (TakenUp (.zoneClose tag [z]) s →
        (r.isOpen = false → Answers (.zoneClose tag [z]) s .done [] s)
        ∧ (r.isOpen = true → ∃ t owed, Answers (.zoneClose tag [z]) s .done [] t
            ∧ t.zone? z.toNat = some { r with
                isOpen := false, light := { r.light with dimmer := 0, louvre := 100, refreshOwed := owed } }
            ∧ (∀ k, k ≠ z.toNat → t.zone? k = s.zone? k)
            ∧ t = { s with zones := t.zones, lines := t.lines, configChanged := true }
            ∧ (r.defn.dimmer = none → t.lines = s.lines ∧ owed = r.light.refreshOwed)
            ∧ ∀ d l, r.defn.dimmer = some d → s.line? d.line = some l →
              (l.state.takesCommands = true → owed = r.light.refreshOwed ∧ t.lines = slotSet s.lines d.line
                  { l with queue := enqueueCommand ⟨d.address, 0, .governor z.toNat⟩ l.queue })
              ∧ (l.state.takesCommands = false → owed = true ∧ t.lines = s.lines)))

/-- R18: MARKS CLEAR removes each named mark whose condition does not hold and keeps the others, and the alarm line follows the
marks. The condition of each mark is that of the last column of R17, and of EXHAUSTED, where the zone's light review has come due
and the clear is taken first, that of the previous review; a review fixes it.
That a body which names one mark twice is accepted and counts it once is the model's reading, log entry 38; that EXHAUSTED is
tested on the account as it stands, and on the previous review's finding only where a review that has come due is met, is its reading
of R17 and R49, log entry 39. -/
def Obligations.MarksClearTests : Prop :=
  (∀ (s : State) (tag : Byte) (z : Nat) (r : Zone) (named : List Mark), s.zone? z = some r → named.length < 256 →
    TakenUp (.marksClear tag (be 1 z ++ counted (fun m => be 1 m.code) named)) s →
    ∃ t status content, Answers (.marksClear tag (be 1 z ++ counted (fun m => be 1 m.code) named)) s status content t
      ∧ t.zone? z = some { r with marks := r.marks.filter fun m => decide ¬ (m ∈ named ∧ r.markHolds s.now m = false) }
      ∧ (∀ k, k ≠ z → t.zone? k = s.zone? k) ∧ t = { s with zones := t.zones, alarm := t.alarm }
      ∧ (s.report.mode = .level → t.alarm = t.alarmCondition) ∧ (s.report.mode = .pulse → t.alarm = s.alarm)
      ∧ ((∀ m ∈ named, r.markHolds s.now m = false) → status = .done ∧ content = [])
      ∧ ((∃ m ∈ named, r.markHolds s.now m = true) → status = .partly
          ∧ content = counted (fun m => be 1 m.code) (allMarks.filter fun m => decide (m ∈ named) && r.markHolds s.now m)))
  ∧ (∀ (r : Zone) (now : Nat) (m : Mark), r.markHolds now m = true ↔ match m with
    | .rhOut => r.climate.rh = .outLow ∨ r.climate.rh = .outHigh
    | .rhSwing => r.climate.swing = true
    | .tempOut => r.climate.temp = .outLow ∨ r.climate.temp = .outHigh
    | .lightPressure => r.light.condition = .pressure ∨ r.light.condition = .restricted
    | .exhausted => (r.reviewDue ≤ now ∧ r.light.spent = true)
      ∨ (now < r.reviewDue ∧ ∃ x, r.account.season = some x ∧ (x.allowance : Int) * 3600 - r.account.dose ≤ 0)
    | .blindLight => r.measure.light.blind = true
    | .blindClimate => r.measure.climate.blind = true
    | .unresolved => r.climate.unresolved = true
    | .accountGap | .accountLost => False
    | .saturated => r.account.dose = 1099511627775)
  ∧ ∀ (s : State) (z : Nat) (r : Zone), s.running = true → s.zone? z = some r → r.reviewDue ≤ s.now →
    ∃ t r', Happens (.lightReview z) s t ∧ t.zone? z = some r'
      ∧ r'.light.spent = (r.account.season.any fun x => decide ((x.allowance * 3600 : Int) - r.account.dose ≤ 0))

/-! ## Accounts -/

/-- R30, R32, R34, R15: SEASON BEGIN, SEASON END and ACCOUNT ADJUST: what each reports of the account before it, and the account it
leaves, by which the condition of EXHAUSTED is that of the new account (log entry 39); the mark SATURATED that ACCOUNT ADJUST newly sets, with its MARK SET notice; and SEASON BEGIN refuses an allowance outside 1..300,000,000 or planned open hours outside 1..8784 with RANGE.
The reply of SEASON BEGIN sends the saturated flag as 0 where it is set: the model's reading, log entry 5. -/
def Obligations.SeasonsAndAdjustment : Prop :=
  ∀ (s : State) (tag : Byte) (z : Nat) (r : Zone), s.zone? z = some r →
    (∀ a p, 1 ≤ a → a ≤ 300000000 → 1 ≤ p → p ≤ 8784 → TakenUp (.seasonBegin tag (be 1 z ++ be 4 a ++ be 2 p)) s →
      Answers (.seasonBegin tag (be 1 z ++ be 4 a ++ be 2 p)) s .done
        (be 5 r.account.dose ++ be 4 r.account.openSeconds
          ++ (match r.account.season with
              | none => [0]
              | some x => [1] ++ be 4 x.allowance ++ be 2 x.plannedHours ++ be 4 x.start)
          ++ [if r.account.saturated then 0 else 1])
        (s.putZone z { r with account :=
          { dose := 0, residue := 0, openSeconds := 0, season := some ⟨a, p, s.clock⟩,
            lastSample := r.account.lastSample, saturated := false }, light := { r.light with spent := false } }))
    ∧ (∀ a p, a < 4294967296 → p < 65536 → (a < 1 ∨ 300000000 < a ∨ p < 1 ∨ 8784 < p) →
      TakenUp (.seasonBegin tag (be 1 z ++ be 4 a ++ be 2 p)) s →
      Answers (.seasonBegin tag (be 1 z ++ be 4 a ++ be 2 p)) s .range [] s)
    ∧ (TakenUp (.seasonEnd tag (be 1 z)) s → Answers (.seasonEnd tag (be 1 z)) s .done
        (be 5 r.account.dose ++ be 4 r.account.openSeconds
          ++ (match r.account.season with
              | none => [0]
              | some x => [1] ++ be 4 x.allowance ++ be 2 x.plannedHours ++ be 4 x.start))
        (s.putZone z { r with account := { r.account with season := none }, light := { r.light with spent := false } }))
    ∧ ∀ d q, d < 281474976710656 → q < 4294967296 → TakenUp (.accountAdjust tag (be 1 z ++ be 6 d ++ be 4 q)) s →
      ∃ t, Answers (.accountAdjust tag (be 1 z ++ be 6 d ++ be 4 q)) s .done
          (be 5 r.account.dose ++ be 2 r.account.residue ++ be 4 r.account.openSeconds
            ++ be 5 (if d ≤ 1099511627775 then d else 1099511627775)) t
        ∧ (∃ r', t.zone? z = some r' ∧ r'.account =
            { dose := if d ≤ 1099511627775 then d else 1099511627775, residue := 0, openSeconds := q,
              season := r.account.season, lastSample := r.account.lastSample, saturated := decide (1099511627775 < d) }
          ∧ r'.marks = (if 1099511627775 ≤ d ∧ Mark.saturated ∉ r.marks then r.marks ++ [.saturated] else r.marks)
          ∧ r' = { r with account := r'.account, marks := r'.marks, light := { r.light with
              spent := r.account.season.any fun x => decide ((x.allowance * 3600 : Int) - r'.account.dose ≤ 0) } })
        ∧ MarkSetsOffered s t z (newMarks r.marks [(.saturated, decide (1099511627775 ≤ d))])
        ∧ (∀ k, k ≠ z → t.zone? k = s.zone? k)
        ∧ t = { s with zones := t.zones, notices := t.notices, alarm := t.alarm, pulsing := t.pulsing }

/-- R22 to R27, R15: a light sample whose timer has expired: the elapsed time, the inputs, the weight, the residue, the used
dose with its limit, and the open seconds, after the resolution of the LIGHT channel; the marks BLIND_LIGHT and SATURATED are
added where their conditions hold and they are not set, each with its MARK SET notice, and no other mark changes; nothing else
of the zone changes, and no other zone. -/
def Obligations.LightSampleIntegrates : Prop :=
  ∀ (s : State) (z : Nat) (r : Zone), s.running = true → s.zone? z = some r → r.sampleDue ≤ s.now →
    ∃ t r' m e u dt w, Happens (.lightSample z) s t ∧ t.zone? z = some r'
      ∧ m = r.measure.resolveLight s.now
          (freshMean (s.boundTo r.measure.bindings .light) s.now (·.illuminance))
          (freshMean (s.boundTo r.measure.bindings .light) s.now (·.uvRatio))
      ∧ (r.account.lastSample = none → dt = 10)
      ∧ (∀ v, r.account.lastSample = some v → s.clock < v → dt = 10)
      ∧ (∀ v, r.account.lastSample = some v → v ≤ s.clock → s.clock - v ≤ 60 → dt = s.clock - v)
      ∧ (∀ v, r.account.lastSample = some v → 60 < s.clock - v → dt = 60)
      ∧ (∀ v, m.light.blind = false → m.illuminance = some v → e = v ∧ u = m.uvRatio.getD r.defn.uvRef)
      ∧ ((m.light.blind = true ∨ m.illuminance = none) →
          e = (if r.isOpen then r.defn.ceiling else 0) ∧ u = r.defn.uvRef)
      ∧ w = min 4096 (1024 + (u - r.defn.uvRef) * 1024 / r.defn.uvRef)
      ∧ r'.account =
        { dose := min 1099511627775 (r.account.dose + (e * dt * w + r.account.residue) / 1024)
          residue := (e * dt * w + r.account.residue) % 1024
          openSeconds := if r.isOpen then min 4294967295 (r.account.openSeconds + dt) else r.account.openSeconds
          season := r.account.season, lastSample := some s.clock
          saturated := r.account.saturated
            || decide (1099511627775 < r.account.dose + (e * dt * w + r.account.residue) / 1024) }
      ∧ r'.sampleDue = r.sampleDue + 10
      ∧ r'.marks = r.marks ++ newMarks r.marks
          [(.blindLight, m.light.blind), (.saturated, decide (r'.account.dose = 1099511627775))]
      ∧ MarkSetsOffered s t z (newMarks r.marks
          [(.blindLight, m.light.blind), (.saturated, decide (r'.account.dose = 1099511627775))])
      ∧ r' = { r with sampleDue := r'.sampleDue, account := r'.account, measure := m, marks := r'.marks }
      ∧ (∀ k, k ≠ z → t.zone? k = s.zone? k)
      ∧ t = { s with zones := t.zones, notices := t.notices, alarm := t.alarm, pulsing := t.pulsing }

/-- R25: over any run of samples that does not reach the limit of the dose, the increments add up to the sum of the products
divided by 1024, with the final residue as the remainder. -/
def Obligations.SamplesLoseNothing : Prop :=
  ∀ (a : Account) (xs : List SampleInput), (a.sampledAll xs).dose < 1099511627775 →
    1024 * (a.sampledAll xs).dose + (a.sampledAll xs).residue = 1024 * a.dose + a.residue + a.products xs

/-- R20: a used dose decreases only through SEASON BEGIN, ACCOUNT ADJUST and start: with any command that begins no start and
finds neither request at hand, from any state whose accounts lie in their ranges, every defined zone stays defined with a dose at
least as great. The requests at hand are those that the command may have taken up: the one that arrives with it, and those that
wait in the intake. -/
def Obligations.DoseDecreasesOnlyThrough : Prop :=
  ∀ (c : Instr) (s t : State) (z : Nat) (r : Zone), s.accountsInRange → exec c s = .next t → s.zone? z = some r →
    s.restarting = none → (∀ f ∈ atHand c s, f.kind ≠ 0x0A ∧ f.kind ≠ 0x0D) →
    (∀ sense, c ≠ .powerOn sense) → (∀ sense, c ≠ .resetInputRelease sense) →
    ∃ r', t.zone? z = some r' ∧ r.account.dose ≤ r'.account.dose

/-- R20: every step keeps every account in its ranges, in the zones and in the store. -/
def Obligations.AccountsStayInRange : Prop :=
  ∀ s t : State, s.accountsInRange → step s = .next t → t.accountsInRange

/-! ## Light -/

/-- R39 to R42: target, permitted level and condition of a review. Without a season they are ceiling, ceiling and FREE. With one,
from the remaining allowance R and the remaining open time T: where R is 0 or less, floor, 0 and EXHAUSTED under VISIBILITY, and
0, 0 and DARK under BUDGET; else the permitted level is R / T rounded down, and the rows of R42 give the target and the condition,
DARK at target 0 under BUDGET. The target lies in 0..C, under VISIBILITY with a season present in F..C. -/
def Obligations.ReviewTargetRange : Prop :=
  ∀ (d : Definition) (a : Account),
    (a.season = none → budget d a = (d.ceiling, d.ceiling, .free))
    ∧ (∀ (x : Season) (R T : Int), a.season = some x → R = x.allowance * 3600 - a.dose →
      T = max 3600 ((x.plannedHours : Int) * 3600 - a.openSeconds) →
      (R ≤ 0 → d.policy = .visibility → budget d a = (d.floor, 0, .exhausted))
      ∧ (R ≤ 0 → d.policy = .budget → budget d a = (0, 0, .dark))
      ∧ (0 < R → ∃ p : Nat, p * T ≤ R ∧ R < (p + 1) * T
        ∧ (d.policy = .visibility → d.floor ≤ p → budget d a = (min p d.ceiling, p, .within))
        ∧ (d.policy = .visibility → p < d.floor → budget d a = (d.floor, p, .pressure))
        ∧ (d.policy = .budget → d.floor ≤ p →
          budget d a = (min p d.ceiling, p, if min p d.ceiling = 0 then .dark else .within))
        ∧ (d.policy = .budget → p < d.floor → budget d a = (p, p, if p = 0 then .dark else .restricted))))
    ∧ (d.floor ≤ d.ceiling → (budget d a).1 ≤ d.ceiling
      ∧ (d.policy = .visibility → a.season ≠ none → d.floor ≤ (budget d a).1))

/-- R37 to R48, R15, R141: a light review whose timer has expired: target, permitted level and condition; the marks LIGHT_PRESSURE and
EXHAUSTED, added where their conditions hold and they are not set, each with its MARK SET notice; effective limit and clamp; the
step, by the error and the dead band; and the dimmer command. -/
def Obligations.LightReviewGoverns : Prop :=
  ∀ (s : State) (z : Nat) (r : Zone), s.running = true → s.zone? z = some r → r.reviewDue ≤ s.now →
    ∃ t r' limit dim, Happens (.lightReview z) s t ∧ t.zone? z = some r'
      ∧ (r'.light.target, r'.light.permitted, r'.light.condition) = budget r.defn r.account
      ∧ limit = (if r.climate.temp = .outHigh then r.defn.electricLimit * r.defn.derate / 100 else r.defn.electricLimit)
      ∧ r'.light.electricLimit = limit ∧ dim = min r.light.dimmer limit
      ∧ (r.isOpen = false ∨ r'.light.condition = .dark → r'.light.dimmer = 0 ∧ r'.light.louvre = 100)
      ∧ (r.isOpen = true → r'.light.condition ≠ .dark → (r.measure.light.blind = true ∨ r.measure.illuminance = none) →
          r'.light.dimmer = dim ∧ r'.light.louvre = (if r.defn.banks = [] then 100 else r.light.louvre))
      ∧ (∀ em db, r.isOpen = true → r'.light.condition ≠ .dark → r.measure.light.blind = false →
          r.measure.illuminance = some em → db = max 5 (r'.light.target / 10) →
          ((em : Int) - r'.light.target > db →
            (0 < dim → r'.light.dimmer = dim - 10 ∧ (r.defn.banks ≠ [] → r'.light.louvre = r.light.louvre))
            ∧ (dim = 0 → r'.light.dimmer = 0 ∧ (r.defn.banks ≠ [] → r'.light.louvre = min 100 (r.light.louvre + 10))))
          ∧ ((em : Int) - r'.light.target ≤ db → -(db : Int) ≤ (em : Int) - r'.light.target →
            r'.light.dimmer = dim ∧ (r.defn.banks ≠ [] → r'.light.louvre = r.light.louvre))
          ∧ ((em : Int) - r'.light.target < -(db : Int) →
            (r.defn.banks ≠ [] → 0 < r.light.louvre → r.measure.uvRatio.getD r.defn.uvRef ≤ r.defn.uvRef →
              r'.light.dimmer = dim ∧ r'.light.louvre = r.light.louvre - 10)
            ∧ ((r.defn.banks = [] ∨ r.light.louvre = 0 ∨ r.defn.uvRef < r.measure.uvRatio.getD r.defn.uvRef) →
              r'.light.dimmer = (if dim < limit then min limit (dim + 10) else dim)
              ∧ (r.defn.banks ≠ [] → r'.light.louvre = r.light.louvre)))
          ∧ (r.defn.banks = [] → r'.light.louvre = 100))
      ∧ r'.reviewDue = r.reviewDue + 60
      ∧ (∃ new, new = newMarks r.marks
            [(.lightPressure, decide (r'.light.condition = .pressure ∨ r'.light.condition = .restricted)),
             (.exhausted, r.account.season.any fun x => decide ((x.allowance * 3600 : Int) - r.account.dose ≤ 0))]
          ∧ r'.marks = r.marks ++ new ∧ MarkSetsOffered s t z new)
      ∧ r' = { r with reviewDue := r'.reviewDue, light := r'.light, marks := r'.marks }
      ∧ (∀ k, k ≠ z → t.zone? k = s.zone? k)
      ∧ t = { s with zones := t.zones, lines := t.lines, notices := t.notices, alarm := t.alarm, pulsing := t.pulsing }
      ∧ ((r.defn.dimmer = none ∨ (r'.light.dimmer = r.light.dimmer ∧ r.light.refreshOwed = false)) →
          t.lines = s.lines ∧ r'.light.refreshOwed = false)
      ∧ ∀ d l, r.defn.dimmer = some d → (r'.light.dimmer ≠ r.light.dimmer ∨ r.light.refreshOwed = true) →
          s.line? d.line = some l →
          (l.state.takesCommands = true → r'.light.refreshOwed = false
            ∧ t.lines = slotSet s.lines d.line
                { l with queue := enqueueCommand ⟨d.address, r'.light.dimmer, .governor z⟩ l.queue })
          ∧ (l.state.takesCommands = false → r'.light.refreshOwed = true ∧ t.lines = s.lines)

/-! ## Lantern banks -/

/-- R51, R55, R141: BANK DEFINE that passes its checks, on a line that takes commands and on one that takes none, where the command
fails at once and the bank is FAULTED; and its refusals, the first check that fails giving the status.
That in the request a presence byte stands before the slew alone is the model's reading, log entry 6. -/
def Obligations.BankDefineCloses : Prop :=
  (∀ (s : State) (tag : Byte) (b : Nat) (d : DeviceAddr) (e : Device) (l : Line) (slew : Option Nat),
    validBank b = true → d.inRange = true → (∀ v ∈ slew, 1 ≤ v ∧ v ≤ 50) → s.device? d = some e → e.kind = .louvre →
    (∀ k r, k ≠ b → s.bank? k = some r → r.louvre ≠ d) → s.line? d.line = some l →
    TakenUp (.bankDefine tag (be 1 b ++ be 1 d.line ++ be 1 d.address ++ optional (be 1) slew)) s →
    ∃ t state, Answers (.bankDefine tag (be 1 b ++ be 1 d.line ++ be 1 d.address ++ optional (be 1) slew)) s .done [] t
      ∧ (s.bank? b = none → t.bank? b = some ⟨state, d, slew.getD 10, 0, 100, s.now + 30⟩)
      ∧ (∀ r, s.bank? b = some r → t.bank? b = some ⟨state, d, slew.getD 10, r.target, 100, r.stepDue⟩)
      ∧ (l.state.takesCommands = true → state = .active ∧ t.lines = slotSet s.lines d.line
          { l with queue := enqueueCommand ⟨d.address, 100, .bank b⟩ l.queue })
      ∧ (l.state.takesCommands = false → state = .faulted ∧ t.lines = s.lines)
      ∧ (∀ k, k ≠ b → t.bank? k = s.bank? k)
      ∧ t = { s with
        banks := t.banks
        configChanged := s.configChanged
          || decide ((s.bank? b).map (fun r => (r.louvre, r.slew)) ≠ some (d, slew.getD 10))
        lines := t.lines })
  ∧ ∀ (s : State) (tag : Byte) (b : Nat) (d : DeviceAddr) (slew : Option Nat), b < 256 → d.fits → (∀ v ∈ slew, v < 256) →
    TakenUp (.bankDefine tag (be 1 b ++ be 1 d.line ++ be 1 d.address ++ optional (be 1) slew)) s →
    ((b < 1 ∨ 8 < b ∨ d.line < 1 ∨ 2 < d.line ∨ d.address < 1 ∨ 126 < d.address ∨ ∃ v, slew = some v ∧ (v < 1 ∨ 50 < v)) →
      Answers (.bankDefine tag (be 1 b ++ be 1 d.line ++ be 1 d.address ++ optional (be 1) slew)) s .range [] s)
    ∧ (validBank b = true → d.inRange = true → (∀ v ∈ slew, 1 ≤ v ∧ v ≤ 50) →
      (s.device? d = none →
        Answers (.bankDefine tag (be 1 b ++ be 1 d.line ++ be 1 d.address ++ optional (be 1) slew)) s .noSuch [] s)
      ∧ ∀ e, s.device? d = some e → (e.kind ≠ .louvre ∨ ∃ k r, k ≠ b ∧ s.bank? k = some r ∧ r.louvre = d) →
        Answers (.bankDefine tag (be 1 b ++ be 1 d.line ++ be 1 d.address ++ optional (be 1) slew)) s .conflict [] s)

/-- R53, R54: a bank step whose timer has expired: the target is the largest louvre demand among the zones that name the bank,
and the commanded closure moves toward it by at most the slew; a command is placed exactly where it moved. -/
def Obligations.BankStepFollowsDemands : Prop :=
  ∀ (s : State) (b : Nat) (r : Bank), s.running = true → s.bank? b = some r → r.stepDue ≤ s.now →
    ∃ t r', Happens (.bankStep b) s t ∧ t.bank? b = some r'
      ∧ (∀ z x, s.zone? z = some x → b ∈ x.defn.banks → x.light.louvre ≤ r'.target)
      ∧ (r'.target = 0 ∨ ∃ z x, s.zone? z = some x ∧ b ∈ x.defn.banks ∧ x.light.louvre = r'.target)
      ∧ (r'.target < r.commanded → r'.commanded = max r'.target (r.commanded - r.slew))
      ∧ (r.commanded < r'.target → r'.commanded = min r'.target (r.commanded + r.slew))
      ∧ (r.commanded = r'.target → r'.commanded = r.commanded)
      ∧ r'.commanded ≤ r.commanded + r.slew ∧ r.commanded ≤ r'.commanded + r.slew
      ∧ r'.louvre = r.louvre ∧ r'.slew = r.slew ∧ r'.stepDue = r.stepDue + 30
      ∧ (∀ k, k ≠ b → t.bank? k = s.bank? k) ∧ t = { s with banks := t.banks, lines := t.lines }
      ∧ (r'.commanded = r.commanded → t.lines = s.lines ∧ r'.state = r.state)
      ∧ ∀ l, r'.commanded ≠ r.commanded → s.line? r.louvre.line = some l →
          (l.state.takesCommands = true → r'.state = r.state ∧ t.lines = slotSet s.lines r.louvre.line
            { l with queue := enqueueCommand ⟨r.louvre.address, r'.commanded, .bank b⟩ l.queue })
          ∧ (l.state.takesCommands = false → t.lines = s.lines ∧ r'.state = .faulted)

/-! ## Actuator commands -/

/-- R141, R142: a command placed on a line that takes commands is queued, in the place of a queued command for the same
actuator or at the end; on a DISABLED or OFF line nothing is queued, and the failure reaches the issuer that still names the
device: the governor owes a refresh, the bank and the plant are FAULTED, the zone's trim is unavailable. -/
def Obligations.PlacedCommandsQueueOrFail : Prop :=
  ∀ (s : State) (d : DeviceAddr) (v : Nat) (i : Issuer) (l : Line), s.line? d.line = some l →
    (l.state.takesCommands = true →
      s.place d v i = { s with lines := slotSet s.lines d.line { l with queue := enqueueCommand ⟨d.address, v, i⟩ l.queue } }
      ∧ (∀ pre x post, l.queue = pre ++ x :: post → x.address = d.address → (l.queue.map (·.address)).Nodup →
          enqueueCommand ⟨d.address, v, i⟩ l.queue = pre ++ ⟨d.address, v, i⟩ :: post)
      ∧ ((∀ x ∈ l.queue, x.address ≠ d.address) →
          enqueueCommand ⟨d.address, v, i⟩ l.queue = l.queue ++ [⟨d.address, v, i⟩]))
    ∧ (l.state.takesCommands = false →
      (s.place d v i).lines = s.lines ∧ (s.place d v i).devices = s.devices
      ∧ (s.issuerNames i d = false → s.place d v i = s)
      ∧ (∀ z r, i = .governor z → s.zone? z = some r → r.defn.dimmer = some d →
          s.place d v i = s.putZone z { r with light := { r.light with refreshOwed := true } })
      ∧ (∀ b r, i = .bank b → s.bank? b = some r → r.louvre = d →
          s.place d v i = s.putBank b { r with state := .faulted })
      ∧ (∀ z r, i = .tracker z → s.zone? z = some r → r.defn.trim = some d → r.climate.trimUnavailable = false →
          s.place d v i = s.putZone z { r with climate :=
            { r.climate with trimUnavailable := true, offOwed := true, pulse := none } })
      ∧ (∀ p r, i = .arbiter p → s.plant? p = some r → r.controller = d → r.state ≠ .faulted →
          ∃ r', (s.place d v i).plant? p = some r' ∧ r'.state = .faulted ∧ r'.service = [] ∧ r'.serviceLevel = 0
            ∧ (∀ x, x ∈ r'.waiting ↔ x ∈ r.service ∨ x ∈ r.waiting) ∧ r'.minRunDue = none ∧ r'.changeDue = none
            ∧ r'.physical = r.physical ∧ r'.commanded = r.commanded ∧ r'.target = r.target))

/-- R141: every step keeps at most one command for each actuator in the queue of its line. -/
def Obligations.QueuesStayCoalesced : Prop :=
  ∀ s t : State, s.queuesCoalesced → step s = .next t → t.queuesCoalesced

/-! ## Plants -/

/-- R97, R98: PLANT DEFINE of an UNSET plant whose controller's line takes commands; naming the device the plant already names;
naming another device; and the refusals, the first check that fails giving the status. With another device NEUTRAL goes to the
old and to the new controller, every demand waits, both duties are NEUTRAL, and a selection is made, in whatever state the plant
was.
Where the line of the new controller takes no command, that the failure is returned after the selection is the model's reading,
log entry 23. -/
def Obligations.PlantDefineCreates : Prop :=
  (∀ (s : State) (tag : Byte) (p : Nat) (d : DeviceAddr) (e : Device), validPlant p = true → d.inRange = true →
    s.device? d = some e → e.kind = .plantController →
    (∀ k r, k ≠ p → s.plant? k = some r → r.controller ≠ d) →
    TakenUp (.plantDefine tag (be 1 p ++ be 1 d.line ++ be 1 d.address)) s →
    (∀ l, s.plant? p = none → s.line? d.line = some l → l.state.takesCommands = true →
      Answers (.plantDefine tag (be 1 p ++ be 1 d.line ++ be 1 d.address)) s .done []
        { s with
          plants := slotSet s.plants p (some
            { state := .idle, controller := d, physical := .neutral, commanded := .neutral, target := .neutral,
              service := [], waiting := [], serviceLevel := 0, arrivals := 0, minRunDue := none, minRunElapsed := false,
              changeDue := none, changeExpired := false, changeAcked := false })
          lines := slotSet s.lines d.line { l with queue := enqueueCommand ⟨d.address, 0, .arbiter p⟩ l.queue }
          configChanged := true })
    ∧ (∀ r, s.plant? p = some r → r.controller = d →
      Answers (.plantDefine tag (be 1 p ++ be 1 d.line ++ be 1 d.address)) s .done [] s)
    ∧ ∀ r l all, s.plant? p = some r → r.controller ≠ d → s.line? d.line = some l → all = r.returnService.waiting →
      (∀ x, x ∈ all ↔ x ∈ r.demands)
      ∧ (r.settled → all.Pairwise fun a b => b.precedes a = false)
      ∧ ∃ t r' neutral, Answers (.plantDefine tag (be 1 p ++ be 1 d.line ++ be 1 d.address)) s .done [] t
        ∧ t.plant? p = some r' ∧ r'.controller = d ∧ r'.physical = .neutral ∧ r'.arrivals = r.arrivals
        ∧ r'.minRunDue = none ∧ r'.minRunElapsed = false ∧ r'.changeExpired = false ∧ r'.changeAcked = false
        ∧ (∀ k, k ≠ p → t.plant? k = s.plant? k)
        ∧ neutral = placedOn (placedOn s.lines r.controller 0 (.arbiter p)) d 0 (.arbiter p)
        ∧ (all = [] → r'.target = .neutral ∧ r'.commanded = .neutral ∧ r'.service = [] ∧ r'.waiting = []
          ∧ r'.changeDue = none ∧ t.lines = neutral ∧ r'.state = if l.state.takesCommands then .idle else .faulted)
        ∧ (∀ h rest, all = h :: rest → h.duty ≠ .neutral → r'.target = h.duty ∧ r'.commanded = h.duty
          ∧ t.lines = placedOn neutral d h.duty.code (.arbiter p)
          ∧ (l.state.takesCommands = true → r'.state = .changeover ∧ r'.changeDue = some (s.now + 120)
            ∧ r'.service = all.filter (fun x => x.duty == h.duty) ∧ r'.waiting = all.filter (fun x => x.duty != h.duty)
            ∧ r'.serviceLevel = topLevel r'.service)
          ∧ (l.state.takesCommands = false → r'.state = .faulted ∧ r'.changeDue = none ∧ r'.service = []
            ∧ r'.serviceLevel = 0 ∧ ∀ x, x ∈ r'.waiting ↔ x ∈ r.demands))
        ∧ ((∀ h rest, all = h :: rest → h.duty ≠ .neutral) →
          t.notices = (if l.state.takesCommands then s.notices
            else s.afterOffers [(.plantFault .commandFailed r'.target, .plant p)])
          ∧ (s.report.mode = .level → t.alarm = t.alarmCondition)
          ∧ t = { s with plants := t.plants, lines := t.lines, notices := t.notices, alarm := t.alarm
                         pulsing := t.pulsing, configChanged := true }))
  ∧ ∀ (s : State) (tag : Byte) (p : Nat) (d : DeviceAddr), p < 256 → d.fits →
    TakenUp (.plantDefine tag (be 1 p ++ be 1 d.line ++ be 1 d.address)) s →
    ((p < 1 ∨ 2 < p ∨ d.line < 1 ∨ 2 < d.line ∨ d.address < 1 ∨ 126 < d.address) →
      Answers (.plantDefine tag (be 1 p ++ be 1 d.line ++ be 1 d.address)) s .range [] s)
    ∧ (validPlant p = true → d.inRange = true →
      (s.device? d = none → Answers (.plantDefine tag (be 1 p ++ be 1 d.line ++ be 1 d.address)) s .noSuch [] s)
      ∧ ∀ e, s.device? d = some e →
        (e.kind ≠ .plantController ∨ ∃ k r, k ≠ p ∧ s.plant? k = some r ∧ r.controller = d) →
        Answers (.plantDefine tag (be 1 p ++ be 1 d.line ++ be 1 d.address)) s .conflict [] s)

/-- R99: PLANT HOLD of a plant that is not FAULTED, its controller's line taking commands; of a FAULTED or UNSET plant; and with a
plant number outside 1..2 or a duty outside the five. -/
def Obligations.PlantHoldHolds : Prop :=
  (∀ (s : State) (tag : Byte) (p : Nat) (duty : Duty), validPlant p = true →
    TakenUp (.plantHold tag (be 1 p ++ be 1 duty.code)) s →
    (∀ r l, s.plant? p = some r → r.state ≠ .faulted → s.line? r.controller.line = some l →
      l.state.takesCommands = true →
      ∃ t r', Answers (.plantHold tag (be 1 p ++ be 1 duty.code)) s .done [] t ∧ t.plant? p = some r'
        ∧ r' = { r with state := .held, target := duty, commanded := duty, service := [], serviceLevel := 0,
                        waiting := r'.waiting, minRunDue := none, minRunElapsed := false, changeDue := none,
                        changeExpired := false, changeAcked := false }
        ∧ (∀ x, x ∈ r'.waiting ↔ x ∈ r.service ∨ x ∈ r.waiting)
        ∧ (∀ k, k ≠ p → t.plant? k = s.plant? k)
        ∧ t = { s with
          plants := t.plants
          lines := slotSet s.lines r.controller.line
            { l with queue := enqueueCommand ⟨r.controller.address, duty.code, .arbiter p⟩ l.queue } })
    ∧ ((s.plant? p = none ∨ ∃ r, s.plant? p = some r ∧ r.state = .faulted) →
      Answers (.plantHold tag (be 1 p ++ be 1 duty.code)) s .state [] s))
  ∧ ∀ (s : State) (tag p duty : Byte), (p.toNat < 1 ∨ 2 < p.toNat ∨ 4 < duty.toNat) → TakenUp (.plantHold tag [p, duty]) s →
    Answers (.plantHold tag [p, duty]) s .range [] s

/-- R100, R85, R86, R92, R75: PLANT RELEASE of a number outside 1..2, of a plant that is not HELD, and of a HELD plant by a
selection, on whatever line its controller is; and with that line taking commands: with nothing waiting the plant is IDLE, with
NEUTRAL placed unless physical and commanded duty are NEUTRAL already; else every demand of the head's duty is served, RUNNING with
PLANT DUTY where the plant is physically in that duty, and else in CHANGEOVER toward it with its duty command placed. And every
selection, wherever a rule calls for one, does what R85 says.
The order of the zones that service begins reaches, and of a fault within entering RUNNING, are the model's: log entries 31, 40. -/
def Obligations.PlantReleaseSelects : Prop :=
  (∀ (s : State) (tag p : Byte), validPlant p.toNat = true → TakenUp (.plantRelease tag [p]) s →
    ((∀ r, s.plant? p.toNat = some r → r.state ≠ .held) → Answers (.plantRelease tag [p]) s .state [] s)
    ∧ ∀ r, s.plant? p.toNat = some r → r.state = .held →
      ∃ t, Answers (.plantRelease tag [p]) s .done [] t ∧ Selects s t p.toNat
        ∧ ∀ l, r.service = [] → s.line? r.controller.line = some l → l.state.takesCommands = true →
        ∃ r', t.plant? p.toNat = some r'
        ∧ r'.controller = r.controller ∧ r'.physical = r.physical ∧ r'.arrivals = r.arrivals
        ∧ (∀ k, k ≠ p.toNat → t.plant? k = s.plant? k) ∧ t.devices = s.devices ∧ t.banks = s.banks ∧ t.clock = s.clock
        ∧ (r.waiting = [] → r'.state = .idle ∧ r'.target = .neutral ∧ r'.service = [] ∧ r'.serviceLevel = 0
          ∧ r'.commanded = .neutral ∧ t.notices = s.notices ∧ t.zones = s.zones
          ∧ (r.physical = .neutral → r.commanded = .neutral → t.lines = s.lines)
          ∧ ((r.physical ≠ .neutral ∨ r.commanded ≠ .neutral) →
            t.lines = placedOn s.lines r.controller 0 (.arbiter p.toNat)))
        ∧ ∀ h rest, r.waiting = h :: rest →
          r'.target = h.duty ∧ r'.commanded = h.duty
          ∧ r'.service = r.waiting.filter (fun d => d.duty == h.duty)
          ∧ r'.waiting = r.waiting.filter (fun d => d.duty != h.duty)
          ∧ r'.serviceLevel = topLevel r'.service
          ∧ (r.physical = h.duty → r'.state = .running ∧ r'.minRunDue = some (s.now + 600) ∧ r'.minRunElapsed = false
              ∧ t.notices = s.afterOffers
                [(.plantDuty h.duty r'.serviceLevel r'.service.length, .plant p.toNat)]
              ∧ ((∀ d x, d ∈ r'.service → s.zone? d.zone = some x → x.climate.pulse = none) → t.zones = s.zones
                ∧ t.lines = if r.commanded = h.duty then s.lines
                  else placedOn s.lines r.controller h.duty.code (.arbiter p.toNat)))
          ∧ (r.physical ≠ h.duty → r'.state = .changeover ∧ r'.changeDue = some (s.now + 120)
              ∧ r'.changeExpired = false ∧ r'.changeAcked = false ∧ t.notices = s.notices ∧ t.zones = s.zones
              ∧ t.lines = placedOn s.lines r.controller h.duty.code (.arbiter p.toNat)))
  ∧ (∀ (s : State) (tag p : Byte), (p.toNat < 1 ∨ 2 < p.toNat) → TakenUp (.plantRelease tag [p]) s →
    Answers (.plantRelease tag [p]) s .range [] s)
  ∧ ∀ (s : State) (p : Nat), Selects s (s.select p) p

/-- R90 to R93, R86, R75: the expiry of the minimum run, with its preemption, and of a changeover, with its completion by RUNNING or,
with nothing to serve, by a selection; and R83, R87 to R90: what a raise, an update and a withdrawal do to a plant, with the
preemption test, and the renumbering of the arrivals by a raise that finds the counter at its end. The completion of a changeover
by the acknowledgement is `DutyTaken`, in the statement of R94; what a selection does is stated with PLANT RELEASE.
The order of the zones that service begins reaches, and of a fault within entering RUNNING, are the model's: log entries 31, 40. -/
def Obligations.PlantTimersExpire : Prop :=
  (∀ (s : State) (p : Nat) (r : Plant) (due : Nat), s.running = true → s.plant? p = some r → due ≤ s.now →
    (r.state = .running → r.minRunDue = some due →
      (∀ h, r.waiting.head? = some h → h.level ≤ r.serviceLevel) →
      Happens (.minimumRunExpiry p) s (s.putPlant p { r with minRunElapsed := true, minRunDue := none }))
    ∧ (r.state = .running → r.minRunDue = some due → (∃ h, r.waiting.head? = some h ∧ r.serviceLevel < h.level) →
      Happens (.minimumRunExpiry p) s
        ((s.putPlant p ({ r with minRunElapsed := true, minRunDue := none } : Plant).returnService).select p))
    ∧ (r.state = .running → r.minRunDue = some due → r.settled → r.serviceRight →
      (∃ h, r.waiting.head? = some h ∧ r.serviceLevel < h.level) →
      ∃ t r' h, Happens (.minimumRunExpiry p) s t ∧ t.plant? p = some r' ∧ r.waiting.head? = some h
        ∧ r'.target = h.duty ∧ r'.target ≠ r.target ∧ r'.physical = r.physical
        ∧ (∀ x, x ∈ r.service → x ∈ r'.waiting) ∧ r'.minRunElapsed = false)
    ∧ (r.state = .changeover → r.changeDue = some due → r.changeAcked = false →
      Happens (.changeoverTimerExpiry p) s (s.putPlant p { r with changeExpired := true, changeDue := none }))
    ∧ ∀ v, v = s.putPlant p { r with
          minRunDue := none, minRunElapsed := false, changeDue := none, changeExpired := false, changeAcked := false } →
      r.state = .changeover → r.changeDue = some due → r.changeAcked = true →
      (r.service ≠ [] → ∃ t, Happens (.changeoverTimerExpiry p) s t ∧ RunningEntered v t p)
      ∧ (r.service = [] →
      ∃ t r', Happens (.changeoverTimerExpiry p) s t ∧ Selects v t p ∧ t.plant? p = some r' ∧ r'.physical = r.physical
        ∧ r'.controller = r.controller ∧ r'.arrivals = r.arrivals ∧ (∀ k, k ≠ p → t.plant? k = s.plant? k)
        ∧ (r.waiting = [] → r'.target = .neutral ∧ r'.serviceLevel = 0 ∧ r'.changeDue = none
          ∧ (r.physical = .neutral → r.commanded = .neutral → r'.state = .idle ∧ t.lines = s.lines)
          ∧ ((r.physical ≠ .neutral ∨ r.commanded ≠ .neutral) → r'.commanded = .neutral
            ∧ t.lines = placedOn s.lines r.controller 0 (.arbiter p)))
        ∧ ∀ h rest, r.waiting = h :: rest → r'.target = h.duty
          ∧ (r.physical ≠ h.duty → r'.commanded = h.duty
            ∧ t.lines = placedOn s.lines r.controller h.duty.code (.arbiter p)
            ∧ ∀ l, s.line? r.controller.line = some l → l.state.takesCommands = true →
              r'.state = .changeover ∧ r'.changeDue = some (s.now + 120) ∧ r'.changeExpired = false
              ∧ r'.changeAcked = false ∧ r'.service = r.waiting.filter (fun x => x.duty == h.duty))))
  ∧ ∀ (s : State) (p z : Nat) (r : Plant), s.plant? p = some r →
    (∃ q : Plant, r.Numbered q
      ∧ (r.waiting.Pairwise (fun a b => b.precedes a = false) → q.waiting.Pairwise fun a b => b.precedes a = false)
      ∧ ∀ (duty : Duty) (level : Nat) (d : Demand) (joined waits : Plant),
      d = ⟨z, duty, level, q.arrivals + 1⟩ →
      joined = { q with arrivals := q.arrivals + 1, service := insertDemand d q.service
                        serviceLevel := max level (topLevel q.service) } →
      waits = { q with arrivals := q.arrivals + 1, waiting := insertDemand d q.waiting } →
      (∀ xs : List Demand, xs.Pairwise (fun a b => b.precedes a = false) →
        (insertDemand d xs).Pairwise fun a b => b.precedes a = false)
      ∧ (∀ xs x, x ∈ insertDemand d xs ↔ x = d ∨ x ∈ xs)
      ∧ (r.state = .idle → s.raise p z duty level = (s.putPlant p waits).select p)
      ∧ (r.state = .changeover → duty = r.target → s.raise p z duty level = s.putPlant p joined)
      ∧ (r.state = .running → duty = r.target → s.raise p z duty level = (s.putPlant p joined).serviceBegins z)
      ∧ ((r.state = .held ∨ r.state = .faulted ∨ (r.state = .changeover ∧ duty ≠ r.target)) →
        s.raise p z duty level = s.putPlant p waits)
      ∧ (r.state = .running → duty ≠ r.target →
        ((r.minRunElapsed = false ∨ ∀ h, waits.waiting.head? = some h → h.level ≤ r.serviceLevel) →
          s.raise p z duty level = s.putPlant p waits)
        ∧ (∀ h, r.minRunElapsed = true → waits.waiting.head? = some h → r.serviceLevel < h.level →
          s.raise p z duty level = (s.putPlant p waits.returnService).select p)))
    ∧ (∀ level : Nat, ∃ u : Plant,
      u = { r with service := u.service, waiting := u.waiting, serviceLevel := topLevel u.service }
      ∧ (∀ x, x ∈ u.service ↔ ∃ y ∈ r.service, x = if y.zone = z then { y with level := level } else y)
      ∧ (∀ x, x ∈ u.waiting ↔ ∃ y ∈ r.waiting, x = if y.zone = z then { y with level := level } else y)
      ∧ (r.waiting.Pairwise (fun a b => b.precedes a = false) → u.waiting.Pairwise fun a b => b.precedes a = false)
      ∧ ((r.state ≠ .running ∨ r.minRunElapsed = false ∨ ∀ h, u.waiting.head? = some h → h.level ≤ u.serviceLevel) →
        s.update p z level = s.putPlant p u)
      ∧ ∀ h, r.state = .running → r.minRunElapsed = true → u.waiting.head? = some h → u.serviceLevel < h.level →
        s.update p z level = (s.putPlant p u.returnService).select p)
    ∧ ∀ u : Plant, u = { r with
          service := r.service.filter fun x => decide (x.zone ≠ z), waiting := r.waiting.filter fun x => decide (x.zone ≠ z)
          serviceLevel := topLevel (r.service.filter fun x => decide (x.zone ≠ z)) } →
      ((r.state ≠ .running ∨ ∀ x ∈ r.service, x.zone ≠ z) → s.withdraw p z = s.putPlant p u)
      ∧ (r.state = .running → (∃ x ∈ r.service, x.zone = z) →
        (u.service = [] → s.withdraw p z = (s.putPlant p u).select p)
        ∧ (u.service ≠ [] → (r.minRunElapsed = false ∨ ∀ h, u.waiting.head? = some h → h.level ≤ u.serviceLevel) →
          s.withdraw p z = s.putPlant p u)
        ∧ ∀ h, u.service ≠ [] → r.minRunElapsed = true → u.waiting.head? = some h → u.serviceLevel < h.level →
          s.withdraw p z = (s.putPlant p u.returnService).select p)

/-- R84, R83, R90: every step keeps the service sets, the pending lists and the preemption rule of the plants. -/
def Obligations.PlantsStayRight : Prop :=
  ∀ s t : State, s.plantsRight → step s = .next t → t.plantsRight

/-- R83, R59: every step keeps the zones and the plants in agreement on their demands: a zone appears at most once in the lists
of the plants, and then at the plant its definition names. -/
def Obligations.DemandsStayAgreed : Prop :=
  ∀ s t : State, s.demandsAgree → s.plantsRight → step s = .next t → t.demandsAgree

/-! ## Climate -/

/-- R62 to R66, R70, R76 to R79: a climate review whose timer has expired. A channel that is BLIND after resolution ends it with
the mark BLIND_CLIMATE. Else the bucket takes the values, both quantities are classified, the swing is the largest maximum less
the smallest minimum over its window; trim acts (R71, R73, stated beside the end of a pulse); the demand decision brings the
demand in place into agreement with the chosen need; and the four marks are evaluated. What a raise, an update and a withdrawal
do to the plant is stated with the plants.
That a pulse whose command fails at once, on a trim line that takes no command, has ended before the demand decision reads it is the
model's reading: log entry 31. -/
def Obligations.ClimateReviewTracks : Prop :=
  (∀ (s : State) (z : Nat) (r : Zone), s.running = true → s.zone? z = some r → r.climateDue ≤ s.now →
    ∃ t m, Happens (.climateReview z) s t
      ∧ m = r.measure.resolveClimate s.now
          (freshMean (s.boundTo r.measure.bindings .climate) s.now (·.rh))
          (freshMean (s.boundTo r.measure.bindings .climate) s.now (·.temperature))
      ∧ (m.climate.blind = true →
        t.zone? z = some { r with climateDue := r.climateDue + 60, measure := m
                                  marks := r.marks ++ newMarks r.marks [(.blindClimate, true)] }
        ∧ MarkSetsOffered s t z (newMarks r.marks [(.blindClimate, true)]) ∧ (∀ k, k ≠ z → t.zone? k = s.zone? k)
        ∧ t = { s with zones := t.zones, notices := t.notices, alarm := t.alarm, pulsing := t.pulsing })
      ∧ (m.climate.blind = false → ∃ r1 u r2 new,
        r1 = { r with
          climateDue := r.climateDue + 60, measure := m
          climate := { r.climate with
            current := r1.climate.current, rh := r1.climate.rh, temp := r1.climate.temp
            lastSwing := r1.climate.lastSwing, swing := r1.climate.swing } }
        ∧ (m.rh = none → r1.climate.current = r.climate.current ∧ r1.climate.rh = .unclassified)
        ∧ (∀ v, m.rh = some v → r1.climate.current =
          { hour := r.climate.current.hour
            rh := some (match r.climate.current.rh with | none => (v, v) | some (lo, hi) => (min lo v, max hi v))
            temp := match m.temperature, r.climate.current.temp with
              | none, old => old
              | some w, none => some (w, w)
              | some w, some (lo, hi) => some (min lo w, max hi w)
            samples := min (r.climate.current.samples + 1) 65535 })
        ∧ (m.temperature = none → r1.climate.temp = .unclassified)
        ∧ (r.band = none → (m.rh ≠ none → r1.climate.rh = .inBand) ∧ (m.temperature ≠ none → r1.climate.temp = .inBand))
        ∧ (∀ b v, r.band = some b → m.rh = some v → Classified v b.rhTarget b.rhHalf b.rhGuard r1.climate.rh)
        ∧ (∀ b w, r.band = some b → m.temperature = some w →
          Classified w b.tempTarget b.tempHalf b.tempGuard r1.climate.temp)
        ∧ (r1.climate.current.samples = 0 →
          r1.climate.lastSwing = r.climate.lastSwing ∧ r1.climate.swing = r.climate.swing)
        ∧ (r1.climate.current.samples ≠ 0 → ∀ x, SpreadOf (swingBuckets r1.climate.current r.climate.history) x →
          r1.climate.lastSwing = some x ∧ r1.climate.swing = r.band.any fun b => decide (b.swingLimit < x))
        ∧ (m.rh ≠ none → ∃ x, SpreadOf (swingBuckets r1.climate.current r.climate.history) x)
        ∧ u = (((s.putZone z r1).endOpposedPulse z).issuePulse z).decideDemand z
        ∧ u.zone? z = some r2
        ∧ r2 = { r1 with climate := { r1.climate with
            trimCount := r2.climate.trimCount, pulse := r2.climate.pulse, trimUnavailable := r2.climate.trimUnavailable
            offOwed := r2.climate.offOwed, need := r2.climate.need, unresolved := r2.climate.unresolved
            demand := r2.climate.demand } }
        ∧ new = newMarks r.marks
            [(.rhOut, decide (r1.climate.rh = .outLow ∨ r1.climate.rh = .outHigh)), (.rhSwing, r1.climate.swing),
             (.tempOut, decide (r1.climate.temp = .outLow ∨ r1.climate.temp = .outHigh)), (.unresolved, r2.climate.unresolved)]
        ∧ t.zone? z = some { r2 with marks := r.marks ++ new } ∧ MarkSetsOffered u t z new
        ∧ (∀ k, k ≠ z → t.zone? k = u.zone? k)
        ∧ t = { u with zones := t.zones, notices := t.notices, alarm := t.alarm, pulsing := t.pulsing })
      ∧ (∀ k x, k ≠ z → s.zone? k = some x → ∃ x', t.zone? k = some x' ∧ x' = { x with
          climate := { x.climate with pulse := x'.climate.pulse, trimUnavailable := x'.climate.trimUnavailable,
                                      offOwed := x'.climate.offOwed } })
      ∧ t.banks = s.banks ∧ t.devices = s.devices ∧ t.clock = s.clock ∧ t.store = s.store ∧ t.report = s.report)
  ∧ ∀ (s : State) (z : Nat) (r : Zone), s.zone? z = some r →
    ∃ candidate open_ need plant wanted u,
      r.RhCandidateIs candidate open_ ∧ r.NeedIs candidate r.climate.temp.tempNeed need
      ∧ plant = (r.defn.plant.filter fun p => (s.plant? p).isSome)
      ∧ u = s.putZone z { r with climate := { r.climate with
          need := need, unresolved := open_ || (need.isSome && plant.isNone) } }
      ∧ wanted = (plant.bind fun p => need.map fun n => (p, n))
      ∧ (r.climate.demand = none → wanted = none → s.decideDemand z = u)
      ∧ (∀ p n, r.climate.demand = none → wanted = some (p, n) →
        s.decideDemand z = (u.setDemand z (some ⟨p, n.duty, n.level⟩)).raise p z n.duty n.level)
      ∧ ∀ dm, r.climate.demand = some dm →
        (wanted = none → s.decideDemand z = (u.setDemand z none).withdraw dm.plant z)
        ∧ ∀ p n, wanted = some (p, n) →
          (dm.duty = n.duty → dm.level = n.level → s.decideDemand z = u)
          ∧ (dm.duty = n.duty → dm.level ≠ n.level →
            s.decideDemand z = (u.setDemand z (some ⟨dm.plant, dm.duty, n.level⟩)).update dm.plant z n.level)
          ∧ (dm.duty ≠ n.duty → s.decideDemand z =
            (((u.setDemand z none).withdraw dm.plant z).setDemand z (some ⟨p, n.duty, n.level⟩)).raise p z n.duty n.level)

/-- R71, R72, R73, R75: a trim pulse. In a climate review a pulse is issued exactly where every condition of R71 holds, for 300 s
and at the cost of one of the trim count; a pulse that the RH state now opposes ends early; at the expiry of the pulse-end timer,
and where service begins, the pulse ends: the record goes, OFF is placed for the device of the pulse, on whatever line it is, and the
trim count is unchanged. Before its time, or with no pulse in flight, the timer does nothing.
That an expiry command before its moment does nothing is the model's choice, log entry 2. -/
def Obligations.PulseEndPlacesOff : Prop :=
  (∀ (s : State) (z : Nat) (r : Zone), s.running = true → s.zone? z = some r →
    (∀ x l, r.climate.pulse = some x → x.due ≤ s.now → s.line? x.device.line = some l → l.state.takesCommands = true →
      Happens (.pulseEndExpiry z) s { s with
        zones := slotSet s.zones z (some { r with climate := { r.climate with pulse := none } })
        lines := slotSet s.lines x.device.line
          { l with queue := enqueueCommand ⟨x.device.address, 0, .tracker z⟩ l.queue } })
    ∧ (∀ x, r.climate.pulse = some x → x.due ≤ s.now → Happens (.pulseEndExpiry z) s
      ((s.putZone z { r with climate := { r.climate with pulse := none } }).place x.device 0 (.tracker z)))
    ∧ ((∀ x, r.climate.pulse = some x → s.now < x.due) → Happens (.pulseEndExpiry z) s s))
  ∧ ∀ (s : State) (z : Nat) (r : Zone), s.zone? z = some r →
    (∀ x, r.climate.pulse = some x → s.serviceBegins z =
      (s.putZone z { r with climate := { r.climate with pulse := none } }).place x.device 0 (.tracker z)) ∧
    (∀ x l, r.climate.pulse = some x → s.line? x.device.line = some l → l.state.takesCommands = true →
      s.serviceBegins z = { s with
        zones := slotSet s.zones z (some { r with climate := { r.climate with pulse := none } })
        lines := slotSet s.lines x.device.line
          { l with queue := enqueueCommand ⟨x.device.address, 0, .tracker z⟩ l.queue } })
    ∧ (r.climate.pulse = none → s.serviceBegins z = s)
    ∧ (∀ x, r.climate.pulse = some x →
      ((x.dir = .humidify ∧ (r.climate.rh = .driftHigh ∨ r.climate.rh = .outHigh)
          ∨ x.dir = .dry ∧ (r.climate.rh = .driftLow ∨ r.climate.rh = .outLow)) → ∀ l,
        s.line? x.device.line = some l → l.state.takesCommands = true →
        s.endOpposedPulse z = { s with
          zones := slotSet s.zones z (some { r with climate := { r.climate with pulse := none } })
          lines := slotSet s.lines x.device.line
            { l with queue := enqueueCommand ⟨x.device.address, 0, .tracker z⟩ l.queue } })
      ∧ (¬ (x.dir = .humidify ∧ (r.climate.rh = .driftHigh ∨ r.climate.rh = .outHigh)
          ∨ x.dir = .dry ∧ (r.climate.rh = .driftLow ∨ r.climate.rh = .outLow)) → s.endOpposedPulse z = s))
    ∧ (r.climate.pulse = none → s.endOpposedPulse z = s)
    ∧ (∀ d l low, r.defn.trim = some d → r.climate.pulse = none → r.climate.trimUnavailable = false →
      0 < r.climate.trimCount →
      (∀ dm pl x, r.climate.demand = some dm → s.plant? dm.plant = some pl → pl.state = .running → x ∈ pl.service →
        x.zone ≠ z) →
      (low = true ∧ (r.climate.rh = .driftLow ∨ r.climate.rh = .outLow)
        ∨ low = false ∧ (r.climate.rh = .driftHigh ∨ r.climate.rh = .outHigh)) →
      s.line? d.line = some l →
      (l.state.takesCommands = true → s.issuePulse z = { s with
        zones := slotSet s.zones z (some { r with climate := { r.climate with
          trimCount := r.climate.trimCount - 1
          pulse := some ⟨if low then .humidify else .dry, d, s.now + 300⟩ } })
        lines := slotSet s.lines d.line
          { l with queue := enqueueCommand ⟨d.address, if low then 1 else 2, .tracker z⟩ l.queue } })
      ∧ (l.state.takesCommands = false → s.issuePulse z = s.putZone z { r with climate := { r.climate with
          trimCount := r.climate.trimCount - 1, pulse := none, trimUnavailable := true, offOwed := true } }))
    ∧ ((r.defn.trim = none ∨ r.climate.pulse ≠ none ∨ r.climate.trimUnavailable = true ∨ r.climate.trimCount = 0
        ∨ r.climate.rh = .unclassified ∨ r.climate.rh = .inBand
        ∨ ∃ dm pl x, r.climate.demand = some dm ∧ s.plant? dm.plant = some pl ∧ pl.state = .running ∧ x ∈ pl.service
            ∧ x.zone = z) →
      s.issuePulse z = s)

/-- R60, R61, R114, R115: CLIMATE BAND installs the band, with the trim allowance 4 where it is left out, and clamps the trim
count; and OCCUPANCY installs the count, clamped to 9999, and reports surge.
The reply of OCCUPANCY sends surge as 0 where it holds, and a field with a default stands behind a presence byte: the model's
readings, log entries 5, 6. -/
def Obligations.BandAndOccupancy : Prop :=
  ∀ (s : State) (tag : Byte) (z : Nat) (r : Zone), s.zone? z = some r →
    (∀ b : Band, b.inRange = true → TakenUp (.climateBand tag (be 1 z ++ b.sent)) s →
      Answers (.climateBand tag (be 1 z ++ b.sent)) s .done []
        { s with
          zones := slotSet s.zones z (some { r with
            band := some b, climate := { r.climate with trimCount := min r.climate.trimCount b.trimAllowance } })
          configChanged := s.configChanged || decide (r.band ≠ some b) })
    ∧ (∀ b : Band, b.inRange = true → b.trimAllowance = 4 → TakenUp (.climateBand tag (be 1 z ++ b.sentWithout)) s →
      Answers (.climateBand tag (be 1 z ++ b.sentWithout)) s .done []
        { s with
          zones := slotSet s.zones z (some { r with
            band := some b, climate := { r.climate with trimCount := min r.climate.trimCount 4 } })
          configChanged := s.configChanged || decide (r.band ≠ some b) })
    ∧ ∀ n, n < 65536 → TakenUp (.occupancy tag (be 1 z ++ be 2 n)) s →
      Answers (.occupancy tag (be 1 z ++ be 2 n)) s .done
        (be 2 (min n 9999) ++ ([match r.defn.surgeThreshold with
          | some th => if th ≤ min n 9999 then 0 else 1
          | none => 1] : List Byte))
        (s.putZone z { r with measure := { r.measure with occupancy := min n 9999 } })

/-- R61, R65: every step keeps the trim count of each zone within its allowance, and its history in strictly rising order
within the 23 hours before its current bucket. -/
def Obligations.HistoriesStayRight : Prop :=
  ∀ s t : State, s.historiesRight → step s = .next t → t.historiesRight

/-! ## Field devices and lines -/

/-- R139, R140, R137, R126, R127: a round that becomes due; the next transaction of an ACTIVE line, which is its oldest queued
command, else the poll of the entry with the least address above the poll position that is not ABSENT and, unless the round
counter is 0, not FAULTED, else the end of the round; the request sent again; the next probe of an ENROLLING line, what its
outcome does to the table and to the counts, and the completion after address 126.
That a request to be sent again waits for ATTEMPT_RETRY is the model's form, log entry 24. That any change a probe makes to the
table sets the changed flag, and that an entry without an owner offers DEVICE FAULT too where the line is full of actuators, are
its readings: log entries 20, 22. -/
def Obligations.LineTakesUpWork : Prop :=
  (∀ (s : State) (n : Nat) (r : Line), s.running = true → s.line? n = some r →
    (∀ due, r.roundDue = some due → due ≤ s.now → r.state = .active → r.enrolment = none → r.roundInProgress = false →
      Happens (.roundTimerExpiry n) s (s.putLine n (r.nextRound s)))
    ∧ (∀ due, r.roundDue = some due → due ≤ s.now → (r.state ≠ .active ∨ r.enrolment ≠ none ∨ r.roundInProgress = true) →
      Happens (.roundTimerExpiry n) s (s.putLine n { r with roundDue := none }))
    ∧ (∀ c rest, r.state = .active → r.enrolment = none → r.inFlight = none → r.queue = c :: rest →
      Happens (.transactionTakeUp n) s (s.putLine n { r with
        queue := rest, inFlight := some ⟨.set c.value c.issuer, c.address, 0, none, true⟩
        sent := requestPacket c.address (.set c.value c.issuer) }))
    ∧ (∀ e, r.state = .active → r.enrolment = none → r.inFlight = none → r.queue = [] → r.roundInProgress = true →
      s.tablesAdmitted → PollCandidate s n r e → (∀ x, PollCandidate s n r x → e.address ≤ x.address) →
      Happens (.transactionTakeUp n) s (s.putLine n { r with
        pollPos := e.address, inFlight := some ⟨.poll, e.address, 0, none, true⟩
        sent := requestPacket e.address .poll }))
    ∧ (r.state = .active → r.enrolment = none → r.inFlight = none → r.queue = [] → r.roundInProgress = true →
      (∀ x, ¬ PollCandidate s n r x) →
      (r.roundDue ≠ none → Happens (.transactionTakeUp n) s (s.putLine n { r with roundInProgress := false }))
      ∧ (r.roundDue = none → Happens (.transactionTakeUp n) s (s.putLine n (r.nextRound s))))
    ∧ (∀ x, r.state = .active → r.inFlight = some x → x.awaiting = false →
      Happens (.attemptRetry n) s (s.putLine n { r with
        inFlight := some { x with awaiting := true }, sent := requestPacket x.address x.ask }))
    ∧ ∀ e, r.state = .enrolling → r.enrolment = some e → r.inFlight = none →
      Happens (.enrolProbeSend n) s (s.putLine n { r with
        inFlight := some ⟨.ident, e.next, 0, none, true⟩, sent := requestPacket e.next .ident }))
  ∧ ∀ (s : State) (n a : Nat) (r : Line) (p : Enrolment) (x : Transaction), s.running = true → s.line? n = some r →
    r.enrolment = some p → r.inFlight = some x → x.ask = .ident → x.address = a → x.awaiting = true →
    1 ≤ a → a ≤ 126 → s.tablesAdmitted →
    (∀ (k : DeviceKind) (full : Bool),
      full = (k.isActuator && decide (16 ≤ (s.devices.filter fun y => y.line == n && y.kind.isActuator).length)) →
      (∀ e, s.device? ⟨n, a⟩ = some e → e.kind = k → ∃ u,
        u = s.withEntry n a (fun y => if y.state = .absent then { y with state := .enrolled, failures := 0, mismatch := false }
          else { y with mismatch := false })
        ∧ Happens (.replyComplete n (replyPacket a 0xD1 [BitVec.ofNat 8 k.code])) s
            (u.probed s n a { r with hangCount := 0 } ⟨p.next, p.found + 1, p.added, p.absent, p.notAdded⟩))
      ∧ (∀ e, s.device? ⟨n, a⟩ = some e → e.kind ≠ k → s.owner? ⟨n, a⟩ = none → full = false → ∃ u,
        u = s.withEntry n a (fun _ => ⟨n, a, k, .enrolled, 0, none, none, none, none, false⟩)
        ∧ Happens (.replyComplete n (replyPacket a 0xD1 [BitVec.ofNat 8 k.code])) s
            (u.probed s n a { r with hangCount := 0 } ⟨p.next, p.found + 1, p.added, p.absent, p.notAdded⟩))
      ∧ (∀ e, s.device? ⟨n, a⟩ = some e → e.kind ≠ k → (s.owner? ⟨n, a⟩ ≠ none ∨ full = true) → ∃ u w,
        u = s.withEntry n a (fun y => { y with state := .faulted, fault := some ⟨.wrongKind, s.clock⟩, mismatch := true })
        ∧ (e.state = .faulted → w = u)
        ∧ (e.state ≠ .faulted →
          OwnerFaults (u.offer (.deviceFault n a .wrongKind e.failures) (.device n a)) w (s.owner? ⟨n, a⟩))
        ∧ Happens (.replyComplete n (replyPacket a 0xD1 [BitVec.ofNat 8 k.code])) s
            (w.probed s n a { r with hangCount := 0 } ⟨p.next, p.found + 1, p.added, p.absent,
              if s.owner? ⟨n, a⟩ = none then p.notAdded + 1 else p.notAdded⟩))
      ∧ (s.device? ⟨n, a⟩ = none → s.devices.length < 64 → full = false → ∃ u : State,
        u = { s with devices := u.devices }
        ∧ (∀ y, y ∈ u.devices ↔ y = ⟨n, a, k, .enrolled, 0, none, none, none, none, false⟩ ∨ y ∈ s.devices)
        ∧ u.tablesAdmitted
        ∧ Happens (.replyComplete n (replyPacket a 0xD1 [BitVec.ofNat 8 k.code])) s
            (u.probed s n a { r with hangCount := 0 } ⟨p.next, p.found + 1, p.added + 1, p.absent, p.notAdded⟩))
      ∧ (s.device? ⟨n, a⟩ = none → (64 ≤ s.devices.length ∨ full = true) →
        Happens (.replyComplete n (replyPacket a 0xD1 [BitVec.ofNat 8 k.code])) s
          (s.probed s n a { r with hangCount := 0 } ⟨p.next, p.found + 1, p.added, p.absent, p.notAdded + 1⟩)))
    ∧ (∀ e, s.device? ⟨n, a⟩ = some e → ∃ u,
      u = s.withEntry n a (fun y => { y with state := .absent, reading := none, reported := none, acked := none })
      ∧ Happens (.replyTimeout n []) s (u.probed s n a r ⟨p.next, p.found, p.added, p.absent + 1, p.notAdded⟩))
    ∧ (s.device? ⟨n, a⟩ = none → Happens (.replyTimeout n []) s (s.probed s n a r p))
    ∧ (∀ b bs, Happens (.replyTimeout n (b :: bs)) s (s.probed s n a r p))
    ∧ (∀ bytes packet reason, completePacket bytes = some packet →
      classifyPacket .ident a (s.device? ⟨n, a⟩) packet = .failed reason → reason ≠ .noReply →
      Happens (.replyComplete n bytes) s (s.probed s n a r p))
    ∧ ∀ code : Byte, DeviceKind.ofCode? code.toNat = none →
      Happens (.replyComplete n (replyPacket a 0xD1 [code])) s (s.probed s n a { r with hangCount := 0 } p)

/-- R133, R134: a well-formed reply packet from the device addressed, of the kind the request calls for and with a payload
that suits it, is complete and is classed OK with exactly its payload, and every request packet sums to 0. A payload suits a POLL
where it is a reading or a report of the entry's kind, a SET where it is the value sent, in neither case with a kind mismatch, and an
IDENT where it is one byte. Of any complete
packet the tests are made in their order: framing, length and check give GARBLED, address, kind and content WRONG_REPLY, and one
that passes them all is OK.
That a reply to a POLL of an address without an entry suits it, that a SET-ACK equal to the value sent does whatever the range of the
entry's present kind, and that bytes after the packet are ignored, are the model's readings: log entries 25, 36, 29. -/
def Obligations.ReplyPacketsAreRead : Prop :=
  (∀ (ask : Ask) (address : Nat) (entry : Option Device) (payload : List Byte), address < 256 → payload.length ≤ 12 →
    contentSuits entry payload ask = true →
    completePacket (replyPacket address ask.replyKind payload) = some (replyPacket address ask.replyKind payload)
    ∧ classifyPacket ask address entry (replyPacket address ask.replyKind payload) = .ok payload
    ∧ ((requestPacket address ask).map (·.data)).sum = 0)
  ∧ (∀ (ask : Ask) (address : Nat) (entry : Option Device) (bytes packet rest : List FieldByte)
      (from_ kind len check : Byte) (payload : List Byte), address < 256 → payload.length = len.toNat →
    packet.map (·.data) = from_ :: kind :: len :: payload ++ [check] → bytes = packet ++ rest →
    completePacket bytes = some packet
    ∧ ((∃ b ∈ packet, b.stop = false ∨ b.parity ≠ parityOf b.data) →
      classifyPacket ask address entry packet = .failed .garbled)
    ∧ ((∀ b ∈ packet, b.stop = true ∧ b.parity = parityOf b.data) →
      (12 < len.toNat → classifyPacket ask address entry packet = .failed .garbled)
      ∧ (len.toNat ≤ 12 → (packet.map (·.data)).sum ≠ 0 → classifyPacket ask address entry packet = .failed .garbled)
      ∧ (len.toNat ≤ 12 → (packet.map (·.data)).sum = 0 →
        ((from_.toNat ≠ address ∨ kind ≠ (match ask with | .poll => 0xD0 | .ident => 0xD1 | .set _ _ => 0xD2)) →
          classifyPacket ask address entry packet = .failed .wrongReply)
        ∧ (from_.toNat = address → kind = (match ask with | .poll => 0xD0 | .ident => 0xD1 | .set _ _ => 0xD2) →
          ((match ask with
            | .poll => ∃ e, entry = some e ∧ (e.mismatch = true
                ∨ (e.kind = .lightSensor ∨ e.kind = .climateSensor) ∧ payload.length ≠ 5
                ∨ e.kind = .lightClimateSensor ∧ payload.length ≠ 9
                ∨ e.kind.isActuator = true ∧ ∀ v, e.kind.valueMax? = some v → ∀ b, payload = [b] → v < b.toNat)
            | .set v _ => payload ≠ be 1 v ∨ ∃ e, entry = some e ∧ e.mismatch = true
            | .ident => payload.length ≠ 1) →
            classifyPacket ask address entry packet = .failed .wrongReply)
          ∧ (contentSuits entry payload ask = true → classifyPacket ask address entry packet = .ok payload)))))
  ∧ ∀ (ask : Ask) (entry : Option Device) (payload : List Byte), contentSuits entry payload ask = true ↔ match ask with
    | .poll => ∀ e, entry = some e → e.mismatch = false ∧ match e.kind with
      | .lightSensor | .climateSensor => payload.length = 5
      | .lightClimateSensor => payload.length = 9
      | .dimmer | .louvre => ∃ b : Byte, payload = [b] ∧ b.toNat ≤ 100
      | .trimUnit => ∃ b : Byte, payload = [b] ∧ b.toNat ≤ 2
      | .plantController => ∃ b : Byte, payload = [b] ∧ b.toNat ≤ 4
    | .set v _ => payload = be 1 v ∧ ∀ e, entry = some e → e.mismatch = false
    | .ident => payload.length = 1

/-- R137, R122, R120, R121, R124, R142, R94: a poll or a command succeeds: the entry is ACTIVE with no failures and its reading
or its report is written; a FAULTED entry offers DEVICE RECOVERED; the owner of the entry is told, and then, of a command, the
issuer that still names the device; the hang count is 0 and nothing is in flight. A transaction whose entry has been retired ends
without them. A reading holds each quantity of the sensor's kind from its two bytes, with its limits and its self-check flag; a report
is the value of an actuator.
That the reply for a retired entry passes the content test, and so sets the hang count to 0, and that the acknowledgement of a
command left queued for an entry that a probe has made a sensor is tested against the value sent alone and reported nowhere, are
the model's readings: log entries 25, 36; and so are, in a plant that enters RUNNING, a fault before the notice and the order of the
zones that service begins reaches: log entries 31, 40. -/
def Obligations.PollSucceeds : Prop :=
  (∀ (s : State) (n a : Nat) (r : Line) (x : Transaction) (payload : List Byte) (c : Instr), s.running = true →
    s.line? n = some r → r.inFlight = some x → x.address = a → x.awaiting = true → a < 256 → payload.length ≤ 12 →
    x.ask ≠ .ident → contentSuits (s.device? ⟨n, a⟩) payload x.ask = true →
    c = .replyComplete n (replyPacket a x.ask.replyKind payload) →
    (s.device? ⟨n, a⟩ = none → Happens c s (s.putLine n { r with hangCount := 0 }.ended))
    ∧ ∀ e, s.device? ⟨n, a⟩ = some e →
      (x.ask = .poll → ∃ s1 s2 l,
        s1 = (if e.state = .faulted then fun s => s.offer (.deviceRecovered n a) (.device n a) else id)
          (s.withEntry n a fun y => { y with
            failures := 0, state := .active, reading := (readingOf y.kind payload s.clock s.now).or y.reading
            reported := if (readingOf y.kind payload s.clock s.now).isSome then y.reported
              else (reportOf y.kind payload).or y.reported })
        ∧ OwnerSucceeds s1 s2 (reportOf e.kind payload) (s.owner? ⟨n, a⟩)
        ∧ s2.line? n = some l ∧ Happens c s (s2.putLine n { l with hangCount := 0 }.ended))
      ∧ ∀ v i, x.ask = .set v i → ∃ s1 s2 s3 l,
        s1 = (if e.state = .faulted then fun s => s.offer (.deviceRecovered n a) (.device n a) else id)
          (s.withEntry n a fun y => { y with
            failures := 0, state := .active, acked := if y.kind.isActuator then some v else y.acked })
        ∧ OwnerSucceeds s1 s2 (some v) (s.owner? ⟨n, a⟩)
        ∧ ((∀ p, i ≠ .arbiter p) ∨ s2.issuerNames i ⟨n, a⟩ = false → s3 = s2)
        ∧ (∀ p duty, i = .arbiter p → v = duty.code → s2.issuerNames i ⟨n, a⟩ = true → DutyTaken s2 s3 p duty)
        ∧ s3.line? n = some l ∧ Happens c s (s3.putLine n { l with hangCount := 0 }.ended))
  ∧ (∀ (i0 i1 u0 u1 h0 h1 t0 t1 f : Byte) (clock arrived : Nat) (lux uv rh temp : Quantity),
    lux = ⟨wordOf i0 i1, !f.getLsbD 0⟩ →
    uv = ⟨(if wordOf u0 u1 ≤ 5000 then wordOf u0 u1 else 5000 : Nat), !f.getLsbD 1⟩ →
    rh = ⟨(if wordOf h0 h1 ≤ 1000 then wordOf h0 h1 else 1000 : Nat), !f.getLsbD 2⟩ →
    temp = ⟨signedOf t0 t1, !f.getLsbD 3 && decide (-400 ≤ signedOf t0 t1 ∧ signedOf t0 t1 ≤ 850)⟩ →
    readingOf .lightSensor [i0, i1, u0, u1, f] clock arrived = some ⟨some lux, some uv, none, none, clock, arrived⟩
    ∧ readingOf .climateSensor [h0, h1, t0, t1, f] clock arrived = some ⟨none, none, some rh, some temp, clock, arrived⟩
    ∧ readingOf .lightClimateSensor [i0, i1, u0, u1, h0, h1, t0, t1, f] clock arrived
        = some ⟨some lux, some uv, some rh, some temp, clock, arrived⟩)
  ∧ (∀ (kind : DeviceKind) (payload : List Byte) (clock arrived : Nat), readingOf kind payload clock arrived ≠ none ↔
    ((kind = .lightSensor ∨ kind = .climateSensor) ∧ payload.length = 5) ∨ (kind = .lightClimateSensor ∧ payload.length = 9))
  ∧ ∀ (kind : DeviceKind) (payload : List Byte) (v : Nat), reportOf kind payload = some v ↔
    payload = [BitVec.ofNat 8 v] ∧ (match kind with
      | .dimmer | .louvre => v ≤ 100
      | .trimUnit => v ≤ 2
      | .plantController => v ≤ 4
      | .lightSensor | .climateSensor | .lightClimateSensor => False)

/-- R134, R137, R123, R124, R142: an attempt of a poll or a command fails, by silence, by a reply cut short or by a complete
packet that fails a test. With retries left the request is to be sent again with one retry more used; with none left the
transaction ends in final failure: the entry counts it, the third in a row making one that is not FAULTED or ABSENT FAULTED with
a DEVICE FAULT notice, which its owner is told; of a command the issuer is told; and nothing is in flight.
That the request to be sent again waits for ATTEMPT_RETRY is the model's form, log entry 24. -/
def Obligations.AttemptTimesOut : Prop :=
  ∀ (s : State) (n : Nat) (r : Line) (x : Transaction) (c : Instr) (reason : FaultReason), s.running = true →
    s.line? n = some r → r.inFlight = some x → x.awaiting = true → x.ask ≠ .ident → AttemptFails c s n x reason →
    (x.retries < r.retryLimit → Happens c s (s.putLine n { r with
      inFlight := some { x with retries := x.retries + 1, lastReason := some reason, awaiting := false } }))
    ∧ (r.retryLimit ≤ x.retries →
      (s.device? ⟨n, x.address⟩ = none → Happens c s (s.putLine n r.ended))
      ∧ ∀ e count after, s.device? ⟨n, x.address⟩ = some e → count = min (e.failures + 1) 255 →
        after = (if e.state = .faulted ∨ e.state = .absent then e.state
          else if count < 3 then .suspect else .faulted) →
        ∃ s1 s2 s3 l,
          s1 = s.withEntry n x.address (fun y => { y with
            failures := count, fault := some ⟨reason, s.clock⟩, state := after })
          ∧ ((e.state = .faulted ∨ after ≠ .faulted) → s2 = s1)
          ∧ (e.state ≠ .faulted → after = .faulted →
            OwnerFaults (s1.offer (.deviceFault n x.address reason count) (.device n x.address)) s2
              (s.owner? ⟨n, x.address⟩))
          ∧ (x.ask = .poll → s3 = s2)
          ∧ (∀ v i, x.ask = .set v i → IssuerFails s2 s3 i ⟨n, x.address⟩)
          ∧ s3.line? n = some l ∧ Happens c s (s3.putLine n l.ended))

/-- R143 to R145, R128: a first or second hang on an ACTIVE or an ENROLLING line, which abandons an enrolment after LINE HUNG; a
hang on another line, for which detection is not armed; the end of the release; and the end of the recovery wait, after which a
round that is due starts at once.
The flags for a request to be sent again and for the release are the model's forms, log entry 24. -/
def Obligations.HangsAreRecovered : Prop :=
  ∀ (s : State) (n : Nat) (r : Line), s.running = true → s.line? n = some r →
    ((r.state = .active ∨ r.state = .enrolling) → r.hangCount < 2 → ∃ u,
      u = ((s.putLine n { r with
            state := .recovering, hangCount := r.hangCount + 1, releasing := true, recoveryDue := none, enrolment := none
            inFlight := match r.inFlight with
              | some ⟨.ident, _, _, _, _⟩ => none
              | some x => some { x with awaiting := false }
              | none => none }).offer
          (.lineHung (r.hangCount + 1) (r.inFlight.map fun x => (x.address, x.ask.packetKind))) (.line n))
      ∧ (r.enrolment = none → Happens (.hangDetected n) s u)
      ∧ ∀ e, r.enrolment = some e → Happens (.hangDetected n) s
        (u.offer (.enrolDone false e.found e.added e.absent e.notAdded) (.line n)))
    ∧ (r.state ≠ .active → r.state ≠ .enrolling → Happens (.hangDetected n) s s)
    ∧ (r.state = .recovering → r.releasing = true →
      Happens (.releaseEnd n) s (s.putLine n { r with releasing := false, recoveryDue := some (s.now + 2) }))
    ∧ ∀ due, r.state = .recovering → r.recoveryDue = some due → due ≤ s.now →
      ((r.roundInProgress = true ∨ r.roundDue ≠ none ∨ r.enrolment ≠ none) →
        Happens (.recoveryWaitExpiry n) s (s.putLine n { r with state := .active, recoveryDue := none }))
      ∧ (r.roundInProgress = false → r.roundDue = none → r.enrolment = none →
        Happens (.recoveryWaitExpiry n) s (s.putLine n ({ r with state := .active, recoveryDue := none }.nextRound s)))

/-- R146, R142, R128: the third hang in a row disables the line. LINE HUNG, ENROL DONE where an enrolment is ended, and LINE
DISABLED are offered in this order; then an abandoned SET and every queued command, oldest first, are returned to their issuers as
final failures, each issuer acting as its rule says; and COMMANDS DISCARDED counts them where there are any. Nothing is queued, in
flight or enrolling any more, the line's round and its timer are ended, and a DISABLED line changes no device entry. -/
def Obligations.ThirdHangDisables : Prop :=
  ∀ (s : State) (n : Nat) (r : Line), s.running = true → s.line? n = some r →
    (r.state = .active ∨ r.state = .enrolling) → r.hangCount = 2 →
    ∃ (t s1 s2 s3 : State) (r' : Line) (discarded : List Command), Happens (.hangDetected n) s t ∧ t.line? n = some r'
      ∧ r' = { r with
        state := .disabled, hangCount := 3, queue := [], inFlight := none, enrolment := none, roundInProgress := false
        roundDue := none, recoveryDue := none, releasing := true }
      ∧ s1 = { s.putLine n r' with alarm := s1.alarm }
      ∧ (s.report.mode = .level → s1.alarm = s1.alarmCondition) ∧ (s.report.mode = .pulse → s1.alarm = s.alarm)
      ∧ (r.enrolment = none →
        s2 = (s1.offer (.lineHung 3 (r.inFlight.map fun x => (x.address, x.ask.packetKind))) (.line n)).offer
          .lineDisabled (.line n))
      ∧ (∀ e, r.enrolment = some e →
        s2 = ((s1.offer (.lineHung 3 (r.inFlight.map fun x => (x.address, x.ask.packetKind))) (.line n)).offer
          (.enrolDone false e.found e.added e.absent e.notAdded) (.line n)).offer .lineDisabled (.line n))
      ∧ (∀ v i a k f w, r.inFlight = some ⟨.set v i, a, k, f, w⟩ → discarded = ⟨a, v, i⟩ :: r.queue)
      ∧ ((∀ x v i, r.inFlight = some x → x.ask ≠ .set v i) → discarded = r.queue)
      ∧ FailuresReturned n discarded s2 s3
      ∧ (discarded = [] → t = s3)
      ∧ (discarded ≠ [] → t = s3.offer (.commandsDiscarded discarded.length) (.line n))
      ∧ t.devices = s.devices ∧ (∀ k, k ≠ n → t.line? k = s.line? k) ∧ t.clock = s.clock ∧ t.store = s.store
      ∧ (∀ (v k : Nat) (d : DeviceAddr) (x : Zone), (⟨d.address, v, .governor k⟩ : Command) ∈ r.queue → d.line = n →
          s.zone? k = some x → x.defn.dimmer = some d → ∃ x', t.zone? k = some x' ∧ x'.light.refreshOwed = true)

/-- R138, R125, R147: LINE SET, LINE ENROL and LINE ENABLE, of a line that exists and of a number outside 1..2. -/
def Obligations.LineRequests : Prop :=
  (∀ (s : State) (tag n : Byte) (r : Line), s.line? n.toNat = some r →
    (∀ v : Byte, v.toNat ≤ 7 → TakenUp (.lineSet tag [n, v]) s → Answers (.lineSet tag [n, v]) s .done []
      { s with lines := slotSet s.lines n.toNat { r with retryLimit := v.toNat }
               configChanged := s.configChanged || decide (r.retryLimit ≠ v.toNat) })
    ∧ (TakenUp (.lineEnrol tag [n]) s →
      ((r.state = .off ∨ r.state = .disabled ∨ r.state = .recovering) → Answers (.lineEnrol tag [n]) s .state [] s)
      ∧ ((r.state = .enrolling ∨ (r.state = .active ∧ r.enrolment ≠ none)) → Answers (.lineEnrol tag [n]) s .busy [] s)
      ∧ (r.state = .active → r.enrolment = none → Answers (.lineEnrol tag [n]) s .accepted []
          (s.putLine n.toNat (if r.inFlight = none then
              { r with enrolment := some ⟨1, 0, 0, 0, 0⟩, state := .enrolling, roundInProgress := false }
            else { r with enrolment := some ⟨1, 0, 0, 0, 0⟩ }))))
    ∧ (TakenUp (.lineEnable tag [n]) s →
      (r.state = .off → Answers (.lineEnable tag [n]) s .state [] s)
      ∧ ((r.state = .active ∨ r.state = .enrolling ∨ r.state = .recovering) →
          Answers (.lineEnable tag [n]) s .done [] s)
      ∧ (r.state = .disabled → ∃ t, Answers (.lineEnable tag [n]) s .done [] t
          ∧ t.lines = slotSet s.lines n.toNat { r with
              state := .active, hangCount := 0, roundCounter := (r.roundCounter + 1) % 10, pollPos := 0
              roundInProgress := true, roundDue := some (s.now + 2) }
          ∧ t = { s with lines := t.lines, notices := t.notices, alarm := t.alarm, pulsing := t.pulsing }
          ∧ t.notices = s.afterOffers [(.lineRestored, .line n.toNat)]
          ∧ (s.report.floor ≤ 2 → s.notices.length < 32 →
              t.notices = s.notices ++ [⟨.lineRestored, .line n.toNat, s.clock⟩])
          ∧ (s.report.mode = .level → t.alarm = t.alarmCondition ∧ t.pulsing = s.pulsing)
          ∧ (s.report.mode = .pulse → t.alarm = (s.alarm || decide (s.report.alarmLevel ≤ 2))
              ∧ t.pulsing = (s.pulsing || decide (s.report.alarmLevel ≤ 2))))))
  ∧ ∀ (s : State) (tag n v : Byte),
    ((validLine n.toNat = false ∨ 7 < v.toNat) → TakenUp (.lineSet tag [n, v]) s → Answers (.lineSet tag [n, v]) s .range [] s)
    ∧ (validLine n.toNat = false → TakenUp (.lineEnrol tag [n]) s → Answers (.lineEnrol tag [n]) s .range [] s)
    ∧ (validLine n.toNat = false → TakenUp (.lineEnable tag [n]) s → Answers (.lineEnable tag [n]) s .range [] s)

/-- R130: DEVICE RETIRE removes an entry that no definition names, and its queued command; a line outside 1..2 or an address outside
1..126 is refused with RANGE, a missing entry with NO_SUCH, an assigned one with CONFLICT. -/
def Obligations.DeviceRetireRemoves : Prop :=
  (∀ (s : State) (tag n a : Byte), validLine n.toNat = true → validAddress a.toNat = true →
    TakenUp (.deviceRetire tag [n, a]) s →
    (s.device? ⟨n.toNat, a.toNat⟩ = none → Answers (.deviceRetire tag [n, a]) s .noSuch [] s)
    ∧ (s.device? ⟨n.toNat, a.toNat⟩ ≠ none → s.owner? ⟨n.toNat, a.toNat⟩ ≠ none →
        Answers (.deviceRetire tag [n, a]) s .conflict [] s)
    ∧ ∀ r, s.device? ⟨n.toNat, a.toNat⟩ ≠ none → s.owner? ⟨n.toNat, a.toNat⟩ = none → s.line? n.toNat = some r →
      Answers (.deviceRetire tag [n, a]) s .done []
        { s with
          devices := s.devices.filter fun e => decide ¬ (e.line = n.toNat ∧ e.address = a.toNat)
          lines := slotSet s.lines n.toNat { r with queue := r.queue.filter fun c => decide (c.address ≠ a.toNat) }
          configChanged := true })
  ∧ ∀ (s : State) (tag n a : Byte), (n.toNat < 1 ∨ 2 < n.toNat ∨ a.toNat < 1 ∨ 126 < a.toNat) →
    TakenUp (.deviceRetire tag [n, a]) s → Answers (.deviceRetire tag [n, a]) s .range [] s

/-- R118: every step keeps the device table, and what the store holds of it, within its capacity, in its order and within the
limit of actuators on each line. -/
def Obligations.TablesStayAdmitted : Prop :=
  ∀ s t : State, s.tablesAdmitted → step s = .next t → t.tablesAdmitted

/-! ## Notices and the alarm line -/

/-- R151, R152, R156: the offer of a notice below the report floor, to a queue with room, and to a full one; and what it does to the
alarm line, which is nothing in LEVEL mode and below the alarm level. -/
def Obligations.OffersMeetTheQueue : Prop :=
  ∀ (s : State) (body : NoticeBody) (subject : Subject),
    (body.level < s.report.floor → (s.offer body subject).notices = s.notices)
    ∧ (s.report.floor ≤ body.level → s.notices.length < 32 →
        (s.offer body subject).notices = s.notices ++ [⟨body, subject, s.clock⟩])
    ∧ (s.report.floor ≤ body.level → 32 ≤ s.notices.length → (∀ n ∈ s.notices, body.level ≤ n.level) →
        (s.offer body subject).notices = s.notices)
    ∧ (∀ pre n post, s.report.floor ≤ body.level → 32 ≤ s.notices.length → s.notices = pre ++ n :: post →
        (∀ x ∈ s.notices, n.level ≤ x.level) → (∀ x ∈ post, x.level ≠ n.level) → n.level < body.level →
        (s.offer body subject).notices = pre ++ post ++ [⟨body, subject, s.clock⟩])
    ∧ (s.report.mode = .level → (s.offer body subject).alarm = s.alarm ∧ (s.offer body subject).pulsing = s.pulsing)
    ∧ (s.report.mode = .pulse → s.report.alarmLevel ≤ body.level →
        (s.offer body subject).alarm = true ∧ (s.offer body subject).pulsing = true)
    ∧ (s.report.mode = .pulse → body.level < s.report.alarmLevel →
        (s.offer body subject).alarm = s.alarm ∧ (s.offer body subject).pulsing = s.pulsing)
    ∧ s.offer body subject = { s with
        notices := (s.offer body subject).notices, alarm := (s.offer body subject).alarm
        pulsing := (s.offer body subject).pulsing }

/-- R154, R157, R156: REPORT SET installs the three settings, purges below a raised floor and acts on the alarm line by the
table of R157, and refuses a value outside its range; and the end of a pulse deasserts the line.
The last byte of the reply is 0 where the alarm line is asserted: the model's reading, log entry 5. -/
def Obligations.ReportSetAndPulse : Prop :=
  (∀ (s : State) (tag floor level mode : Byte), (7 < floor.toNat ∨ level.toNat < 1 ∨ 7 < level.toNat ∨ 1 < mode.toNat) →
    TakenUp (.reportSet tag [floor, level, mode]) s → Answers (.reportSet tag [floor, level, mode]) s .range [] s)
  ∧ (∀ (s : State) (tag floor level : Byte) (mode : AlarmMode), floor.toNat ≤ 7 → 1 ≤ level.toNat → level.toNat ≤ 7 →
    TakenUp (.reportSet tag [floor, level, BitVec.ofNat 8 mode.code]) s →
    ∃ t, Answers (.reportSet tag [floor, level, BitVec.ofNat 8 mode.code]) s .done
        [floor, level, BitVec.ofNat 8 mode.code, BitVec.ofNat 8 (s.notices.length - t.notices.length),
         if t.alarm then 0 else 1] t
      ∧ t.report = ⟨floor.toNat, level.toNat, mode⟩
      ∧ (s.report.floor < floor.toNat → t.notices = s.notices.filter fun n => decide (floor.toNat ≤ n.level))
      ∧ (floor.toNat ≤ s.report.floor → t.notices = s.notices)
      ∧ (mode = .level → t.alarm = t.alarmCondition)
      ∧ (s.report.mode = .level → mode = .pulse → t.alarm = false ∧ t.pulsing = false)
      ∧ (s.report.mode = .pulse → mode = .level → t.pulsing = false)
      ∧ (s.report.mode = .pulse → mode = .pulse → t.alarm = s.alarm ∧ t.pulsing = s.pulsing)
      ∧ t = { s with
        report := t.report, notices := t.notices, alarm := t.alarm, pulsing := t.pulsing
        configChanged := s.configChanged || decide (s.report ≠ t.report) })
  ∧ ∀ s : State, s.running = true → s.pulsing = true →
    Happens .alarmPulseEnd s { s with alarm := false, pulsing := false }

/-- R155: every step keeps the alarm line of a running part in LEVEL mode asserted exactly while a zone has a mark at or above
the alarm level, or a line is DISABLED or a plant FAULTED at an alarm level of 6 or below; and that is what the conditions are. -/
def Obligations.AlarmFollowsConditions : Prop :=
  (∀ s t : State, s.alarmFollows → step s = .next t → t.alarmFollows)
  ∧ ∀ s : State, s.alarmCondition = true ↔
    (∃ z r m, s.zone? z = some r ∧ m ∈ r.marks ∧ s.report.alarmLevel ≤ markLevel m)
    ∨ (s.report.alarmLevel ≤ 6
      ∧ ((∃ l r, s.line? l = some r ∧ r.state = .disabled) ∨ ∃ p r, s.plant? p = some r ∧ r.state = .faulted))

/-- R151, R161, R164: every step keeps the notice queue within its capacity and the report floor, and the intake and the reply
queue within theirs; and the output is idle only while neither a reply nor a notice waits. -/
def Obligations.QueuesStayBounded : Prop :=
  ∀ s t : State, s.noticesKept → s.linkBounded → step s = .next t → t.noticesKept ∧ t.linkBounded

/-! ## Retention -/

/-- R169, R171: CHECKPOINT NOW and the checkpoint timer begin a checkpoint where none is in flight, and nothing new where one
is: the configuration record is written first where its flag is yes, else the account record of the first defined zone, its
content taken as its write begins; with nothing to write the checkpoint is complete at once, with STORE DONE and both counts 0.
That the timer's expiry before its moment does nothing is the model's choice, log entry 2. -/
def Obligations.CheckpointsBegin : Prop :=
  ∀ (s : State) (tag : Byte),
    (TakenUp (.checkpointNow tag []) s →
      (∀ c, s.checkpoint = some c → Answers (.checkpointNow tag []) s .done [] s)
      ∧ (s.checkpoint = none → s.configChanged = true → Answers (.checkpointNow tag []) s .done []
          { s with configChanged := false, checkpoint := some ⟨false, .config ⟨s.configuration, s.clock⟩, 0, 0⟩ })
      ∧ (∀ z r, s.checkpoint = none → s.configChanged = false → s.zone? z = some r →
          (∀ k, k < z → s.zone? k = none) → Answers (.checkpointNow tag []) s .done []
          { s with checkpoint := some ⟨false, .account z ⟨r.account.dose, r.account.residue, r.account.openSeconds,
              r.account.season, r.account.saturated, r.isOpen⟩, 0, 0⟩ })
      ∧ (s.checkpoint = none → s.configChanged = false → (∀ z, s.zone? z = none) →
          Answers (.checkpointNow tag []) s .done [] (s.offer (.storeDone 0 0) .none)))
    ∧ (s.running = true → s.now < s.checkpointDue → Happens .checkpointTimerExpiry s s)
    ∧ ∀ u : State, s.running = true → s.checkpointDue ≤ s.now → u = { s with checkpointDue := s.checkpointDue + 900 } →
      (∀ c, s.checkpoint = some c → Happens .checkpointTimerExpiry s u)
      ∧ (s.checkpoint = none → s.configChanged = true → Happens .checkpointTimerExpiry s
          { u with configChanged := false, checkpoint := some ⟨false, .config ⟨s.configuration, s.clock⟩, 0, 0⟩ })
      ∧ (∀ z r, s.checkpoint = none → s.configChanged = false → s.zone? z = some r → (∀ k, k < z → s.zone? k = none) →
          Happens .checkpointTimerExpiry s { u with
            checkpoint := some ⟨false, .account z ⟨r.account.dose, r.account.residue, r.account.openSeconds,
              r.account.season, r.account.saturated, r.isOpen⟩, 0, 0⟩ })
      ∧ (s.checkpoint = none → s.configChanged = false → (∀ z, s.zone? z = none) →
          (∀ q, s.restarting = some q → q.checkpointWaits = false) →
          Happens .checkpointTimerExpiry s (u.offer (.storeDone 0 0) .none))

/-- R169, R170: the end of a record write outside a RESTART: the record holds its new content where the read-back agrees, and
fails its check where it does not, with CHECKPOINT FAILED, which for the configuration record sets the flag again; the write of
the next defined zone's account record begins, or STORE DONE is offered.
That STORE DONE counts a failed write as failed alone is the model's reading, log entry 10. -/
def Obligations.RecordWriteEnds : Prop :=
  ∀ (s : State) (sense : TermSense) (c : Checkpoint), s.running = true → s.restarting = none → s.checkpoint = some c →
    (∃ t, Happens (.recordWriteEnd true sense) s t
      ∧ (∀ x, c.writing = .config x → t.store = { s.store with config := some x })
      ∧ (∀ z x, c.writing = .account z x → t.store = { s.store with accounts := slotSet s.store.accounts z (some x) })
      ∧ (∀ z r, s.zone? z = some r → c.writing.number < z → (∀ k, c.writing.number < k → k < z → s.zone? k = none) →
          t = { s with
            store := t.store, checkpoint := some ⟨c.full, .account z r.accountRecord, c.written + 1, c.failed⟩ })
      ∧ ((∀ k, c.writing.number < k → s.zone? k = none) →
          t = { s.offer (.storeDone (c.written + 1) c.failed) .none with store := t.store, checkpoint := none }))
    ∧ ∃ t v, Happens (.recordWriteEnd false sense) s t
      ∧ v = s.offer (.checkpointFailed c.writing.number) .none
      ∧ (∀ x, c.writing = .config x → t.store = { s.store with config := none } ∧ t.configChanged = true)
      ∧ (∀ z x, c.writing = .account z x → t.store = { s.store with accounts := slotSet s.store.accounts z none }
          ∧ (1 ≤ z → t.configChanged = s.configChanged))
      ∧ (∀ z r, s.zone? z = some r → c.writing.number < z → (∀ k, c.writing.number < k → k < z → s.zone? k = none) →
          t = { v with
            store := t.store, configChanged := t.configChanged
            checkpoint := some ⟨c.full, .account z r.accountRecord, c.written, c.failed + 1⟩ })
      ∧ ((∀ k, c.writing.number < k → s.zone? k = none) →
          t = { v.offer (.storeDone c.written (c.failed + 1)) .none with
            store := t.store, configChanged := t.configChanged, checkpoint := none })

/-- R174, R128, R161: RESTART is answered DONE; it abandons an enrolment on either line and begins a full checkpoint, which waits
for one in flight. Until its start a request that arrives waits in the intake, is answered FULL or is discarded, and none that
waits is taken up; the sending of its reply and the end of its full checkpoint are the two ends that the start waits for.
That a line from which an enrolment is taken starts its round at once, and that a fifth request is answered FULL meanwhile, are
the model's readings: log entries 21, 33. -/
def Obligations.RestartRunsFullCheckpoint : Prop :=
  (∀ (s : State) (tag : Byte), TakenUp (.restart tag []) s →
    ∃ t, Answers (.restart tag []) s .done [] t
      ∧ (s.checkpoint = none → t = { s with
          lines := t.lines, restarting := some ⟨false, false, false⟩, configChanged := false
          checkpoint := some ⟨true, .config ⟨s.configuration, s.clock⟩, 0, 0⟩ })
      ∧ (∀ w, s.checkpoint = some w → t = { s with lines := t.lines, restarting := some ⟨true, false, false⟩ })
      ∧ ∀ n r, s.line? n = some r →
        (r.enrolment = none → t.line? n = some r)
        ∧ ∀ kept, r.enrolment ≠ none →
          (∀ x, r.inFlight = some x → kept = if x.ask = .ident then none else some x) → (r.inFlight = none → kept = none) →
          (r.state = .enrolling → t.line? n = some
            ({ r with enrolment := none, inFlight := kept, state := .active }.nextRound s))
          ∧ (r.state = .active → r.roundInProgress = false → r.roundDue = none →
            t.line? n = some ({ r with enrolment := none, inFlight := kept }.nextRound s))
          ∧ (r.state ≠ .enrolling → (r.state ≠ .active ∨ r.roundInProgress = true ∨ r.roundDue ≠ none) →
            t.line? n = some { r with enrolment := none, inFlight := kept }))
  ∧ (∀ (s : State) (c : Instr) (f : Frame) (q : Restart), s.running = true → c.request? = some f →
    s.restarting = some q →
    (s.link.intake.length < 4 → Happens c s { s with link := { s.link with intake := s.link.intake ++ [f] } })
    ∧ (4 ≤ s.link.intake.length → s.link.replies.length < 8 →
        Happens c s { s with link := { s.link with replies := s.link.replies ++
          [⟨f.tag, if 1 ≤ f.kind.toNat ∧ f.kind.toNat ≤ 0x1F then f.kind + 0x80 else 0xFF, [0x10]⟩] } })
    ∧ (4 ≤ s.link.intake.length → 8 ≤ s.link.replies.length → Happens c s s))
  ∧ (∀ (s : State) (sense : TermSense) (q : Restart) (o : Sending), s.running = true → s.restarting = some q →
    s.link.output = some o → o.restartReply = true → q.checkpointDone = false →
    (∀ f rest, s.link.replies = f :: rest → exec (.outputFrameSent sense) s = .next { s with
      restarting := some { q with replySent := true }
      link := { s.link with
        replies := rest, output := some ⟨f.wire, decide (f.kind = 0x9F ∧ f.body = [0x00])⟩ } })
    ∧ (∀ y rest, s.link.replies = [] → s.notices = y :: rest → exec (.outputFrameSent sense) s = .next { s with
      restarting := some { q with replySent := true }, notices := rest
      link := { s.link with output := some ⟨y.frame.wire, false⟩ } })
    ∧ (s.link.replies = [] → s.notices = [] → exec (.outputFrameSent sense) s = .next { s with
      restarting := some { q with replySent := true }, link := { s.link with output := none } }))
  ∧ ∀ (s : State) (sense : TermSense) (q : Restart) (w : Checkpoint) (agrees : Bool), s.running = true →
    s.restarting = some q → s.checkpoint = some w → (q.checkpointDone = true → q.replySent = false) →
    (w.full = true → q.replySent = true → ∃ k y, w.writing.number < k ∧ s.zone? k = some y) →
    ∃ t, Happens (.recordWriteEnd agrees sense) s t ∧ t.store = s.store.put w.writing agrees
      ∧ (∀ z y, s.zone? z = some y → w.writing.number < z → (∀ k, w.writing.number < k → k < z → s.zone? k = none) →
        t.restarting = some q ∧ t.checkpoint = some ⟨w.full, .account z y.accountRecord,
          if agrees then w.written + 1 else w.written, if agrees then w.failed else w.failed + 1⟩)
      ∧ ((∀ k, w.writing.number < k → s.zone? k = none) →
        (w.full = true → q.replySent = false → t.restarting = some { q with checkpointDone := true }
          ∧ t.checkpoint = none)
        ∧ (w.full = false → q.checkpointWaits = true → t.restarting = some { q with checkpointWaits := false }
          ∧ t.checkpoint = some ⟨true, .config ⟨s.configuration, s.clock⟩, 0, 0⟩))
      ∧ t = { s with
        restarting := t.restarting, store := t.store, configChanged := t.configChanged, checkpoint := t.checkpoint
        notices := t.notices, alarm := t.alarm, pulsing := t.pulsing }
end

