-- ==== Sys2Proof/Laws/State.lean ====
section
/-! SUPPORT. The small lemmas of the state: each field after each named update, the numbered tables, and reading a record of one
kind after writing one of another. -/

namespace Sys2Proof.Machine

/-! ## Fields after an update -/

@[simp] theorem State.putZone_powered (s : State) (z : Nat) (r : Zone) : (s.putZone z r).powered = s.powered := rfl
@[simp] theorem State.putZone_resetLow (s : State) (z : Nat) (r : Zone) : (s.putZone z r).resetLow = s.resetLow := rfl
@[simp] theorem State.putZone_restarting (s : State) (z : Nat) (r : Zone) : (s.putZone z r).restarting = s.restarting := rfl
@[simp] theorem State.putZone_now (s : State) (z : Nat) (r : Zone) : (s.putZone z r).now = s.now := rfl
@[simp] theorem State.putZone_clock (s : State) (z : Nat) (r : Zone) : (s.putZone z r).clock = s.clock := rfl
@[simp] theorem State.putZone_synced (s : State) (z : Nat) (r : Zone) : (s.putZone z r).synced = s.synced := rfl
@[simp] theorem State.putZone_zones (s : State) (z : Nat) (r : Zone) : (s.putZone z r).zones = slotSet s.zones z (some r) := rfl
@[simp] theorem State.putZone_banks (s : State) (z : Nat) (r : Zone) : (s.putZone z r).banks = s.banks := rfl
@[simp] theorem State.putZone_plants (s : State) (z : Nat) (r : Zone) : (s.putZone z r).plants = s.plants := rfl
@[simp] theorem State.putZone_devices (s : State) (z : Nat) (r : Zone) : (s.putZone z r).devices = s.devices := rfl
@[simp] theorem State.putZone_lines (s : State) (z : Nat) (r : Zone) : (s.putZone z r).lines = s.lines := rfl
@[simp] theorem State.putZone_notices (s : State) (z : Nat) (r : Zone) : (s.putZone z r).notices = s.notices := rfl
@[simp] theorem State.putZone_report (s : State) (z : Nat) (r : Zone) : (s.putZone z r).report = s.report := rfl
@[simp] theorem State.putZone_alarm (s : State) (z : Nat) (r : Zone) : (s.putZone z r).alarm = s.alarm := rfl
@[simp] theorem State.putZone_pulsing (s : State) (z : Nat) (r : Zone) : (s.putZone z r).pulsing = s.pulsing := rfl
@[simp] theorem State.putZone_link (s : State) (z : Nat) (r : Zone) : (s.putZone z r).link = s.link := rfl
@[simp] theorem State.putZone_store (s : State) (z : Nat) (r : Zone) : (s.putZone z r).store = s.store := rfl
@[simp] theorem State.putZone_configChanged (s : State) (z : Nat) (r : Zone) : (s.putZone z r).configChanged = s.configChanged := rfl
@[simp] theorem State.putZone_checkpoint (s : State) (z : Nat) (r : Zone) : (s.putZone z r).checkpoint = s.checkpoint := rfl
@[simp] theorem State.putZone_checkpointDue (s : State) (z : Nat) (r : Zone) : (s.putZone z r).checkpointDue = s.checkpointDue := rfl
@[simp] theorem State.putZone_freeIx (s : State) (z : Nat) (r : Zone) : (s.putZone z r).freeIx = s.freeIx := rfl
@[simp] theorem State.putZone_pending (s : State) (z : Nat) (r : Zone) : (s.putZone z r).pending = s.pending := rfl

@[simp] theorem State.putBank_powered (s : State) (b : Nat) (r : Bank) : (s.putBank b r).powered = s.powered := rfl
@[simp] theorem State.putBank_resetLow (s : State) (b : Nat) (r : Bank) : (s.putBank b r).resetLow = s.resetLow := rfl
@[simp] theorem State.putBank_restarting (s : State) (b : Nat) (r : Bank) : (s.putBank b r).restarting = s.restarting := rfl
@[simp] theorem State.putBank_now (s : State) (b : Nat) (r : Bank) : (s.putBank b r).now = s.now := rfl
@[simp] theorem State.putBank_clock (s : State) (b : Nat) (r : Bank) : (s.putBank b r).clock = s.clock := rfl
@[simp] theorem State.putBank_synced (s : State) (b : Nat) (r : Bank) : (s.putBank b r).synced = s.synced := rfl
@[simp] theorem State.putBank_zones (s : State) (b : Nat) (r : Bank) : (s.putBank b r).zones = s.zones := rfl
@[simp] theorem State.putBank_banks (s : State) (b : Nat) (r : Bank) : (s.putBank b r).banks = slotSet s.banks b (some r) := rfl
@[simp] theorem State.putBank_plants (s : State) (b : Nat) (r : Bank) : (s.putBank b r).plants = s.plants := rfl
@[simp] theorem State.putBank_devices (s : State) (b : Nat) (r : Bank) : (s.putBank b r).devices = s.devices := rfl
@[simp] theorem State.putBank_lines (s : State) (b : Nat) (r : Bank) : (s.putBank b r).lines = s.lines := rfl
@[simp] theorem State.putBank_notices (s : State) (b : Nat) (r : Bank) : (s.putBank b r).notices = s.notices := rfl
@[simp] theorem State.putBank_report (s : State) (b : Nat) (r : Bank) : (s.putBank b r).report = s.report := rfl
@[simp] theorem State.putBank_alarm (s : State) (b : Nat) (r : Bank) : (s.putBank b r).alarm = s.alarm := rfl
@[simp] theorem State.putBank_pulsing (s : State) (b : Nat) (r : Bank) : (s.putBank b r).pulsing = s.pulsing := rfl
@[simp] theorem State.putBank_link (s : State) (b : Nat) (r : Bank) : (s.putBank b r).link = s.link := rfl
@[simp] theorem State.putBank_store (s : State) (b : Nat) (r : Bank) : (s.putBank b r).store = s.store := rfl
@[simp] theorem State.putBank_configChanged (s : State) (b : Nat) (r : Bank) : (s.putBank b r).configChanged = s.configChanged := rfl
@[simp] theorem State.putBank_checkpoint (s : State) (b : Nat) (r : Bank) : (s.putBank b r).checkpoint = s.checkpoint := rfl
@[simp] theorem State.putBank_checkpointDue (s : State) (b : Nat) (r : Bank) : (s.putBank b r).checkpointDue = s.checkpointDue := rfl
@[simp] theorem State.putBank_freeIx (s : State) (b : Nat) (r : Bank) : (s.putBank b r).freeIx = s.freeIx := rfl
@[simp] theorem State.putBank_pending (s : State) (b : Nat) (r : Bank) : (s.putBank b r).pending = s.pending := rfl

@[simp] theorem State.putPlant_powered (s : State) (p : Nat) (r : Plant) : (s.putPlant p r).powered = s.powered := rfl
@[simp] theorem State.putPlant_resetLow (s : State) (p : Nat) (r : Plant) : (s.putPlant p r).resetLow = s.resetLow := rfl
@[simp] theorem State.putPlant_restarting (s : State) (p : Nat) (r : Plant) : (s.putPlant p r).restarting = s.restarting := rfl
@[simp] theorem State.putPlant_now (s : State) (p : Nat) (r : Plant) : (s.putPlant p r).now = s.now := rfl
@[simp] theorem State.putPlant_clock (s : State) (p : Nat) (r : Plant) : (s.putPlant p r).clock = s.clock := rfl
@[simp] theorem State.putPlant_synced (s : State) (p : Nat) (r : Plant) : (s.putPlant p r).synced = s.synced := rfl
@[simp] theorem State.putPlant_zones (s : State) (p : Nat) (r : Plant) : (s.putPlant p r).zones = s.zones := rfl
@[simp] theorem State.putPlant_banks (s : State) (p : Nat) (r : Plant) : (s.putPlant p r).banks = s.banks := rfl
@[simp] theorem State.putPlant_plants (s : State) (p : Nat) (r : Plant) : (s.putPlant p r).plants = slotSet s.plants p (some r) := rfl
@[simp] theorem State.putPlant_devices (s : State) (p : Nat) (r : Plant) : (s.putPlant p r).devices = s.devices := rfl
@[simp] theorem State.putPlant_lines (s : State) (p : Nat) (r : Plant) : (s.putPlant p r).lines = s.lines := rfl
@[simp] theorem State.putPlant_notices (s : State) (p : Nat) (r : Plant) : (s.putPlant p r).notices = s.notices := rfl
@[simp] theorem State.putPlant_report (s : State) (p : Nat) (r : Plant) : (s.putPlant p r).report = s.report := rfl
@[simp] theorem State.putPlant_alarm (s : State) (p : Nat) (r : Plant) : (s.putPlant p r).alarm = s.alarm := rfl
@[simp] theorem State.putPlant_pulsing (s : State) (p : Nat) (r : Plant) : (s.putPlant p r).pulsing = s.pulsing := rfl
@[simp] theorem State.putPlant_link (s : State) (p : Nat) (r : Plant) : (s.putPlant p r).link = s.link := rfl
@[simp] theorem State.putPlant_store (s : State) (p : Nat) (r : Plant) : (s.putPlant p r).store = s.store := rfl
@[simp] theorem State.putPlant_configChanged (s : State) (p : Nat) (r : Plant) : (s.putPlant p r).configChanged = s.configChanged := rfl
@[simp] theorem State.putPlant_checkpoint (s : State) (p : Nat) (r : Plant) : (s.putPlant p r).checkpoint = s.checkpoint := rfl
@[simp] theorem State.putPlant_checkpointDue (s : State) (p : Nat) (r : Plant) : (s.putPlant p r).checkpointDue = s.checkpointDue := rfl
@[simp] theorem State.putPlant_freeIx (s : State) (p : Nat) (r : Plant) : (s.putPlant p r).freeIx = s.freeIx := rfl
@[simp] theorem State.putPlant_pending (s : State) (p : Nat) (r : Plant) : (s.putPlant p r).pending = s.pending := rfl

@[simp] theorem State.putLine_powered (s : State) (l : Nat) (r : Line) : (s.putLine l r).powered = s.powered := rfl
@[simp] theorem State.putLine_resetLow (s : State) (l : Nat) (r : Line) : (s.putLine l r).resetLow = s.resetLow := rfl
@[simp] theorem State.putLine_restarting (s : State) (l : Nat) (r : Line) : (s.putLine l r).restarting = s.restarting := rfl
@[simp] theorem State.putLine_now (s : State) (l : Nat) (r : Line) : (s.putLine l r).now = s.now := rfl
@[simp] theorem State.putLine_clock (s : State) (l : Nat) (r : Line) : (s.putLine l r).clock = s.clock := rfl
@[simp] theorem State.putLine_synced (s : State) (l : Nat) (r : Line) : (s.putLine l r).synced = s.synced := rfl
@[simp] theorem State.putLine_zones (s : State) (l : Nat) (r : Line) : (s.putLine l r).zones = s.zones := rfl
@[simp] theorem State.putLine_banks (s : State) (l : Nat) (r : Line) : (s.putLine l r).banks = s.banks := rfl
@[simp] theorem State.putLine_plants (s : State) (l : Nat) (r : Line) : (s.putLine l r).plants = s.plants := rfl
@[simp] theorem State.putLine_devices (s : State) (l : Nat) (r : Line) : (s.putLine l r).devices = s.devices := rfl
@[simp] theorem State.putLine_lines (s : State) (l : Nat) (r : Line) : (s.putLine l r).lines = slotSet s.lines l r := rfl
@[simp] theorem State.putLine_notices (s : State) (l : Nat) (r : Line) : (s.putLine l r).notices = s.notices := rfl
@[simp] theorem State.putLine_report (s : State) (l : Nat) (r : Line) : (s.putLine l r).report = s.report := rfl
@[simp] theorem State.putLine_alarm (s : State) (l : Nat) (r : Line) : (s.putLine l r).alarm = s.alarm := rfl
@[simp] theorem State.putLine_pulsing (s : State) (l : Nat) (r : Line) : (s.putLine l r).pulsing = s.pulsing := rfl
@[simp] theorem State.putLine_link (s : State) (l : Nat) (r : Line) : (s.putLine l r).link = s.link := rfl
@[simp] theorem State.putLine_store (s : State) (l : Nat) (r : Line) : (s.putLine l r).store = s.store := rfl
@[simp] theorem State.putLine_configChanged (s : State) (l : Nat) (r : Line) : (s.putLine l r).configChanged = s.configChanged := rfl
@[simp] theorem State.putLine_checkpoint (s : State) (l : Nat) (r : Line) : (s.putLine l r).checkpoint = s.checkpoint := rfl
@[simp] theorem State.putLine_checkpointDue (s : State) (l : Nat) (r : Line) : (s.putLine l r).checkpointDue = s.checkpointDue := rfl
@[simp] theorem State.putLine_freeIx (s : State) (l : Nat) (r : Line) : (s.putLine l r).freeIx = s.freeIx := rfl
@[simp] theorem State.putLine_pending (s : State) (l : Nat) (r : Line) : (s.putLine l r).pending = s.pending := rfl

@[simp] theorem State.addDevice_powered (s : State) (e : Device) : (s.addDevice e).powered = s.powered := rfl
@[simp] theorem State.addDevice_resetLow (s : State) (e : Device) : (s.addDevice e).resetLow = s.resetLow := rfl
@[simp] theorem State.addDevice_restarting (s : State) (e : Device) : (s.addDevice e).restarting = s.restarting := rfl
@[simp] theorem State.addDevice_now (s : State) (e : Device) : (s.addDevice e).now = s.now := rfl
@[simp] theorem State.addDevice_clock (s : State) (e : Device) : (s.addDevice e).clock = s.clock := rfl
@[simp] theorem State.addDevice_synced (s : State) (e : Device) : (s.addDevice e).synced = s.synced := rfl
@[simp] theorem State.addDevice_zones (s : State) (e : Device) : (s.addDevice e).zones = s.zones := rfl
@[simp] theorem State.addDevice_banks (s : State) (e : Device) : (s.addDevice e).banks = s.banks := rfl
@[simp] theorem State.addDevice_plants (s : State) (e : Device) : (s.addDevice e).plants = s.plants := rfl
@[simp] theorem State.addDevice_devices (s : State) (e : Device) : (s.addDevice e).devices = insertDevice e s.devices := rfl
@[simp] theorem State.addDevice_lines (s : State) (e : Device) : (s.addDevice e).lines = s.lines := rfl
@[simp] theorem State.addDevice_notices (s : State) (e : Device) : (s.addDevice e).notices = s.notices := rfl
@[simp] theorem State.addDevice_report (s : State) (e : Device) : (s.addDevice e).report = s.report := rfl
@[simp] theorem State.addDevice_alarm (s : State) (e : Device) : (s.addDevice e).alarm = s.alarm := rfl
@[simp] theorem State.addDevice_pulsing (s : State) (e : Device) : (s.addDevice e).pulsing = s.pulsing := rfl
@[simp] theorem State.addDevice_link (s : State) (e : Device) : (s.addDevice e).link = s.link := rfl
@[simp] theorem State.addDevice_store (s : State) (e : Device) : (s.addDevice e).store = s.store := rfl
@[simp] theorem State.addDevice_configChanged (s : State) (e : Device) : (s.addDevice e).configChanged = s.configChanged := rfl
@[simp] theorem State.addDevice_checkpoint (s : State) (e : Device) : (s.addDevice e).checkpoint = s.checkpoint := rfl
@[simp] theorem State.addDevice_checkpointDue (s : State) (e : Device) : (s.addDevice e).checkpointDue = s.checkpointDue := rfl
@[simp] theorem State.addDevice_freeIx (s : State) (e : Device) : (s.addDevice e).freeIx = s.freeIx := rfl
@[simp] theorem State.addDevice_pending (s : State) (e : Device) : (s.addDevice e).pending = s.pending := rfl

@[simp] theorem State.removeDevice_powered (s : State) (d : DeviceAddr) : (s.removeDevice d).powered = s.powered := rfl
@[simp] theorem State.removeDevice_resetLow (s : State) (d : DeviceAddr) : (s.removeDevice d).resetLow = s.resetLow := rfl
@[simp] theorem State.removeDevice_restarting (s : State) (d : DeviceAddr) : (s.removeDevice d).restarting = s.restarting := rfl
@[simp] theorem State.removeDevice_now (s : State) (d : DeviceAddr) : (s.removeDevice d).now = s.now := rfl
@[simp] theorem State.removeDevice_clock (s : State) (d : DeviceAddr) : (s.removeDevice d).clock = s.clock := rfl
@[simp] theorem State.removeDevice_synced (s : State) (d : DeviceAddr) : (s.removeDevice d).synced = s.synced := rfl
@[simp] theorem State.removeDevice_zones (s : State) (d : DeviceAddr) : (s.removeDevice d).zones = s.zones := rfl
@[simp] theorem State.removeDevice_banks (s : State) (d : DeviceAddr) : (s.removeDevice d).banks = s.banks := rfl
@[simp] theorem State.removeDevice_plants (s : State) (d : DeviceAddr) : (s.removeDevice d).plants = s.plants := rfl
@[simp] theorem State.removeDevice_devices (s : State) (d : DeviceAddr) : (s.removeDevice d).devices = s.devices.filter fun e => !e.at d := rfl
@[simp] theorem State.removeDevice_lines (s : State) (d : DeviceAddr) : (s.removeDevice d).lines = s.lines := rfl
@[simp] theorem State.removeDevice_notices (s : State) (d : DeviceAddr) : (s.removeDevice d).notices = s.notices := rfl
@[simp] theorem State.removeDevice_report (s : State) (d : DeviceAddr) : (s.removeDevice d).report = s.report := rfl
@[simp] theorem State.removeDevice_alarm (s : State) (d : DeviceAddr) : (s.removeDevice d).alarm = s.alarm := rfl
@[simp] theorem State.removeDevice_pulsing (s : State) (d : DeviceAddr) : (s.removeDevice d).pulsing = s.pulsing := rfl
@[simp] theorem State.removeDevice_link (s : State) (d : DeviceAddr) : (s.removeDevice d).link = s.link := rfl
@[simp] theorem State.removeDevice_store (s : State) (d : DeviceAddr) : (s.removeDevice d).store = s.store := rfl
@[simp] theorem State.removeDevice_configChanged (s : State) (d : DeviceAddr) : (s.removeDevice d).configChanged = s.configChanged := rfl
@[simp] theorem State.removeDevice_checkpoint (s : State) (d : DeviceAddr) : (s.removeDevice d).checkpoint = s.checkpoint := rfl
@[simp] theorem State.removeDevice_checkpointDue (s : State) (d : DeviceAddr) : (s.removeDevice d).checkpointDue = s.checkpointDue := rfl
@[simp] theorem State.removeDevice_freeIx (s : State) (d : DeviceAddr) : (s.removeDevice d).freeIx = s.freeIx := rfl
@[simp] theorem State.removeDevice_pending (s : State) (d : DeviceAddr) : (s.removeDevice d).pending = s.pending := rfl

@[simp] theorem State.modDevice_powered (s : State) (d : DeviceAddr) (f : Device → Device) : (s.modDevice d f).powered = s.powered := rfl
@[simp] theorem State.modDevice_resetLow (s : State) (d : DeviceAddr) (f : Device → Device) : (s.modDevice d f).resetLow = s.resetLow := rfl
@[simp] theorem State.modDevice_restarting (s : State) (d : DeviceAddr) (f : Device → Device) : (s.modDevice d f).restarting = s.restarting := rfl
@[simp] theorem State.modDevice_now (s : State) (d : DeviceAddr) (f : Device → Device) : (s.modDevice d f).now = s.now := rfl
@[simp] theorem State.modDevice_clock (s : State) (d : DeviceAddr) (f : Device → Device) : (s.modDevice d f).clock = s.clock := rfl
@[simp] theorem State.modDevice_synced (s : State) (d : DeviceAddr) (f : Device → Device) : (s.modDevice d f).synced = s.synced := rfl
@[simp] theorem State.modDevice_zones (s : State) (d : DeviceAddr) (f : Device → Device) : (s.modDevice d f).zones = s.zones := rfl
@[simp] theorem State.modDevice_banks (s : State) (d : DeviceAddr) (f : Device → Device) : (s.modDevice d f).banks = s.banks := rfl
@[simp] theorem State.modDevice_plants (s : State) (d : DeviceAddr) (f : Device → Device) : (s.modDevice d f).plants = s.plants := rfl
@[simp] theorem State.modDevice_devices (s : State) (d : DeviceAddr) (f : Device → Device) : (s.modDevice d f).devices = s.devices.map fun e => if e.at d then f e else e := rfl
@[simp] theorem State.modDevice_lines (s : State) (d : DeviceAddr) (f : Device → Device) : (s.modDevice d f).lines = s.lines := rfl
@[simp] theorem State.modDevice_notices (s : State) (d : DeviceAddr) (f : Device → Device) : (s.modDevice d f).notices = s.notices := rfl
@[simp] theorem State.modDevice_report (s : State) (d : DeviceAddr) (f : Device → Device) : (s.modDevice d f).report = s.report := rfl
@[simp] theorem State.modDevice_alarm (s : State) (d : DeviceAddr) (f : Device → Device) : (s.modDevice d f).alarm = s.alarm := rfl
@[simp] theorem State.modDevice_pulsing (s : State) (d : DeviceAddr) (f : Device → Device) : (s.modDevice d f).pulsing = s.pulsing := rfl
@[simp] theorem State.modDevice_link (s : State) (d : DeviceAddr) (f : Device → Device) : (s.modDevice d f).link = s.link := rfl
@[simp] theorem State.modDevice_store (s : State) (d : DeviceAddr) (f : Device → Device) : (s.modDevice d f).store = s.store := rfl
@[simp] theorem State.modDevice_configChanged (s : State) (d : DeviceAddr) (f : Device → Device) : (s.modDevice d f).configChanged = s.configChanged := rfl
@[simp] theorem State.modDevice_checkpoint (s : State) (d : DeviceAddr) (f : Device → Device) : (s.modDevice d f).checkpoint = s.checkpoint := rfl
@[simp] theorem State.modDevice_checkpointDue (s : State) (d : DeviceAddr) (f : Device → Device) : (s.modDevice d f).checkpointDue = s.checkpointDue := rfl
@[simp] theorem State.modDevice_freeIx (s : State) (d : DeviceAddr) (f : Device → Device) : (s.modDevice d f).freeIx = s.freeIx := rfl
@[simp] theorem State.modDevice_pending (s : State) (d : DeviceAddr) (f : Device → Device) : (s.modDevice d f).pending = s.pending := rfl

@[simp] theorem State.useFree_powered (s : State) : (s.useFree).powered = s.powered := rfl
@[simp] theorem State.useFree_resetLow (s : State) : (s.useFree).resetLow = s.resetLow := rfl
@[simp] theorem State.useFree_restarting (s : State) : (s.useFree).restarting = s.restarting := rfl
@[simp] theorem State.useFree_now (s : State) : (s.useFree).now = s.now := rfl
@[simp] theorem State.useFree_clock (s : State) : (s.useFree).clock = s.clock := rfl
@[simp] theorem State.useFree_synced (s : State) : (s.useFree).synced = s.synced := rfl
@[simp] theorem State.useFree_zones (s : State) : (s.useFree).zones = s.zones := rfl
@[simp] theorem State.useFree_banks (s : State) : (s.useFree).banks = s.banks := rfl
@[simp] theorem State.useFree_plants (s : State) : (s.useFree).plants = s.plants := rfl
@[simp] theorem State.useFree_devices (s : State) : (s.useFree).devices = s.devices := rfl
@[simp] theorem State.useFree_lines (s : State) : (s.useFree).lines = s.lines := rfl
@[simp] theorem State.useFree_notices (s : State) : (s.useFree).notices = s.notices := rfl
@[simp] theorem State.useFree_report (s : State) : (s.useFree).report = s.report := rfl
@[simp] theorem State.useFree_alarm (s : State) : (s.useFree).alarm = s.alarm := rfl
@[simp] theorem State.useFree_pulsing (s : State) : (s.useFree).pulsing = s.pulsing := rfl
@[simp] theorem State.useFree_link (s : State) : (s.useFree).link = s.link := rfl
@[simp] theorem State.useFree_store (s : State) : (s.useFree).store = s.store := rfl
@[simp] theorem State.useFree_configChanged (s : State) : (s.useFree).configChanged = s.configChanged := rfl
@[simp] theorem State.useFree_checkpoint (s : State) : (s.useFree).checkpoint = s.checkpoint := rfl
@[simp] theorem State.useFree_checkpointDue (s : State) : (s.useFree).checkpointDue = s.checkpointDue := rfl
@[simp] theorem State.useFree_freeIx (s : State) : (s.useFree).freeIx = s.freeIx + 1 := rfl
@[simp] theorem State.useFree_pending (s : State) : (s.useFree).pending = s.pending := rfl

@[simp] theorem State.queueReply_powered (s : State) (f : Frame) : (s.queueReply f).powered = s.powered := rfl
@[simp] theorem State.queueReply_resetLow (s : State) (f : Frame) : (s.queueReply f).resetLow = s.resetLow := rfl
@[simp] theorem State.queueReply_restarting (s : State) (f : Frame) : (s.queueReply f).restarting = s.restarting := rfl
@[simp] theorem State.queueReply_now (s : State) (f : Frame) : (s.queueReply f).now = s.now := rfl
@[simp] theorem State.queueReply_clock (s : State) (f : Frame) : (s.queueReply f).clock = s.clock := rfl
@[simp] theorem State.queueReply_synced (s : State) (f : Frame) : (s.queueReply f).synced = s.synced := rfl
@[simp] theorem State.queueReply_zones (s : State) (f : Frame) : (s.queueReply f).zones = s.zones := rfl
@[simp] theorem State.queueReply_banks (s : State) (f : Frame) : (s.queueReply f).banks = s.banks := rfl
@[simp] theorem State.queueReply_plants (s : State) (f : Frame) : (s.queueReply f).plants = s.plants := rfl
@[simp] theorem State.queueReply_devices (s : State) (f : Frame) : (s.queueReply f).devices = s.devices := rfl
@[simp] theorem State.queueReply_lines (s : State) (f : Frame) : (s.queueReply f).lines = s.lines := rfl
@[simp] theorem State.queueReply_notices (s : State) (f : Frame) : (s.queueReply f).notices = s.notices := rfl
@[simp] theorem State.queueReply_report (s : State) (f : Frame) : (s.queueReply f).report = s.report := rfl
@[simp] theorem State.queueReply_alarm (s : State) (f : Frame) : (s.queueReply f).alarm = s.alarm := rfl
@[simp] theorem State.queueReply_pulsing (s : State) (f : Frame) : (s.queueReply f).pulsing = s.pulsing := rfl
@[simp] theorem State.queueReply_link (s : State) (f : Frame) : (s.queueReply f).link = { s.link with replies := s.link.replies ++ [f] } := rfl
@[simp] theorem State.queueReply_store (s : State) (f : Frame) : (s.queueReply f).store = s.store := rfl
@[simp] theorem State.queueReply_configChanged (s : State) (f : Frame) : (s.queueReply f).configChanged = s.configChanged := rfl
@[simp] theorem State.queueReply_checkpoint (s : State) (f : Frame) : (s.queueReply f).checkpoint = s.checkpoint := rfl
@[simp] theorem State.queueReply_checkpointDue (s : State) (f : Frame) : (s.queueReply f).checkpointDue = s.checkpointDue := rfl
@[simp] theorem State.queueReply_freeIx (s : State) (f : Frame) : (s.queueReply f).freeIx = s.freeIx := rfl
@[simp] theorem State.queueReply_pending (s : State) (f : Frame) : (s.queueReply f).pending = s.pending := rfl

@[simp] theorem State.leaveIntake_powered (s : State) : (s.leaveIntake).powered = s.powered := rfl
@[simp] theorem State.leaveIntake_resetLow (s : State) : (s.leaveIntake).resetLow = s.resetLow := rfl
@[simp] theorem State.leaveIntake_restarting (s : State) : (s.leaveIntake).restarting = s.restarting := rfl
@[simp] theorem State.leaveIntake_now (s : State) : (s.leaveIntake).now = s.now := rfl
@[simp] theorem State.leaveIntake_clock (s : State) : (s.leaveIntake).clock = s.clock := rfl
@[simp] theorem State.leaveIntake_synced (s : State) : (s.leaveIntake).synced = s.synced := rfl
@[simp] theorem State.leaveIntake_zones (s : State) : (s.leaveIntake).zones = s.zones := rfl
@[simp] theorem State.leaveIntake_banks (s : State) : (s.leaveIntake).banks = s.banks := rfl
@[simp] theorem State.leaveIntake_plants (s : State) : (s.leaveIntake).plants = s.plants := rfl
@[simp] theorem State.leaveIntake_devices (s : State) : (s.leaveIntake).devices = s.devices := rfl
@[simp] theorem State.leaveIntake_lines (s : State) : (s.leaveIntake).lines = s.lines := rfl
@[simp] theorem State.leaveIntake_notices (s : State) : (s.leaveIntake).notices = s.notices := rfl
@[simp] theorem State.leaveIntake_report (s : State) : (s.leaveIntake).report = s.report := rfl
@[simp] theorem State.leaveIntake_alarm (s : State) : (s.leaveIntake).alarm = s.alarm := rfl
@[simp] theorem State.leaveIntake_pulsing (s : State) : (s.leaveIntake).pulsing = s.pulsing := rfl
@[simp] theorem State.leaveIntake_link (s : State) : (s.leaveIntake).link = { s.link with intake := s.link.intake.tail } := rfl
@[simp] theorem State.leaveIntake_store (s : State) : (s.leaveIntake).store = s.store := rfl
@[simp] theorem State.leaveIntake_configChanged (s : State) : (s.leaveIntake).configChanged = s.configChanged := rfl
@[simp] theorem State.leaveIntake_checkpoint (s : State) : (s.leaveIntake).checkpoint = s.checkpoint := rfl
@[simp] theorem State.leaveIntake_checkpointDue (s : State) : (s.leaveIntake).checkpointDue = s.checkpointDue := rfl
@[simp] theorem State.leaveIntake_freeIx (s : State) : (s.leaveIntake).freeIx = s.freeIx := rfl
@[simp] theorem State.leaveIntake_pending (s : State) : (s.leaveIntake).pending = s.pending := rfl

@[simp] theorem State.sendFrame_powered (s : State) (f : Frame) (x : Bool) : (s.sendFrame f x).powered = s.powered := rfl
@[simp] theorem State.sendFrame_resetLow (s : State) (f : Frame) (x : Bool) : (s.sendFrame f x).resetLow = s.resetLow := rfl
@[simp] theorem State.sendFrame_restarting (s : State) (f : Frame) (x : Bool) : (s.sendFrame f x).restarting = s.restarting := rfl
@[simp] theorem State.sendFrame_now (s : State) (f : Frame) (x : Bool) : (s.sendFrame f x).now = s.now := rfl
@[simp] theorem State.sendFrame_clock (s : State) (f : Frame) (x : Bool) : (s.sendFrame f x).clock = s.clock := rfl
@[simp] theorem State.sendFrame_synced (s : State) (f : Frame) (x : Bool) : (s.sendFrame f x).synced = s.synced := rfl
@[simp] theorem State.sendFrame_zones (s : State) (f : Frame) (x : Bool) : (s.sendFrame f x).zones = s.zones := rfl
@[simp] theorem State.sendFrame_banks (s : State) (f : Frame) (x : Bool) : (s.sendFrame f x).banks = s.banks := rfl
@[simp] theorem State.sendFrame_plants (s : State) (f : Frame) (x : Bool) : (s.sendFrame f x).plants = s.plants := rfl
@[simp] theorem State.sendFrame_devices (s : State) (f : Frame) (x : Bool) : (s.sendFrame f x).devices = s.devices := rfl
@[simp] theorem State.sendFrame_lines (s : State) (f : Frame) (x : Bool) : (s.sendFrame f x).lines = s.lines := rfl
@[simp] theorem State.sendFrame_notices (s : State) (f : Frame) (x : Bool) : (s.sendFrame f x).notices = s.notices := rfl
@[simp] theorem State.sendFrame_report (s : State) (f : Frame) (x : Bool) : (s.sendFrame f x).report = s.report := rfl
@[simp] theorem State.sendFrame_alarm (s : State) (f : Frame) (x : Bool) : (s.sendFrame f x).alarm = s.alarm := rfl
@[simp] theorem State.sendFrame_pulsing (s : State) (f : Frame) (x : Bool) : (s.sendFrame f x).pulsing = s.pulsing := rfl
@[simp] theorem State.sendFrame_link (s : State) (f : Frame) (x : Bool) : (s.sendFrame f x).link = { s.link with output := some { wire := f.wire, restartReply := x } } := rfl
@[simp] theorem State.sendFrame_store (s : State) (f : Frame) (x : Bool) : (s.sendFrame f x).store = s.store := rfl
@[simp] theorem State.sendFrame_configChanged (s : State) (f : Frame) (x : Bool) : (s.sendFrame f x).configChanged = s.configChanged := rfl
@[simp] theorem State.sendFrame_checkpoint (s : State) (f : Frame) (x : Bool) : (s.sendFrame f x).checkpoint = s.checkpoint := rfl
@[simp] theorem State.sendFrame_checkpointDue (s : State) (f : Frame) (x : Bool) : (s.sendFrame f x).checkpointDue = s.checkpointDue := rfl
@[simp] theorem State.sendFrame_freeIx (s : State) (f : Frame) (x : Bool) : (s.sendFrame f x).freeIx = s.freeIx := rfl
@[simp] theorem State.sendFrame_pending (s : State) (f : Frame) (x : Bool) : (s.sendFrame f x).pending = s.pending := rfl

/-! ## Records of other kinds after an update -/

@[simp] theorem State.bank_putZone (s : State) (z : Nat) (r : Zone) (k : Nat) : (s.putZone z r).bank? k = s.bank? k := rfl
@[simp] theorem State.plant_putZone (s : State) (z : Nat) (r : Zone) (k : Nat) : (s.putZone z r).plant? k = s.plant? k := rfl
@[simp] theorem State.line_putZone (s : State) (z : Nat) (r : Zone) (k : Nat) : (s.putZone z r).line? k = s.line? k := rfl
@[simp] theorem State.device_putZone (s : State) (z : Nat) (r : Zone) (k : DeviceAddr) : (s.putZone z r).device? k = s.device? k := rfl
@[simp] theorem State.zone_putBank (s : State) (b : Nat) (r : Bank) (k : Nat) : (s.putBank b r).zone? k = s.zone? k := rfl
@[simp] theorem State.plant_putBank (s : State) (b : Nat) (r : Bank) (k : Nat) : (s.putBank b r).plant? k = s.plant? k := rfl
@[simp] theorem State.line_putBank (s : State) (b : Nat) (r : Bank) (k : Nat) : (s.putBank b r).line? k = s.line? k := rfl
@[simp] theorem State.device_putBank (s : State) (b : Nat) (r : Bank) (k : DeviceAddr) : (s.putBank b r).device? k = s.device? k := rfl
@[simp] theorem State.zone_putPlant (s : State) (p : Nat) (r : Plant) (k : Nat) : (s.putPlant p r).zone? k = s.zone? k := rfl
@[simp] theorem State.bank_putPlant (s : State) (p : Nat) (r : Plant) (k : Nat) : (s.putPlant p r).bank? k = s.bank? k := rfl
@[simp] theorem State.line_putPlant (s : State) (p : Nat) (r : Plant) (k : Nat) : (s.putPlant p r).line? k = s.line? k := rfl
@[simp] theorem State.device_putPlant (s : State) (p : Nat) (r : Plant) (k : DeviceAddr) : (s.putPlant p r).device? k = s.device? k := rfl
@[simp] theorem State.zone_putLine (s : State) (l : Nat) (r : Line) (k : Nat) : (s.putLine l r).zone? k = s.zone? k := rfl
@[simp] theorem State.bank_putLine (s : State) (l : Nat) (r : Line) (k : Nat) : (s.putLine l r).bank? k = s.bank? k := rfl
@[simp] theorem State.plant_putLine (s : State) (l : Nat) (r : Line) (k : Nat) : (s.putLine l r).plant? k = s.plant? k := rfl
@[simp] theorem State.device_putLine (s : State) (l : Nat) (r : Line) (k : DeviceAddr) : (s.putLine l r).device? k = s.device? k := rfl
@[simp] theorem State.zone_addDevice (s : State) (e : Device) (k : Nat) : (s.addDevice e).zone? k = s.zone? k := rfl
@[simp] theorem State.bank_addDevice (s : State) (e : Device) (k : Nat) : (s.addDevice e).bank? k = s.bank? k := rfl
@[simp] theorem State.plant_addDevice (s : State) (e : Device) (k : Nat) : (s.addDevice e).plant? k = s.plant? k := rfl
@[simp] theorem State.line_addDevice (s : State) (e : Device) (k : Nat) : (s.addDevice e).line? k = s.line? k := rfl
@[simp] theorem State.zone_removeDevice (s : State) (d : DeviceAddr) (k : Nat) : (s.removeDevice d).zone? k = s.zone? k := rfl
@[simp] theorem State.bank_removeDevice (s : State) (d : DeviceAddr) (k : Nat) : (s.removeDevice d).bank? k = s.bank? k := rfl
@[simp] theorem State.plant_removeDevice (s : State) (d : DeviceAddr) (k : Nat) : (s.removeDevice d).plant? k = s.plant? k := rfl
@[simp] theorem State.line_removeDevice (s : State) (d : DeviceAddr) (k : Nat) : (s.removeDevice d).line? k = s.line? k := rfl
@[simp] theorem State.zone_modDevice (s : State) (d : DeviceAddr) (f : Device → Device) (k : Nat) : (s.modDevice d f).zone? k = s.zone? k := rfl
@[simp] theorem State.bank_modDevice (s : State) (d : DeviceAddr) (f : Device → Device) (k : Nat) : (s.modDevice d f).bank? k = s.bank? k := rfl
@[simp] theorem State.plant_modDevice (s : State) (d : DeviceAddr) (f : Device → Device) (k : Nat) : (s.modDevice d f).plant? k = s.plant? k := rfl
@[simp] theorem State.line_modDevice (s : State) (d : DeviceAddr) (f : Device → Device) (k : Nat) : (s.modDevice d f).line? k = s.line? k := rfl
@[simp] theorem State.zone_useFree (s : State) (k : Nat) : (s.useFree).zone? k = s.zone? k := rfl
@[simp] theorem State.bank_useFree (s : State) (k : Nat) : (s.useFree).bank? k = s.bank? k := rfl
@[simp] theorem State.plant_useFree (s : State) (k : Nat) : (s.useFree).plant? k = s.plant? k := rfl
@[simp] theorem State.line_useFree (s : State) (k : Nat) : (s.useFree).line? k = s.line? k := rfl
@[simp] theorem State.device_useFree (s : State) (k : DeviceAddr) : (s.useFree).device? k = s.device? k := rfl
@[simp] theorem State.zone_queueReply (s : State) (f : Frame) (k : Nat) : (s.queueReply f).zone? k = s.zone? k := rfl
@[simp] theorem State.bank_queueReply (s : State) (f : Frame) (k : Nat) : (s.queueReply f).bank? k = s.bank? k := rfl
@[simp] theorem State.plant_queueReply (s : State) (f : Frame) (k : Nat) : (s.queueReply f).plant? k = s.plant? k := rfl
@[simp] theorem State.line_queueReply (s : State) (f : Frame) (k : Nat) : (s.queueReply f).line? k = s.line? k := rfl
@[simp] theorem State.device_queueReply (s : State) (f : Frame) (k : DeviceAddr) : (s.queueReply f).device? k = s.device? k := rfl
@[simp] theorem State.zone_leaveIntake (s : State) (k : Nat) : (s.leaveIntake).zone? k = s.zone? k := rfl
@[simp] theorem State.bank_leaveIntake (s : State) (k : Nat) : (s.leaveIntake).bank? k = s.bank? k := rfl
@[simp] theorem State.plant_leaveIntake (s : State) (k : Nat) : (s.leaveIntake).plant? k = s.plant? k := rfl
@[simp] theorem State.line_leaveIntake (s : State) (k : Nat) : (s.leaveIntake).line? k = s.line? k := rfl
@[simp] theorem State.device_leaveIntake (s : State) (k : DeviceAddr) : (s.leaveIntake).device? k = s.device? k := rfl
@[simp] theorem State.zone_sendFrame (s : State) (f : Frame) (x : Bool) (k : Nat) : (s.sendFrame f x).zone? k = s.zone? k := rfl
@[simp] theorem State.bank_sendFrame (s : State) (f : Frame) (x : Bool) (k : Nat) : (s.sendFrame f x).bank? k = s.bank? k := rfl
@[simp] theorem State.plant_sendFrame (s : State) (f : Frame) (x : Bool) (k : Nat) : (s.sendFrame f x).plant? k = s.plant? k := rfl
@[simp] theorem State.line_sendFrame (s : State) (f : Frame) (x : Bool) (k : Nat) : (s.sendFrame f x).line? k = s.line? k := rfl
@[simp] theorem State.device_sendFrame (s : State) (f : Frame) (x : Bool) (k : DeviceAddr) : (s.sendFrame f x).device? k = s.device? k := rfl

/-! ## Numbered tables -/

theorem slot?_zero {α : Type} {n : Nat} (v : Vector α n) : slot? v 0 = none := rfl

theorem slot?_eq_getElem {α : Type} {n : Nat} (v : Vector α n) {k : Nat} (h1 : 1 ≤ k) (h2 : k ≤ n) :
    slot? v k = some (v[k - 1]'(by omega)) := by
  have h : k - 1 < n := by omega
  simp [slot?, show k ≠ 0 by omega, h]

theorem slot?_out {α : Type} {n : Nat} (v : Vector α n) {k : Nat} (h : n < k) : slot? v k = none := by
  have : ¬ k - 1 < n := by omega
  simp [slot?, this]

/-- A record exists exactly at the numbers 1 to the size of the table. -/
theorem slot?_isSome {α : Type} {n : Nat} (v : Vector α n) (k : Nat) :
    (slot? v k).isSome = true ↔ 1 ≤ k ∧ k ≤ n := by
  rcases Nat.eq_zero_or_pos k with rfl | hk
  · simp [slot?]
  · by_cases hn : k ≤ n
    · simp [slot?_eq_getElem v hk hn]; omega
    · simp [slot?_out v (Nat.lt_of_not_le hn)]; omega

/-- A record written is read back, where its number is in the table. -/
theorem slot?_slotSet_same {α : Type} {n : Nat} (v : Vector α n) {k : Nat} (a : α) (h1 : 1 ≤ k) (h2 : k ≤ n) :
    slot? (slotSet v k a) k = some a := by
  have h : k - 1 < n := by omega
  simp [slot?, slotSet, show k ≠ 0 by omega, h]

/-- Writing a record leaves every other one alone. -/
theorem slot?_slotSet_ne {α : Type} {n : Nat} (v : Vector α n) {k j : Nat} (a : α) (h : j ≠ k) :
    slot? (slotSet v k a) j = slot? v j := by
  unfold slot? slotSet
  split
  · rfl
  · split
    · rfl
    · rw [Vector.getElem?_setIfInBounds_ne (by omega)]

theorem slotSet_slotSet {α : Type} {n : Nat} (v : Vector α n) (k : Nat) (a b : α) :
    slotSet (slotSet v k a) k b = slotSet v k b := by
  unfold slotSet
  split
  · rfl
  · apply Vector.ext
    intro i hi
    simp [Vector.getElem_setIfInBounds]

/-- Writing back what is there changes nothing. -/
theorem slotSet_same {α : Type} {n : Nat} (v : Vector α n) (k : Nat) (a : α) (h : slot? v k = some a) :
    slotSet v k a = v := by
  unfold slot? at h
  unfold slotSet
  split
  · rfl
  · rename_i hk
    rw [if_neg hk] at h
    apply Vector.ext
    intro i hi
    rw [Vector.getElem_setIfInBounds]
    split
    · rename_i he
      subst he
      rw [Vector.getElem?_eq_getElem hi] at h
      exact (Option.some.inj h).symm
    · rfl

/-- Two tables with the same records are the same table. -/
theorem slot?_ext {α : Type} {n : Nat} (v w : Vector α n) (h : ∀ k, slot? v k = slot? w k) : v = w := by
  apply Vector.ext
  intro i hi
  have := h (i + 1)
  simpa [slot?, hi] using this

@[simp] theorem slot?_tableOf {α : Type} {n : Nat} (f : Nat → α) (k : Nat) :
    slot? (tableOf n f) k = if 1 ≤ k ∧ k ≤ n then some (f k) else none := by
  unfold slot? tableOf
  rcases Nat.eq_zero_or_pos k with rfl | hk
  · simp
  · by_cases hn : k ≤ n
    · have : k - 1 < n := by omega
      simp [this, show k ≠ 0 by omega, hn, show 1 ≤ k from hk, show k - 1 + 1 = k by omega]
    · have : ¬ k - 1 < n := by omega
      simp [this, hn]

/-! ## Zones, banks, plants and lines by number -/

theorem State.zone?_valid {s : State} {z : Nat} {r : Zone} (h : s.zone? z = some r) : 1 ≤ z ∧ z ≤ 16 := by
  have : (slot? s.zones z).isSome = true := by
    cases hs : slot? s.zones z with
    | none => simp [State.zone?, hs] at h
    | some x => rfl
  exact (slot?_isSome _ _).1 this

theorem State.zone?_putZone_same {s : State} {z : Nat} (r : Zone) (h1 : 1 ≤ z) (h2 : z ≤ 16) :
    (s.putZone z r).zone? z = some r := by
  simp [State.zone?, slot?_slotSet_same _ _ h1 h2]

/-- A defined zone that is written is read back. -/
theorem State.zone?_putZone {s : State} {z : Nat} {r : Zone} (r' : Zone) (h : s.zone? z = some r) :
    (s.putZone z r').zone? z = some r' :=
  State.zone?_putZone_same r' (State.zone?_valid h).1 (State.zone?_valid h).2

theorem State.zone?_putZone_ne (s : State) {z k : Nat} (r : Zone) (h : k ≠ z) : (s.putZone z r).zone? k = s.zone? k := by
  simp [State.zone?, slot?_slotSet_ne _ _ h]

theorem State.putZone_putZone (s : State) (z : Nat) (r r' : Zone) : (s.putZone z r).putZone z r' = s.putZone z r' := by
  simp [State.putZone, slotSet_slotSet]

theorem State.putZone_same {s : State} {z : Nat} {r : Zone} (h : s.zone? z = some r) : s.putZone z r = s := by
  have : slot? s.zones z = some (some r) := by
    cases hs : slot? s.zones z with
    | none => simp [State.zone?, hs] at h
    | some x => simpa [State.zone?, hs] using h
  simp [State.putZone, slotSet_same _ _ _ this]

theorem State.bank?_valid {s : State} {z : Nat} {r : Bank} (h : s.bank? z = some r) : 1 ≤ z ∧ z ≤ 8 := by
  have : (slot? s.banks z).isSome = true := by
    cases hs : slot? s.banks z with
    | none => simp [State.bank?, hs] at h
    | some x => rfl
  exact (slot?_isSome _ _).1 this

theorem State.bank?_putBank_same {s : State} {z : Nat} (r : Bank) (h1 : 1 ≤ z) (h2 : z ≤ 8) :
    (s.putBank z r).bank? z = some r := by
  simp [State.bank?, slot?_slotSet_same _ _ h1 h2]

/-- A defined bank that is written is read back. -/
theorem State.bank?_putBank {s : State} {z : Nat} {r : Bank} (r' : Bank) (h : s.bank? z = some r) :
    (s.putBank z r').bank? z = some r' :=
  State.bank?_putBank_same r' (State.bank?_valid h).1 (State.bank?_valid h).2

theorem State.bank?_putBank_ne (s : State) {z k : Nat} (r : Bank) (h : k ≠ z) : (s.putBank z r).bank? k = s.bank? k := by
  simp [State.bank?, slot?_slotSet_ne _ _ h]

theorem State.putBank_putBank (s : State) (z : Nat) (r r' : Bank) : (s.putBank z r).putBank z r' = s.putBank z r' := by
  simp [State.putBank, slotSet_slotSet]

theorem State.putBank_same {s : State} {z : Nat} {r : Bank} (h : s.bank? z = some r) : s.putBank z r = s := by
  have : slot? s.banks z = some (some r) := by
    cases hs : slot? s.banks z with
    | none => simp [State.bank?, hs] at h
    | some x => simpa [State.bank?, hs] using h
  simp [State.putBank, slotSet_same _ _ _ this]

theorem State.plant?_valid {s : State} {z : Nat} {r : Plant} (h : s.plant? z = some r) : 1 ≤ z ∧ z ≤ 2 := by
  have : (slot? s.plants z).isSome = true := by
    cases hs : slot? s.plants z with
    | none => simp [State.plant?, hs] at h
    | some x => rfl
  exact (slot?_isSome _ _).1 this

theorem State.plant?_putPlant_same {s : State} {z : Nat} (r : Plant) (h1 : 1 ≤ z) (h2 : z ≤ 2) :
    (s.putPlant z r).plant? z = some r := by
  simp [State.plant?, slot?_slotSet_same _ _ h1 h2]

/-- A defined plant that is written is read back. -/
theorem State.plant?_putPlant {s : State} {z : Nat} {r : Plant} (r' : Plant) (h : s.plant? z = some r) :
    (s.putPlant z r').plant? z = some r' :=
  State.plant?_putPlant_same r' (State.plant?_valid h).1 (State.plant?_valid h).2

theorem State.plant?_putPlant_ne (s : State) {z k : Nat} (r : Plant) (h : k ≠ z) : (s.putPlant z r).plant? k = s.plant? k := by
  simp [State.plant?, slot?_slotSet_ne _ _ h]

theorem State.putPlant_putPlant (s : State) (z : Nat) (r r' : Plant) : (s.putPlant z r).putPlant z r' = s.putPlant z r' := by
  simp [State.putPlant, slotSet_slotSet]

theorem State.putPlant_same {s : State} {z : Nat} {r : Plant} (h : s.plant? z = some r) : s.putPlant z r = s := by
  have : slot? s.plants z = some (some r) := by
    cases hs : slot? s.plants z with
    | none => simp [State.plant?, hs] at h
    | some x => simpa [State.plant?, hs] using h
  simp [State.putPlant, slotSet_same _ _ _ this]

theorem State.line?_valid {s : State} {l : Nat} {r : Line} (h : s.line? l = some r) : 1 ≤ l ∧ l ≤ 2 :=
  (slot?_isSome s.lines l).1 (by rw [show slot? s.lines l = some r from h]; rfl)

theorem State.line?_some (s : State) {l : Nat} (h1 : 1 ≤ l) (h2 : l ≤ 2) : ∃ r, s.line? l = some r :=
  ⟨_, slot?_eq_getElem s.lines h1 h2⟩

theorem State.line?_putLine {s : State} {l : Nat} {r : Line} (r' : Line) (h : s.line? l = some r) :
    (s.putLine l r').line? l = some r' :=
  slot?_slotSet_same _ _ (State.line?_valid h).1 (State.line?_valid h).2

theorem State.line?_putLine_ne (s : State) {l k : Nat} (r : Line) (h : k ≠ l) : (s.putLine l r).line? k = s.line? k :=
  slot?_slotSet_ne _ _ h

theorem State.putLine_putLine (s : State) (l : Nat) (r r' : Line) : (s.putLine l r).putLine l r' = s.putLine l r' := by
  simp [State.putLine, slotSet_slotSet]

theorem State.putLine_same {s : State} {l : Nat} {r : Line} (h : s.line? l = some r) : s.putLine l r = s := by
  simp [State.putLine, slotSet_same _ _ _ (show slot? s.lines l = some r from h)]

theorem State.modZone_some {s : State} {z : Nat} {r : Zone} (f : Zone → Zone) (h : s.zone? z = some r) :
    s.modZone z f = s.putZone z (f r) := by simp [State.modZone, h]

theorem State.modBank_some {s : State} {b : Nat} {r : Bank} (f : Bank → Bank) (h : s.bank? b = some r) :
    s.modBank b f = s.putBank b (f r) := by simp [State.modBank, h]

theorem State.modPlant_some {s : State} {p : Nat} {r : Plant} (f : Plant → Plant) (h : s.plant? p = some r) :
    s.modPlant p f = s.putPlant p (f r) := by simp [State.modPlant, h]

theorem State.modLine_some {s : State} {l : Nat} {r : Line} (f : Line → Line) (h : s.line? l = some r) :
    s.modLine l f = s.putLine l (f r) := by simp [State.modLine, h]

theorem validZone_iff (z : Nat) : validZone z = true ↔ 1 ≤ z ∧ z ≤ 16 := by simp [validZone]
theorem validBank_iff (b : Nat) : validBank b = true ↔ 1 ≤ b ∧ b ≤ 8 := by simp [validBank]
theorem validPlant_iff (p : Nat) : validPlant p = true ↔ 1 ≤ p ∧ p ≤ 2 := by simp [validPlant]
theorem validLine_iff (l : Nat) : validLine l = true ↔ 1 ≤ l ∧ l ≤ 2 := by simp [validLine]
theorem validAddress_iff (a : Nat) : validAddress a = true ↔ 1 ≤ a ∧ a ≤ 126 := by unfold validAddress Config.lastAddress; simp only [Bool.and_eq_true, decide_eq_true_eq]

/-- The defined zones are those with a record. -/
theorem State.mem_definedZones (s : State) (z : Nat) (r : Zone) : (z, r) ∈ s.definedZones ↔ s.zone? z = some r := by
  unfold State.definedZones
  simp only [List.mem_filterMap, Option.map_eq_some_iff, Prod.mk.injEq]
  constructor
  · rintro ⟨k, -, x, hx, rfl, rfl⟩
    exact hx
  · intro h
    have hv := State.zone?_valid h
    exact ⟨z, by simp [zoneNumbers, List.mem_range']; exact ⟨z - 1, by omega, by omega⟩, r, h, rfl, rfl⟩

end Sys2Proof.Machine
end

