-- ==== Sys2Proof/Laws/Frames.lean ====
section
/-! SUPPORT. What the shared operations leave alone: the operations of the blocks (zones, banks, plants, devices, lines, notices,
alarm line) touch none of the clock, the settings, the link, the store and the part's own conditions. -/

namespace Sys2Proof.Machine

/-- `t` differs from `s` at most in the records of the blocks: zones, banks, plants, devices, lines, notices, alarm line. -/
structure BlocksOnly (s t : State) : Prop where
  powered : t.powered = s.powered
  resetLow : t.resetLow = s.resetLow
  restarting : t.restarting = s.restarting
  now : t.now = s.now
  clock : t.clock = s.clock
  synced : t.synced = s.synced
  report : t.report = s.report
  link : t.link = s.link
  store : t.store = s.store
  configChanged : t.configChanged = s.configChanged
  checkpoint : t.checkpoint = s.checkpoint
  checkpointDue : t.checkpointDue = s.checkpointDue
  freeIx : t.freeIx = s.freeIx
  pending : t.pending = s.pending

theorem BlocksOnly.refl (s : State) : BlocksOnly s s := by constructor <;> rfl

theorem BlocksOnly.trans {s t u : State} (h : BlocksOnly s t) (k : BlocksOnly t u) : BlocksOnly s u where
  powered := k.powered.trans h.powered
  resetLow := k.resetLow.trans h.resetLow
  restarting := k.restarting.trans h.restarting
  now := k.now.trans h.now
  clock := k.clock.trans h.clock
  synced := k.synced.trans h.synced
  report := k.report.trans h.report
  link := k.link.trans h.link
  store := k.store.trans h.store
  configChanged := k.configChanged.trans h.configChanged
  checkpoint := k.checkpoint.trans h.checkpoint
  checkpointDue := k.checkpointDue.trans h.checkpointDue
  freeIx := k.freeIx.trans h.freeIx
  pending := k.pending.trans h.pending

theorem BlocksOnly.running {s t : State} (h : BlocksOnly s t) : t.running = s.running := by
  simp [State.running, h.powered, h.resetLow]

/-- The state after, as the state before with the blocks' records changed. -/
theorem BlocksOnly.eq {s t : State} (h : BlocksOnly s t) :
    t = { s with zones := t.zones, banks := t.banks, plants := t.plants, devices := t.devices, lines := t.lines,
                 notices := t.notices, alarm := t.alarm, pulsing := t.pulsing } := by
  obtain ⟨h1, h2, h3, h4, h5, h6, h7, h8, h9, h10, h11, h12, h13, h14⟩ := h
  cases s
  cases t
  simp_all

theorem BlocksOnly.foldl {α : Type} (f : State → α → State) (hf : ∀ s a, BlocksOnly s (f s a)) (l : List α) (s : State) :
    BlocksOnly s (l.foldl f s) := by
  induction l generalizing s with
  | nil => exact .refl s
  | cons a l ih => exact (hf s a).trans (ih _)

/-! ## Updates -/

theorem State.putZone_blocks (s : State) (z : Nat) (r : Zone) : BlocksOnly s (s.putZone z r) := by constructor <;> rfl
theorem State.putBank_blocks (s : State) (b : Nat) (r : Bank) : BlocksOnly s (s.putBank b r) := by constructor <;> rfl
theorem State.putPlant_blocks (s : State) (p : Nat) (r : Plant) : BlocksOnly s (s.putPlant p r) := by constructor <;> rfl
theorem State.putLine_blocks (s : State) (l : Nat) (r : Line) : BlocksOnly s (s.putLine l r) := by constructor <;> rfl

theorem State.modDevice_blocks (s : State) (d : DeviceAddr) (f : Device → Device) : BlocksOnly s (s.modDevice d f) := by
  constructor <;> rfl

theorem State.addDevice_blocks (s : State) (e : Device) : BlocksOnly s (s.addDevice e) := by constructor <;> rfl
theorem State.removeDevice_blocks (s : State) (d : DeviceAddr) : BlocksOnly s (s.removeDevice d) := by constructor <;> rfl

theorem State.modZone_blocks (s : State) (z : Nat) (f : Zone → Zone) : BlocksOnly s (s.modZone z f) := by
  unfold State.modZone
  split
  · exact State.putZone_blocks _ _ _
  · exact .refl s

theorem State.modBank_blocks (s : State) (b : Nat) (f : Bank → Bank) : BlocksOnly s (s.modBank b f) := by
  unfold State.modBank
  split
  · exact State.putBank_blocks _ _ _
  · exact .refl s

theorem State.modLine_blocks (s : State) (l : Nat) (f : Line → Line) : BlocksOnly s (s.modLine l f) := by
  unfold State.modLine
  split
  · exact State.putLine_blocks _ _ _
  · exact .refl s

/-! ## Notices, marks, alarm line -/

/-- Following the conditions writes the alarm line alone. -/
theorem State.followAlarm_frame (s : State) : s.followAlarm = { s with alarm := s.followAlarm.alarm } := by
  unfold State.followAlarm
  split <;> rfl

theorem State.followAlarm_level {s : State} (h : s.report.mode = .level) :
    s.followAlarm = { s with alarm := s.alarmCondition } := by simp [State.followAlarm, h]

theorem State.followAlarm_pulse {s : State} (h : s.report.mode = .pulse) : s.followAlarm = s := by
  simp [State.followAlarm, h]

/-- An offer writes the notice queue and the alarm line alone. -/
theorem State.offer_frame (s : State) (b : NoticeBody) (x : Subject) :
    s.offer b x = { s with notices := (s.offer b x).notices, alarm := (s.offer b x).alarm
                           pulsing := (s.offer b x).pulsing } := by
  unfold State.offer State.pulseFor
  dsimp only
  split
  · split <;> split <;> rfl
  · split <;> rfl

theorem State.followAlarm_blocks (s : State) : BlocksOnly s s.followAlarm := by
  rw [State.followAlarm_frame]
  constructor <;> rfl

theorem State.offer_blocks (s : State) (b : NoticeBody) (x : Subject) : BlocksOnly s (s.offer b x) := by
  rw [State.offer_frame]
  constructor <;> rfl

@[simp] theorem State.followAlarm_zones (s : State) : s.followAlarm.zones = s.zones := by rw [State.followAlarm_frame]
@[simp] theorem State.followAlarm_banks (s : State) : s.followAlarm.banks = s.banks := by rw [State.followAlarm_frame]
@[simp] theorem State.followAlarm_plants (s : State) : s.followAlarm.plants = s.plants := by rw [State.followAlarm_frame]
@[simp] theorem State.followAlarm_devices (s : State) : s.followAlarm.devices = s.devices := by rw [State.followAlarm_frame]
@[simp] theorem State.followAlarm_lines (s : State) : s.followAlarm.lines = s.lines := by rw [State.followAlarm_frame]
@[simp] theorem State.followAlarm_notices (s : State) : s.followAlarm.notices = s.notices := by rw [State.followAlarm_frame]
@[simp] theorem State.followAlarm_pulsing (s : State) : s.followAlarm.pulsing = s.pulsing := by rw [State.followAlarm_frame]
@[simp] theorem State.followAlarm_report (s : State) : s.followAlarm.report = s.report := by rw [State.followAlarm_frame]
@[simp] theorem State.followAlarm_clock (s : State) : s.followAlarm.clock = s.clock := by rw [State.followAlarm_frame]
@[simp] theorem State.followAlarm_now (s : State) : s.followAlarm.now = s.now := by rw [State.followAlarm_frame]

@[simp] theorem State.offer_zones (s : State) (b : NoticeBody) (x : Subject) : (s.offer b x).zones = s.zones := by
  rw [State.offer_frame]
@[simp] theorem State.offer_banks (s : State) (b : NoticeBody) (x : Subject) : (s.offer b x).banks = s.banks := by
  rw [State.offer_frame]
@[simp] theorem State.offer_plants (s : State) (b : NoticeBody) (x : Subject) : (s.offer b x).plants = s.plants := by
  rw [State.offer_frame]
@[simp] theorem State.offer_devices (s : State) (b : NoticeBody) (x : Subject) : (s.offer b x).devices = s.devices := by
  rw [State.offer_frame]
@[simp] theorem State.offer_lines (s : State) (b : NoticeBody) (x : Subject) : (s.offer b x).lines = s.lines := by
  rw [State.offer_frame]
@[simp] theorem State.offer_report (s : State) (b : NoticeBody) (x : Subject) : (s.offer b x).report = s.report := by
  rw [State.offer_frame]
@[simp] theorem State.offer_clock (s : State) (b : NoticeBody) (x : Subject) : (s.offer b x).clock = s.clock := by
  rw [State.offer_frame]
@[simp] theorem State.offer_now (s : State) (b : NoticeBody) (x : Subject) : (s.offer b x).now = s.now := by
  rw [State.offer_frame]

/-- The evaluation of a mark: nothing at all, or the mark joins the zone's marks, its notice is offered and the alarm line
follows. -/
theorem State.evalMark_cases (s : State) (z : Nat) (m : Mark) (holds : Bool) :
    (s.evalMark z m holds = s ∧ ∀ r, s.zone? z = some r → holds = true → m ∈ r.marks)
    ∨ ∃ r, s.zone? z = some r ∧ holds = true ∧ m ∉ r.marks
      ∧ s.evalMark z m holds
        = ((s.putZone z { r with marks := r.marks ++ [m] }).followAlarm).offer (.markSet m) (.zone z) := by
  unfold State.evalMark
  split
  · rename_i r hr
    by_cases h : (holds && !r.marks.contains m) = true
    · rw [if_pos h]
      simp only [Bool.and_eq_true, Bool.not_eq_true', List.contains_eq_mem, decide_eq_false_iff_not] at h
      exact .inr ⟨r, hr, h.1, h.2, rfl⟩
    · rw [if_neg h]
      refine .inl ⟨rfl, fun r' hr' hh => ?_⟩
      rw [hr] at hr'
      cases hr'
      simpa [hh] using h
  · rename_i hn
    refine .inl ⟨rfl, fun r' hr' => ?_⟩
    rw [hn] at hr'
    cases hr'

theorem State.evalMark_blocks (s : State) (z : Nat) (m : Mark) (holds : Bool) : BlocksOnly s (s.evalMark z m holds) := by
  rcases State.evalMark_cases s z m holds with ⟨h, -⟩ | ⟨r, -, -, -, h⟩
  · rw [h]
    exact .refl s
  · rw [h]
    exact ((State.putZone_blocks _ _ _).trans (State.followAlarm_blocks _)).trans (State.offer_blocks _ _ _)

/-- The evaluation of a mark writes the zone table, the notice queue and the alarm line alone. -/
theorem State.evalMark_frame (s : State) (z : Nat) (m : Mark) (holds : Bool) :
    s.evalMark z m holds = { s with
      zones := (s.evalMark z m holds).zones, notices := (s.evalMark z m holds).notices
      alarm := (s.evalMark z m holds).alarm, pulsing := (s.evalMark z m holds).pulsing } := by
  rcases State.evalMark_cases s z m holds with ⟨h, -⟩ | ⟨r, -, -, -, h⟩
  · rw [h]
  · rw [h, State.offer_frame, State.followAlarm_frame]
    rfl

/-- Another zone's record stands. -/
theorem State.evalMark_zone?_ne (s : State) {z k : Nat} (m : Mark) (holds : Bool) (h : k ≠ z) :
    (s.evalMark z m holds).zone? k = s.zone? k := by
  rcases State.evalMark_cases s z m holds with ⟨e, -⟩ | ⟨r, -, -, -, e⟩
  · rw [e]
  · rw [e]
    simpa [State.zone?] using State.zone?_putZone_ne s _ h

/-- The zone's own record keeps everything but its marks, which gain the mark where it holds and is not there yet. -/
theorem State.evalMark_zone? {s : State} {z : Nat} {r : Zone} (m : Mark) (holds : Bool) (hr : s.zone? z = some r) :
    (s.evalMark z m holds).zone? z
      = some { r with marks := if holds = true ∧ m ∉ r.marks then r.marks ++ [m] else r.marks } := by
  rcases State.evalMark_cases s z m holds with ⟨e, h⟩ | ⟨r', hr', hh, hm, e⟩
  · rw [e, hr, if_neg fun hc => hc.2 (h r hr hc.1)]
  · rw [hr] at hr'
    cases hr'
    rw [e, if_pos ⟨hh, hm⟩]
    simpa [State.zone?] using State.zone?_putZone { r with marks := r.marks ++ [m] } hr

theorem State.clearMarks_blocks (s : State) (z : Nat) (named : List Mark) : BlocksOnly s (s.clearMarks z named) :=
  (State.modZone_blocks _ _ _).trans (State.followAlarm_blocks _)

/-! ## Commands -/

theorem State.plantFault_blocks (s : State) (p : Nat) (reason : PlantFaultReason) :
    BlocksOnly s (s.plantFault p reason) := by
  unfold State.plantFault
  split
  · split
    · exact .refl s
    · exact ((State.putPlant_blocks _ _ _).trans (State.followAlarm_blocks _)).trans (State.offer_blocks _ _ _)
  · exact .refl s

theorem State.commandFailed_blocks (s : State) (i : Issuer) (d : DeviceAddr) : BlocksOnly s (s.commandFailed i d) := by
  unfold State.commandFailed
  split
  · cases i with
    | governor z => exact State.modZone_blocks _ _ _
    | bank b => exact State.modBank_blocks _ _ _
    | tracker z => exact State.modZone_blocks _ _ _
    | arbiter p => exact State.plantFault_blocks _ _ _
  · exact .refl s

/-- A placement queues the command, fails at once, or names a line that does not exist. -/
theorem State.place_cases (s : State) (d : DeviceAddr) (v : Nat) (i : Issuer) :
    (∃ l, s.line? d.line = some l ∧ l.state.takesCommands = true
      ∧ s.place d v i = s.putLine d.line { l with queue := enqueueCommand ⟨d.address, v, i⟩ l.queue })
    ∨ (∃ l, s.line? d.line = some l ∧ l.state.takesCommands = false ∧ s.place d v i = s.commandFailed i d)
    ∨ (s.line? d.line = none ∧ s.place d v i = s) := by
  unfold State.place
  split
  · rename_i l hl
    by_cases h : l.state.takesCommands = true
    · exact .inl ⟨l, hl, h, by rw [if_pos h]⟩
    · exact .inr (.inl ⟨l, hl, by simpa using h, by rw [if_neg h]⟩)
  · rename_i hn
    exact .inr (.inr ⟨hn, rfl⟩)

theorem State.place_blocks (s : State) (d : DeviceAddr) (v : Nat) (i : Issuer) : BlocksOnly s (s.place d v i) := by
  rcases State.place_cases s d v i with ⟨l, -, -, h⟩ | ⟨l, -, -, h⟩ | ⟨-, h⟩ <;> rw [h]
  · exact State.putLine_blocks _ _ _
  · exact State.commandFailed_blocks _ _ _
  · exact .refl s

theorem State.placeDimmer_blocks (s : State) (z : Nat) (d : Option DeviceAddr) (v : Nat) :
    BlocksOnly s (s.placeDimmer z d v) := by
  cases d with
  | none => exact .refl s
  | some d => exact State.place_blocks _ _ _ _

theorem State.endPulse_blocks (s : State) (z : Nat) : BlocksOnly s (s.endPulse z) := by
  unfold State.endPulse
  repeat' split
  · exact (State.putZone_blocks _ _ _).trans (State.place_blocks _ _ _ _)
  · exact .refl s
  · exact .refl s

theorem State.trimAvailable_blocks (s : State) (z : Nat) : BlocksOnly s (s.trimAvailable z) := by
  unfold State.trimAvailable
  split
  · split
    · dsimp only
      split
      · exact (State.putZone_blocks _ _ _).trans (State.place_blocks _ _ _ _)
      · exact State.putZone_blocks _ _ _
    · exact .refl s
  · exact .refl s

theorem State.placeClosure_blocks (s : State) (b : Nat) : BlocksOnly s (s.placeClosure b) := by
  unfold State.placeClosure
  split
  · exact State.place_blocks _ _ _ _
  · exact .refl s

theorem State.bankRecover_blocks (s : State) (b : Nat) : BlocksOnly s (s.bankRecover b) := by
  unfold State.bankRecover
  split
  · split
    · dsimp only
      split
      · exact State.putBank_blocks _ _ _
      · exact (State.putBank_blocks _ _ _).trans (State.placeClosure_blocks _ _)
    · exact .refl s
  · exact .refl s

/-! ## Plants -/

theorem State.placeDuty_blocks (s : State) (p : Nat) (duty : Duty) : BlocksOnly s (s.placeDuty p duty) := by
  unfold State.placeDuty
  split
  · exact (State.putPlant_blocks _ _ _).trans (State.place_blocks _ _ _ _)
  · exact .refl s

theorem State.enterRunning_blocks (s : State) (p : Nat) : BlocksOnly s (s.enterRunning p) := by
  unfold State.enterRunning
  split
  · dsimp only
    refine BlocksOnly.trans ?_ (BlocksOnly.foldl _ (fun s (d : Demand) => State.endPulse_blocks s d.zone) _ _)
    refine BlocksOnly.trans ?_ (State.offer_blocks _ _ _)
    split
    · exact State.putPlant_blocks _ _ _
    · exact (State.putPlant_blocks _ _ _).trans (State.placeDuty_blocks _ _ _)
  · exact .refl s

theorem State.enterChangeover_blocks (s : State) (p : Nat) : BlocksOnly s (s.enterChangeover p) := by
  unfold State.enterChangeover
  split
  · exact (State.putPlant_blocks _ _ _).trans (State.placeDuty_blocks _ _ _)
  · exact .refl s

theorem State.enterIdle_blocks (s : State) (p : Nat) : BlocksOnly s (s.enterIdle p) := by
  unfold State.enterIdle
  split
  · dsimp only
    split
    · exact State.putPlant_blocks _ _ _
    · exact (State.putPlant_blocks _ _ _).trans (State.placeDuty_blocks _ _ _)
  · exact .refl s

theorem State.select_blocks (s : State) (p : Nat) : BlocksOnly s (s.select p) := by
  unfold State.select
  split
  · dsimp only
    split
    · exact (State.putPlant_blocks _ _ _).trans (State.enterIdle_blocks _ _)
    · split
      · exact (State.putPlant_blocks _ _ _).trans (State.enterRunning_blocks _ _)
      · exact (State.putPlant_blocks _ _ _).trans (State.enterChangeover_blocks _ _)
  · exact .refl s

theorem State.preemptTest_blocks (s : State) (p : Nat) : BlocksOnly s (s.preemptTest p) := by
  unfold State.preemptTest
  repeat' split
  · exact (State.putPlant_blocks _ _ _).trans (State.select_blocks _ _)
  · exact .refl s
  · exact .refl s

theorem State.raise_blocks (s : State) (p z : Nat) (duty : Duty) (level : Nat) : BlocksOnly s (s.raise p z duty level) := by
  unfold State.raise
  split
  · dsimp only
    split
    · exact (State.putPlant_blocks _ _ _).trans (State.select_blocks _ _)
    · split
      · exact (State.putPlant_blocks _ _ _).trans (State.endPulse_blocks _ _)
      · exact (State.putPlant_blocks _ _ _).trans (State.preemptTest_blocks _ _)
    all_goals exact State.putPlant_blocks _ _ _
  · exact .refl s

theorem State.update_blocks (s : State) (p z level : Nat) : BlocksOnly s (s.update p z level) := by
  unfold State.update
  split
  · exact (State.putPlant_blocks _ _ _).trans (State.preemptTest_blocks _ _)
  · exact .refl s

theorem State.withdraw_blocks (s : State) (p z : Nat) : BlocksOnly s (s.withdraw p z) := by
  unfold State.withdraw
  split
  · dsimp only
    split
    · split
      · exact (State.putPlant_blocks _ _ _).trans (State.select_blocks _ _)
      · exact (State.putPlant_blocks _ _ _).trans (State.preemptTest_blocks _ _)
    · exact State.putPlant_blocks _ _ _
  · exact .refl s

theorem State.completeChangeover_blocks (s : State) (p : Nat) : BlocksOnly s (s.completeChangeover p) := by
  unfold State.completeChangeover
  split
  · split
    · dsimp only
      split
      · exact (State.putPlant_blocks _ _ _).trans (State.select_blocks _ _)
      · exact (State.putPlant_blocks _ _ _).trans (State.enterRunning_blocks _ _)
    · exact .refl s
  · exact .refl s

theorem State.dutySucceeded_blocks (s : State) (p v : Nat) : BlocksOnly s (s.dutySucceeded p v) := by
  unfold State.dutySucceeded
  split
  · exact (State.putPlant_blocks _ _ _).trans (State.completeChangeover_blocks _ _)
  · exact .refl s

theorem State.plantRecover_blocks (s : State) (p : Nat) (reported : Option Nat) :
    BlocksOnly s (s.plantRecover p reported) := by
  unfold State.plantRecover
  repeat' split
  · exact ((State.putPlant_blocks _ _ _).trans (State.followAlarm_blocks _)).trans (State.select_blocks _ _)
  · exact .refl s
  · exact .refl s

theorem State.changeController_blocks (s : State) (p : Nat) (r : Plant) (d : DeviceAddr) :
    BlocksOnly s (s.changeController p r d) := by
  unfold State.changeController
  have h := ((State.putPlant_blocks s p (r.withController d)).trans (State.followAlarm_blocks _)).trans
    (State.place_blocks _ r.controller Duty.neutral.code (.arbiter p))
  dsimp only
  split
  · exact (h.trans (State.place_blocks _ _ _ _)).trans (State.select_blocks _ _)
  · exact (h.trans (State.select_blocks _ _)).trans (State.commandFailed_blocks _ _ _)

theorem State.definePlant_blocks (s : State) (p : Nat) (d : DeviceAddr) : BlocksOnly s (s.definePlant p d) := by
  unfold State.definePlant
  split
  · exact (State.putPlant_blocks _ _ _).trans (State.placeDuty_blocks _ _ _)
  · split
    · exact .refl s
    · exact State.changeController_blocks _ _ _ _

theorem State.holdPlant_blocks (s : State) (p : Nat) (duty : Duty) : BlocksOnly s (s.holdPlant p duty) := by
  unfold State.holdPlant
  split
  · exact (State.putPlant_blocks _ _ _).trans (State.placeDuty_blocks _ _ _)
  · exact .refl s

theorem State.minimumRunExpiry_blocks (s : State) (p : Nat) : BlocksOnly s (s.minimumRunExpiry p) := by
  unfold State.minimumRunExpiry
  repeat' split
  · exact (State.putPlant_blocks _ _ _).trans (State.preemptTest_blocks _ _)
  · exact .refl s
  · exact .refl s

theorem State.changeoverTimerExpiry_blocks (s : State) (p : Nat) : BlocksOnly s (s.changeoverTimerExpiry p) := by
  unfold State.changeoverTimerExpiry
  repeat' split
  · exact (State.putPlant_blocks _ _ _).trans (State.completeChangeover_blocks _ _)
  · exact .refl s
  · exact .refl s

/-! ## Devices and lines -/

theorem State.ownerFault_blocks (s : State) (o : Option Owner) : BlocksOnly s (s.ownerFault o) := by
  unfold State.ownerFault
  split
  · exact State.modZone_blocks _ _ _
  · exact State.modBank_blocks _ _ _
  · exact State.plantFault_blocks _ _ _
  all_goals exact .refl s

theorem State.ownerSuccess_blocks (s : State) (v : Option Nat) (o : Option Owner) : BlocksOnly s (s.ownerSuccess v o) := by
  unfold State.ownerSuccess
  split
  · exact State.trimAvailable_blocks _ _
  · exact State.bankRecover_blocks _ _
  · exact State.plantRecover_blocks _ _ _
  all_goals exact .refl s

theorem State.deviceSuccess_blocks (s : State) (e : Device) (upd : Device → Device) (v : Option Nat) :
    BlocksOnly s (s.deviceSuccess e upd v) := by
  unfold State.deviceSuccess
  dsimp only
  refine .trans ?_ (State.ownerSuccess_blocks _ _ _)
  split
  · exact (State.modDevice_blocks _ _ _).trans (State.offer_blocks _ _ _)
  · exact State.modDevice_blocks _ _ _

theorem State.deviceFailure_blocks (s : State) (e : Device) (reason : FaultReason) :
    BlocksOnly s (s.deviceFailure e reason) := by
  unfold State.deviceFailure
  dsimp only
  split
  · exact ((State.modDevice_blocks _ _ _).trans (State.offer_blocks _ _ _)).trans (State.ownerFault_blocks _ _)
  · exact State.modDevice_blocks _ _ _

theorem State.probeWrongKind_blocks (s : State) (e : Device) : BlocksOnly s (s.probeWrongKind e) := by
  unfold State.probeWrongKind
  dsimp only
  split
  · exact State.modDevice_blocks _ _ _
  · exact ((State.modDevice_blocks _ _ _).trans (State.offer_blocks _ _ _)).trans (State.ownerFault_blocks _ _)

theorem State.probeFound_blocks (s : State) (l a : Nat) (k : DeviceKind) : BlocksOnly s (s.probeFound l a k).1 := by
  unfold State.probeFound
  split
  · repeat' split
    · exact State.modDevice_blocks _ _ _
    · exact State.probeWrongKind_blocks _ _
    · exact State.probeWrongKind_blocks _ _
    · exact State.modDevice_blocks _ _ _
  · unfold State.probeNew
    by_cases h : (decide (s.devices.length < Config.deviceCapacity) && !s.actuatorsFull l k) = true
    · simp only [h, if_true]
      exact State.addDevice_blocks _ _
    · simp only [h]
      exact .refl s

theorem State.probeSilent_blocks (s : State) (l a : Nat) : BlocksOnly s (s.probeSilent l a).1 := by
  unfold State.probeSilent
  split
  · exact State.modDevice_blocks _ _ _
  · exact .refl s

theorem State.startRound_blocks (s : State) (l : Nat) : BlocksOnly s (s.startRound l) := State.modLine_blocks _ _ _

theorem State.startRoundIfDue_blocks (s : State) (l : Nat) : BlocksOnly s (s.startRoundIfDue l) := by
  unfold State.startRoundIfDue
  repeat' split
  · exact State.startRound_blocks _ _
  · exact .refl s
  · exact .refl s

theorem State.takeUp_blocks (s : State) (l : Nat) : BlocksOnly s (s.takeUp l) := by
  unfold State.takeUp
  repeat' split
  · exact State.putLine_blocks _ _ _
  · exact State.putLine_blocks _ _ _
  · exact (State.putLine_blocks _ _ _).trans (State.startRoundIfDue_blocks _ _)
  all_goals exact .refl s

theorem State.resend_blocks (s : State) (l : Nat) : BlocksOnly s (s.resend l) := by
  unfold State.resend
  repeat' split
  · exact State.putLine_blocks _ _ _
  all_goals exact .refl s

theorem State.sendProbe_blocks (s : State) (l : Nat) : BlocksOnly s (s.sendProbe l) := by
  unfold State.sendProbe
  repeat' split
  · exact State.putLine_blocks _ _ _
  all_goals exact .refl s

theorem State.enterEnrolling_blocks (s : State) (l : Nat) : BlocksOnly s (s.enterEnrolling l) := State.modLine_blocks _ _ _

theorem State.completeEnrolment_blocks (s : State) (l : Nat) (e : Enrolment) : BlocksOnly s (s.completeEnrolment l e) := by
  unfold State.completeEnrolment
  exact ((State.offer_blocks _ _ _).trans (State.modLine_blocks _ _ _)).trans (State.startRound_blocks _ _)

theorem State.advanceEnrolment_blocks (s : State) (l a : Nat) (c : ProbeCount) :
    BlocksOnly s (s.advanceEnrolment l a c) := by
  unfold State.advanceEnrolment
  split
  · split
    · dsimp only
      split
      · exact State.completeEnrolment_blocks _ _ _
      · exact State.putLine_blocks _ _ _
    · exact .refl s
  · exact .refl s

theorem State.abandonEnrolment_blocks (s : State) (l : Nat) : BlocksOnly s (s.abandonEnrolment l) := by
  unfold State.abandonEnrolment
  split
  · exact (State.modLine_blocks _ _ _).trans (State.offer_blocks _ _ _)
  · exact .refl s

theorem State.dropEnrolment_blocks (s : State) (l : Nat) : BlocksOnly s (s.dropEnrolment l) := by
  unfold State.dropEnrolment
  split
  · split
    · dsimp only
      split
      · exact (State.putLine_blocks _ _ _).trans (State.startRound_blocks _ _)
      · exact (State.putLine_blocks _ _ _).trans (State.startRoundIfDue_blocks _ _)
    · exact .refl s
  · exact .refl s

theorem State.endTransaction_blocks (s : State) (l : Nat) : BlocksOnly s (s.endTransaction l) :=
  (State.modLine_blocks _ _ _).trans (State.enterEnrolling_blocks _ _)

theorem State.commandSucceeded_blocks (s : State) (i : Issuer) (d : DeviceAddr) (v : Nat) :
    BlocksOnly s (s.commandSucceeded i d v) := by
  unfold State.commandSucceeded
  split
  · cases i with
    | arbiter p => exact State.dutySucceeded_blocks _ _ _
    | _ => exact .refl s
  · exact .refl s

theorem State.succeed_blocks (s : State) (l : Nat) (t : Transaction) (payload : List Byte) :
    BlocksOnly s (s.succeed l t payload) := by
  unfold State.succeed
  dsimp only
  refine .trans ?_ ((State.modLine_blocks _ _ _).trans (State.endTransaction_blocks _ _))
  split
  · split
    · exact State.deviceSuccess_blocks _ _ _ _
    · exact (State.deviceSuccess_blocks _ _ _ _).trans (State.commandSucceeded_blocks _ _ _ _)
    · exact .refl s
  · exact .refl s

theorem State.fail_blocks (s : State) (l : Nat) (t : Transaction) (reason : FaultReason) :
    BlocksOnly s (s.fail l t reason) := by
  unfold State.fail
  dsimp only
  refine .trans ?_ (State.endTransaction_blocks _ _)
  split
  · split
    · exact State.deviceFailure_blocks _ _ _
    · exact (State.deviceFailure_blocks _ _ _).trans (State.commandFailed_blocks _ _ _)
    · exact .refl s
  · exact .refl s

theorem State.hang_blocks (s : State) (l : Nat) (r : Line) : BlocksOnly s (s.hang l r) := by
  unfold State.hang
  exact ((State.putLine_blocks _ _ _).trans (State.offer_blocks _ _ _)).trans (State.abandonEnrolment_blocks _ _)

theorem State.disableLine_blocks (s : State) (l : Nat) (r : Line) : BlocksOnly s (s.disableLine l r) := by
  unfold State.disableLine
  dsimp only
  have k := (((((State.putLine_blocks s l { r with
        inFlight := none, releasing := true, state := .disabled, hangCount := 3, queue := [], roundInProgress := false
        roundDue := none, recoveryDue := none }).trans (State.followAlarm_blocks _)).trans
      (State.offer_blocks _ (.lineHung 3 (r.inFlight.map Transaction.described)) (.line l))).trans
      (State.abandonEnrolment_blocks _ l)).trans (State.offer_blocks _ .lineDisabled (.line l))).trans
    (BlocksOnly.foldl _ (fun s (c : Command) => State.commandFailed_blocks s c.issuer ⟨l, c.address⟩) r.discarded _)
  split
  · exact k
  · exact k.trans (State.offer_blocks _ _ _)

theorem State.hangDetected_blocks (s : State) (l : Nat) : BlocksOnly s (s.hangDetected l) := by
  unfold State.hangDetected
  repeat' split
  · exact State.hang_blocks _ _ _
  · exact State.disableLine_blocks _ _ _
  all_goals exact .refl s

theorem State.releaseEnd_blocks (s : State) (l : Nat) : BlocksOnly s (s.releaseEnd l) := State.modLine_blocks _ _ _

theorem State.recoveryWaitExpiry_blocks (s : State) (l : Nat) : BlocksOnly s (s.recoveryWaitExpiry l) := by
  unfold State.recoveryWaitExpiry
  repeat' split
  · exact (State.putLine_blocks _ _ _).trans (State.startRoundIfDue_blocks _ _)
  all_goals exact .refl s

theorem State.roundTimerExpiry_blocks (s : State) (l : Nat) : BlocksOnly s (s.roundTimerExpiry l) := by
  unfold State.roundTimerExpiry
  repeat' split
  · exact (State.putLine_blocks _ _ _).trans (State.startRoundIfDue_blocks _ _)
  all_goals exact .refl s

theorem State.enableLine_blocks (s : State) (l : Nat) : BlocksOnly s (s.enableLine l) := by
  unfold State.enableLine
  repeat' split
  · exact (((State.putLine_blocks _ _ _).trans (State.followAlarm_blocks _)).trans (State.offer_blocks _ _ _)).trans
      (State.startRound_blocks _ _)
  all_goals exact .refl s

theorem State.beginEnrolment_blocks (s : State) (l : Nat) : BlocksOnly s (s.beginEnrolment l) :=
  (State.modLine_blocks _ _ _).trans (State.enterEnrolling_blocks _ _)

theorem State.retire_blocks (s : State) (d : DeviceAddr) : BlocksOnly s (s.retire d) :=
  (State.removeDevice_blocks _ _).trans (State.modLine_blocks _ _ _)

/-! ## Measurement, light, climate, zones -/

theorem State.resolveLight_blocks (s : State) (z : Nat) : BlocksOnly s (s.resolveLight z) := by
  unfold State.resolveLight
  split
  · exact (State.putZone_blocks _ _ _).trans (State.evalMark_blocks _ _ _ _)
  · exact .refl s

theorem State.resolveClimate_blocks (s : State) (z : Nat) : BlocksOnly s (s.resolveClimate z) := by
  unfold State.resolveClimate
  split
  · exact (State.putZone_blocks _ _ _).trans (State.evalMark_blocks _ _ _ _)
  · exact .refl s

theorem State.sampleLight_blocks (s : State) (z : Nat) : BlocksOnly s (s.sampleLight z) := by
  unfold State.sampleLight
  dsimp only
  refine BlocksOnly.trans (State.resolveLight_blocks s z) ?_
  split
  · exact (State.putZone_blocks _ _ _).trans (State.evalMark_blocks _ _ _ _)
  · exact .refl _

theorem State.lightSample_blocks (s : State) (z : Nat) : BlocksOnly s (s.lightSample z) := by
  unfold State.lightSample
  repeat' split
  · exact (State.putZone_blocks _ _ _).trans (State.sampleLight_blocks _ _)
  all_goals exact .refl s

theorem State.reviewLight_blocks (s : State) (z : Nat) : BlocksOnly s (s.reviewLight z) := by
  unfold State.reviewLight
  split
  · dsimp only
    rename_i r0 _
    refine BlocksOnly.trans (State.putZone_blocks s z r0.fixTarget) (BlocksOnly.trans
      (State.evalMark_blocks _ z .lightPressure r0.fixTarget.light.condition.isPressed)
      (BlocksOnly.trans (State.evalMark_blocks _ z .exhausted r0.fixTarget.light.spent) ?_))
    split
    · split
      · exact (State.putZone_blocks _ _ _).trans (State.placeDimmer_blocks _ _ _ _)
      · exact State.putZone_blocks _ _ _
    · exact .refl _
  · exact .refl s

theorem State.lightReview_blocks (s : State) (z : Nat) : BlocksOnly s (s.lightReview z) := by
  unfold State.lightReview
  repeat' split
  · exact (State.putZone_blocks _ _ _).trans (State.reviewLight_blocks _ _)
  all_goals exact .refl s

theorem State.endOpposedPulse_blocks (s : State) (z : Nat) : BlocksOnly s (s.endOpposedPulse z) := by
  unfold State.endOpposedPulse
  repeat' split
  · exact State.endPulse_blocks _ _
  all_goals exact .refl s

theorem State.issuePulse_blocks (s : State) (z : Nat) : BlocksOnly s (s.issuePulse z) := by
  unfold State.issuePulse
  repeat' split
  · exact (State.putZone_blocks _ _ _).trans (State.place_blocks _ _ _ _)
  all_goals exact .refl s

theorem State.setDemand_blocks (s : State) (z : Nat) (d : Option ZoneDemand) : BlocksOnly s (s.setDemand z d) :=
  State.modZone_blocks _ _ _

theorem State.raiseDemand_blocks (s : State) (z p : Nat) (n : Need) : BlocksOnly s (s.raiseDemand z p n) :=
  (State.setDemand_blocks _ _ _).trans (State.raise_blocks _ _ _ _ _)

theorem State.withdrawDemand_blocks (s : State) (z : Nat) (d : ZoneDemand) : BlocksOnly s (s.withdrawDemand z d) :=
  (State.setDemand_blocks _ _ _).trans (State.withdraw_blocks _ _ _)

theorem State.settleDemand_blocks (s : State) (z : Nat) (held : Option ZoneDemand) (wanted : Option (Nat × Need)) :
    BlocksOnly s (s.settleDemand z held wanted) := by
  unfold State.settleDemand
  split
  · exact .refl s
  · exact State.raiseDemand_blocks _ _ _ _
  · exact State.withdrawDemand_blocks _ _ _
  · repeat' split
    · exact .refl s
    · exact (State.setDemand_blocks _ _ _).trans (State.update_blocks _ _ _ _)
    · exact (State.withdrawDemand_blocks _ _ _).trans (State.raiseDemand_blocks _ _ _ _)

theorem State.decideDemand_blocks (s : State) (z : Nat) : BlocksOnly s (s.decideDemand z) := by
  unfold State.decideDemand
  split
  · exact (State.putZone_blocks _ _ _).trans (State.settleDemand_blocks _ _ _ _)
  · exact .refl s

theorem State.climateMarks_blocks (s : State) (z : Nat) : BlocksOnly s (s.climateMarks z) := by
  unfold State.climateMarks
  split
  · exact ((State.evalMark_blocks _ _ _ _).trans (State.evalMark_blocks _ _ _ _)).trans
      ((State.evalMark_blocks _ _ _ _).trans (State.evalMark_blocks _ _ _ _))
  · exact .refl s

theorem State.reviewClimate_blocks (s : State) (z : Nat) : BlocksOnly s (s.reviewClimate z) := by
  unfold State.reviewClimate
  dsimp only
  refine BlocksOnly.trans (State.resolveClimate_blocks s z) ?_
  split
  · split
    · exact .refl _
    · exact (((State.putZone_blocks _ _ _).trans (State.endOpposedPulse_blocks _ _)).trans
        (State.issuePulse_blocks _ _)).trans ((State.decideDemand_blocks _ _).trans (State.climateMarks_blocks _ _))
  · exact .refl _

theorem State.climateReview_blocks (s : State) (z : Nat) : BlocksOnly s (s.climateReview z) := by
  unfold State.climateReview
  repeat' split
  · exact (State.putZone_blocks _ _ _).trans (State.reviewClimate_blocks _ _)
  all_goals exact .refl s

theorem State.pulseEndExpiry_blocks (s : State) (z : Nat) : BlocksOnly s (s.pulseEndExpiry z) := by
  unfold State.pulseEndExpiry
  repeat' split
  · exact State.endPulse_blocks _ _
  all_goals exact .refl s

theorem State.hourRollover_blocks (s : State) (z : Nat) : BlocksOnly s (s.hourRollover z) := State.modZone_blocks _ _ _

theorem State.leavePlant_blocks (s : State) (z : Nat) (old : Zone) (d : Definition) : BlocksOnly s (s.leavePlant z old d) := by
  unfold State.leavePlant
  repeat' split
  · exact .refl s
  · exact State.withdraw_blocks _ _ _
  · exact .refl s

theorem State.leaveDimmer_blocks (s : State) (z : Nat) (old : Zone) (d : Definition) :
    BlocksOnly s (s.leaveDimmer z old d) := by
  unfold State.leaveDimmer
  split
  · exact .refl s
  · exact State.placeDimmer_blocks _ _ _ _

theorem State.leaveTrim_blocks (s : State) (z : Nat) (old : Zone) (d : Definition) : BlocksOnly s (s.leaveTrim z old d) := by
  unfold State.leaveTrim
  repeat' split
  · exact .refl s
  · exact State.place_blocks _ _ _ _
  · exact .refl s

theorem State.defineZone_blocks (s : State) (z : Nat) (d : Definition) : BlocksOnly s (s.defineZone z d) := by
  unfold State.defineZone
  split
  · exact State.putZone_blocks _ _ _
  · exact (((State.putZone_blocks _ _ _).trans (State.leavePlant_blocks _ _ _ _)).trans
      (State.leaveDimmer_blocks _ _ _ _)).trans (State.leaveTrim_blocks _ _ _ _)

theorem State.closeZone_blocks (s : State) (z : Nat) : BlocksOnly s (s.closeZone z) := by
  unfold State.closeZone
  repeat' split
  · exact (State.putZone_blocks _ _ _).trans (State.placeDimmer_blocks _ _ _ _)
  all_goals exact .refl s

theorem State.defineBank_blocks (s : State) (b : Nat) (d : DeviceAddr) (slew : Nat) :
    BlocksOnly s (s.defineBank b d slew) := by
  unfold State.defineBank
  exact (State.putBank_blocks _ _ _).trans (State.placeClosure_blocks _ _)

theorem State.bankStep_blocks (s : State) (b : Nat) : BlocksOnly s (s.bankStep b) := by
  unfold State.bankStep
  split
  · split
    · dsimp only
      split
      · exact State.putBank_blocks _ _ _
      · exact (State.putBank_blocks _ _ _).trans (State.placeClosure_blocks _ _)
    · exact .refl s
  · exact .refl s

end Sys2Proof.Machine
end

