-- ==== Sys2Proof/Laws/Operands.lean ====
section
/-! SUPPORT. Values in bytes and back: every reader of a request body reads what the sender's form of that value writes. -/

namespace Sys2Proof.Machine

@[simp] theorem be_length (n v : Nat) : (be n v).length = n := by
  induction n with
  | zero => rfl
  | succ n ih => simp [be, ih]

theorem natOf_foldl (bs : List Byte) (a : Nat) :
    bs.foldl (fun a b => a * 256 + b.toNat) a = a * 256 ^ bs.length + natOf bs := by
  induction bs generalizing a with
  | nil => simp [natOf]
  | cons b bs ih =>
    simp only [List.foldl_cons, List.length_cons, natOf]
    rw [ih, ih (0 * 256 + b.toNat)]
    ring

theorem natOf_cons (b : Byte) (bs : List Byte) : natOf (b :: bs) = b.toNat * 256 ^ bs.length + natOf bs := by
  have := natOf_foldl bs b.toNat
  simpa [natOf] using this

/-- A number that fits is read back from its bytes. -/
theorem natOf_be (n v : Nat) (h : v < 256 ^ n) : natOf (be n v) = v := by
  induction n generalizing v with
  | zero => simp at h; simp [be, natOf, h]
  | succ n ih =>
    have hmod : natOf (be n v) = v % 256 ^ n := by
      have : be n v = be n (v % 256 ^ n) := by
        clear ih h
        induction n generalizing v with
        | zero => rfl
        | succ k ihk =>
          simp only [be]
          rw [ihk v, ihk (v % 256 ^ (k + 1)), Nat.mod_mod_of_dvd _ (Nat.pow_dvd_pow 256 (Nat.le_succ k))]
          congr 1
          have hp : 0 < 256 ^ k := Nat.pos_of_ne_zero (by positivity)
          rw [pow_succ, Nat.mod_mul_right_div_self]
          apply BitVec.eq_of_toNat_eq
          simp
      rw [this, ih _ (Nat.mod_lt _ (by positivity))]
    have hq : v / 256 ^ n < 256 := Nat.div_lt_of_lt_mul (by rw [pow_succ] at h; exact h)
    simp only [be]
    rw [natOf_cons, be_length, hmod, BitVec.toNat_ofNat, Nat.mod_eq_of_lt hq, Nat.mul_comm]
    exact Nat.div_add_mod v (256 ^ n)

@[simp] theorem be_one (v : Nat) : be 1 v = [BitVec.ofNat 8 v] := by simp [be]

@[simp] theorem be_one_toNat (b : Byte) : be 1 b.toNat = [b] := by simp [be]

@[simp] theorem natOf_single (b : Byte) : natOf [b] = b.toNat := by simp [natOf]

/-! ## Readers -/

theorem readNat_append (n v : Nat) (rest : List Byte) (h : v < 256 ^ n) : readNat n (be n v ++ rest) = some (v, rest) := by
  simp [readNat, natOf_be n v h]

@[simp] theorem readNat_one_cons (b : Byte) (rest : List Byte) : readNat 1 (b :: rest) = some (b.toNat, rest) := by
  simp [readNat]

/-- Reading one value and then the next. -/
theorem reader_bind {α β : Type} (r : Reader α) (f : α → Reader β) (bs rest : List Byte) (a : α)
    (h : r bs = some (a, rest)) : (r >>= f) bs = f a rest := by
  show (r bs).bind (fun p => f p.1 p.2) = _
  rw [h]
  rfl

theorem reader_pure {α : Type} (a : α) (bs : List Byte) : (pure a : Reader α) bs = some (a, bs) := rfl

/-- A reader reads values of a form where it takes exactly that form off the front of any body. -/
def Reads {α : Type} (r : Reader α) (bytes : α → List Byte) (a : α) : Prop :=
  ∀ rest, r (bytes a ++ rest) = some (a, rest)

theorem reads_nat (n v : Nat) (h : v < 256 ^ n) : Reads (readNat n) (be n) v := fun rest => readNat_append n v rest h

theorem readOptional_reads {α : Type} (r : Reader α) (bytes : α → List Byte) (o : Option α)
    (h : ∀ a ∈ o, Reads r bytes a) : Reads (readOptional r) (optional bytes) o := by
  intro rest
  cases o with
  | none =>
    unfold readOptional
    rw [reader_bind _ _ _ rest 0 (by simp [optional])]
    rfl
  | some a =>
    unfold readOptional
    rw [reader_bind _ _ _ (bytes a ++ rest) 1 (by simp [optional])]
    show (r >>= fun x => pure (some x)) (bytes a ++ rest) = _
    rw [reader_bind _ _ _ rest a (h a rfl rest)]
    rfl

theorem readMany_reads {α : Type} (r : Reader α) (bytes : α → List Byte) (l : List α) (h : ∀ a ∈ l, Reads r bytes a)
    (rest : List Byte) : readMany r l.length (l.flatMap bytes ++ rest) = some (l, rest) := by
  induction l with
  | nil => rfl
  | cons a l ih =>
    simp only [List.length_cons, readMany, List.flatMap_cons, List.append_assoc]
    rw [reader_bind _ _ _ _ a (h a (by simp) _), reader_bind _ _ _ _ l (ih fun x hx => h x (by simp [hx]))]
    rfl

theorem readList_reads {α : Type} (r : Reader α) (bytes : α → List Byte) (l : List α) (hl : l.length < 256)
    (h : ∀ a ∈ l, Reads r bytes a) : Reads (readList r) (counted bytes) l := by
  intro rest
  unfold readList counted
  rw [List.append_assoc, reader_bind _ _ _ _ l.length (readNat_append 1 _ _ (by simpa using hl))]
  exact readMany_reads r bytes l h rest

/-- A body that is exactly one value of a form holds that value. -/
theorem readBody_reads {α : Type} (r : Reader α) (bytes : α → List Byte) (a : α) (h : Reads r bytes a) :
    readBody r (bytes a) = some a := by
  have := h []
  rw [List.append_nil] at this
  simp [readBody, this]

/-! ## Codes -/

@[simp] theorem Duty.ofCode?_code (d : Duty) : Duty.ofCode? d.code = some d := by cases d <;> rfl
@[simp] theorem Mark.ofCode?_code (m : Mark) : Mark.ofCode? m.code = some m := by cases m <;> rfl
@[simp] theorem Policy.ofCode?_code (p : Policy) : Policy.ofCode? p.code = some p := by cases p <;> rfl
@[simp] theorem AlarmMode.ofCode?_code (m : AlarmMode) : AlarmMode.ofCode? m.code = some m := by cases m <;> rfl
@[simp] theorem QuantityClass.ofCode?_code (c : QuantityClass) : QuantityClass.ofCode? c.code = some c := by cases c <;> rfl
@[simp] theorem DeviceKind.ofCode?_code (k : DeviceKind) : DeviceKind.ofCode? k.code = some k := by cases k <;> rfl
@[simp] theorem flagOfCode?_flagCode (b : Bool) : flagOfCode? (flagCode b) = some b := by cases b <;> rfl

theorem Duty.code_lt (d : Duty) : d.code < 256 := by cases d <;> decide
theorem Mark.code_lt (m : Mark) : m.code < 256 := by cases m <;> decide
theorem AlarmMode.code_lt (m : AlarmMode) : m.code < 256 := by cases m <;> decide
theorem QuantityClass.code_lt (c : QuantityClass) : c.code < 256 := by cases c <;> decide

/-- Every mark is in the list of R17. -/
theorem mem_allMarks (m : Mark) : m ∈ allMarks := by cases m <;> decide

theorem allSome_map {α β γ : Type} (f : α → Option β) (g : γ → α) (h : γ → β) (l : List γ)
    (hf : ∀ c ∈ l, f (g c) = some (h c)) : allSome f (l.map g) = some (l.map h) := by
  induction l with
  | nil => rfl
  | cons c l ih =>
    simp only [List.map_cons, allSome]
    rw [hf c (by simp), ih fun x hx => hf x (by simp [hx])]

end Sys2Proof.Machine
end

