-- ==== Sys2Proof/Laws/Requests.lean ====
section
/-! SUPPORT. How a request is answered and how an event happens, said once; and the bodies a host sends, read back. -/

namespace Sys2Proof.Machine

/-! ## Requests -/

/-- A request command is the arrival of its frame. -/
theorem exec_request {c : Instr} {f : Frame} (s : State) (h : c.request? = some f) :
    exec c s = request f.kind f.tag f.body s := by
  cases c
  case unknownRequestKind kind tag body =>
    simp only [Instr.request?] at h
    split at h
    · cases h
    · rename_i hk
      cases h
      simp [exec, execUnknownRequestKind, hk]
  all_goals first | cases h; rfl | cases h

/-- A request that the link takes up is handled: its reply joins, it leaves the intake, an idle output is fed. -/
theorem request_takenUp {kind tag : Byte} {body : List Byte} {s : State} {c : Instr}
    (hc : c.request? = some ⟨tag, kind, body⟩) (h : TakenUp c s) :
    request kind tag body s = .next (s.handled ⟨tag, kind, body⟩) := by
  obtain ⟨f, hf, hr, ho, hm⟩ := h
  rw [hc] at hf
  cases hf
  simp [request, hr, ho, hm]

/-- A request whose work is a reply is answered with it. -/
theorem answers_reply {kind tag : Byte} {body : List Byte} {s after : State} {c : Instr}
    {status : Status} {content : List Byte} (hc : c.request? = some ⟨tag, kind, body⟩)
    (he : exec c s = request kind tag body s) (h : TakenUp c s)
    (hw : answerTo ⟨tag, kind, body⟩ s = .reply status content after) : Answers c s status content after := by
  refine ⟨_, hc, ?_⟩
  rw [he, request_takenUp hc h]
  simp [State.handled, State.answer, hw, State.replied]

/-- A request whose work is a refusal is answered with its status alone, and changes nothing else. -/
theorem answers_refuse {kind tag : Byte} {body : List Byte} {s : State} {c : Instr}
    {status : Status} (hc : c.request? = some ⟨tag, kind, body⟩) (he : exec c s = request kind tag body s)
    (h : TakenUp c s) (hw : answerTo ⟨tag, kind, body⟩ s = .refuse status) : Answers c s status [] s := by
  refine ⟨_, hc, ?_⟩
  rw [he, request_takenUp hc h]
  simp [State.handled, State.answer, hw, State.replied]

/-! What each kind of the catalogue is answered (R165). -/

theorem answerTo_identify (tag : Byte) (body : List Byte) :
    answerTo ⟨tag, 0x01, body⟩ = withBody readNothing body answerIdentify := rfl
theorem answerTo_timeSet (tag : Byte) (body : List Byte) :
    answerTo ⟨tag, 0x02, body⟩ = withBody (readNat 4) body answerTimeSet := rfl
theorem answerTo_timeRead (tag : Byte) (body : List Byte) :
    answerTo ⟨tag, 0x03, body⟩ = withBody readNothing body answerTimeRead := rfl
theorem answerTo_zoneDefine (tag : Byte) (body : List Byte) :
    answerTo ⟨tag, 0x04, body⟩ = withBody readZoneDefine body answerZoneDefine := rfl
theorem answerTo_zoneBind (tag : Byte) (body : List Byte) :
    answerTo ⟨tag, 0x05, body⟩ = withBody readZoneBind body answerZoneBind := rfl
theorem answerTo_zoneOpen (tag : Byte) (body : List Byte) :
    answerTo ⟨tag, 0x06, body⟩ = withBody (readNat 1) body answerZoneOpen := rfl
theorem answerTo_zoneClose (tag : Byte) (body : List Byte) :
    answerTo ⟨tag, 0x07, body⟩ = withBody (readNat 1) body answerZoneClose := rfl
theorem answerTo_zoneRead (tag : Byte) (body : List Byte) :
    answerTo ⟨tag, 0x08, body⟩ = withBody (readNat 1) body answerZoneRead := rfl
theorem answerTo_marksClear (tag : Byte) (body : List Byte) :
    answerTo ⟨tag, 0x09, body⟩ = withBody readMarksClear body answerMarksClear := rfl
theorem answerTo_seasonBegin (tag : Byte) (body : List Byte) :
    answerTo ⟨tag, 0x0A, body⟩ = withBody readSeasonBegin body answerSeasonBegin := rfl
theorem answerTo_seasonEnd (tag : Byte) (body : List Byte) :
    answerTo ⟨tag, 0x0B, body⟩ = withBody (readNat 1) body answerSeasonEnd := rfl
theorem answerTo_accountRead (tag : Byte) (body : List Byte) :
    answerTo ⟨tag, 0x0C, body⟩ = withBody (readNat 1) body answerAccountRead := rfl
theorem answerTo_accountAdjust (tag : Byte) (body : List Byte) :
    answerTo ⟨tag, 0x0D, body⟩ = withBody readAccountAdjust body answerAccountAdjust := rfl
theorem answerTo_climateBand (tag : Byte) (body : List Byte) :
    answerTo ⟨tag, 0x0E, body⟩ = withBody readClimateBand body answerClimateBand := rfl
theorem answerTo_historyRead (tag : Byte) (body : List Byte) :
    answerTo ⟨tag, 0x0F, body⟩ = withBody (readNat 1) body answerHistoryRead := rfl
theorem answerTo_occupancy (tag : Byte) (body : List Byte) :
    answerTo ⟨tag, 0x10, body⟩ = withBody readOccupancy body answerOccupancy := rfl
theorem answerTo_bankDefine (tag : Byte) (body : List Byte) :
    answerTo ⟨tag, 0x11, body⟩ = withBody readBankDefine body answerBankDefine := rfl
theorem answerTo_bankRead (tag : Byte) (body : List Byte) :
    answerTo ⟨tag, 0x12, body⟩ = withBody (readNat 1) body answerBankRead := rfl
theorem answerTo_plantDefine (tag : Byte) (body : List Byte) :
    answerTo ⟨tag, 0x13, body⟩ = withBody readPlantDefine body answerPlantDefine := rfl
theorem answerTo_plantHold (tag : Byte) (body : List Byte) :
    answerTo ⟨tag, 0x14, body⟩ = withBody readPair body answerPlantHold := rfl
theorem answerTo_plantRelease (tag : Byte) (body : List Byte) :
    answerTo ⟨tag, 0x15, body⟩ = withBody (readNat 1) body answerPlantRelease := rfl
theorem answerTo_plantRead (tag : Byte) (body : List Byte) :
    answerTo ⟨tag, 0x16, body⟩ = withBody (readNat 1) body answerPlantRead := rfl
theorem answerTo_lineSet (tag : Byte) (body : List Byte) :
    answerTo ⟨tag, 0x17, body⟩ = withBody readPair body answerLineSet := rfl
theorem answerTo_lineEnrol (tag : Byte) (body : List Byte) :
    answerTo ⟨tag, 0x18, body⟩ = withBody (readNat 1) body answerLineEnrol := rfl
theorem answerTo_lineEnable (tag : Byte) (body : List Byte) :
    answerTo ⟨tag, 0x19, body⟩ = withBody (readNat 1) body answerLineEnable := rfl
theorem answerTo_lineRead (tag : Byte) (body : List Byte) :
    answerTo ⟨tag, 0x1A, body⟩ = withBody (readNat 1) body answerLineRead := rfl
theorem answerTo_deviceRead (tag : Byte) (body : List Byte) :
    answerTo ⟨tag, 0x1B, body⟩ = withBody readDevice body answerDeviceRead := rfl
theorem answerTo_deviceRetire (tag : Byte) (body : List Byte) :
    answerTo ⟨tag, 0x1C, body⟩ = withBody readDevice body answerDeviceRetire := rfl
theorem answerTo_reportSet (tag : Byte) (body : List Byte) :
    answerTo ⟨tag, 0x1D, body⟩ = withBody readReportSet body answerReportSet := rfl
theorem answerTo_checkpointNow (tag : Byte) (body : List Byte) :
    answerTo ⟨tag, 0x1E, body⟩ = withBody readNothing body answerCheckpointNow := rfl
theorem answerTo_restart (tag : Byte) (body : List Byte) :
    answerTo ⟨tag, 0x1F, body⟩ = withBody readNothing body answerRestart := rfl

theorem withBody_some {α : Type} {r : Reader α} {body : List Byte} {f : α → State → Answer} {s : State} {a : α}
    (h : readBody r body = some a) : withBody r body f s = f a s := by simp [withBody, h]

theorem withBody_none {α : Type} {r : Reader α} {body : List Byte} {f : α → State → Answer} {s : State}
    (h : readBody r body = none) : withBody r body f s = .refuse .shape := by simp [withBody, h]

theorem onZone_some {z : Nat} {s : State} {r : Zone} (work : Zone → Answer) (h : s.zone? z = some r) :
    onZone z s work = work r := by
  have hv := (validZone_iff z).2 (State.zone?_valid h)
  simp [onZone, hv, h]

theorem onLine_some {l : Nat} {s : State} {r : Line} (work : Line → Answer) (h : s.line? l = some r) :
    onLine l s work = work r := by simp [onLine, h]

/-! ## The intake (R161) -/

/-- With nothing waiting there is nothing to take up. -/
theorem State.serve_nil {s : State} (now : Nat → Bool) (n : Nat) (h : s.link.intake = []) : s.serve now n = s := by
  cases n <;> simp [State.serve, h]

/-- Where no request may be taken up, those that wait go on waiting. -/
theorem State.serve_busy {s : State} (now : Nat → Bool) (n : Nat) (h : s.mayTakeUp = false) : s.serve now n = s := by
  cases n with
  | zero => rfl
  | succ n =>
    unfold State.serve
    split
    · simp [h]
    · rfl

theorem State.serveIntake_nil {s : State} (h : s.link.intake = []) : s.serveIntake = s := State.serve_nil _ _ h
theorem State.serveSome_nil {s : State} (h : s.link.intake = []) : s.serveSome = s := State.serve_nil _ _ h
theorem State.serveIntake_busy {s : State} (h : s.mayTakeUp = false) : s.serveIntake = s := State.serve_busy _ _ h
theorem State.serveSome_busy {s : State} (h : s.mayTakeUp = false) : s.serveSome = s := State.serve_busy _ _ h

/-- A delivery takes no request up, and frees no room. -/
theorem State.deliver_mayTakeUp {s : State} {f : Frame} (h : s.mayTakeUp = false) : (s.deliver f).mayTakeUp = false := by
  unfold State.deliver
  split
  · exact h
  · split
    · rename_i h1 h2
      simp only [State.mayTakeUp, Bool.and_eq_false_iff, decide_eq_false_iff_not] at h ⊢
      rcases h with h | h
      · exact .inl h
      · exact absurd h2 h
    · exact h

/-- A frame that arrives while no request may be taken up joins the intake, is answered FULL or is discarded. -/
theorem State.arrive_busy {s : State} {f : Frame} (h : s.mayTakeUp = false) : s.arrive f = (s.deliver f).feedOutput := by
  rw [State.arrive, State.serveSome_busy h, State.serveSome_busy (State.deliver_mayTakeUp h)]

/-! ## Events -/

/-- An event of a running part: its work, and then an idle output is fed. -/
theorem event_running {work : State → State} {s : State} (h : s.running = true) :
    event work s = .next (work s).feedOutput := by simp [event, h]

theorem happens_event {c : Instr} {work : State → State} {s t : State} (he : exec c s = event work s)
    (hr : s.running = true) (hw : work s = t) : Happens c s t := by
  unfold Happens
  rw [he, event_running hr, hw]

/-! ## Bodies read back -/

theorem readBody_nothing : readBody readNothing [] = some () := rfl

theorem readBody_one (b : Byte) : readBody (readNat 1) [b] = some b.toNat := by simp [readBody]

theorem readBody_nat {n v : Nat} (h : v < 256 ^ n) : readBody (readNat n) (be n v) = some v :=
  readBody_reads _ _ _ (reads_nat n v h)

theorem reads_device {d : DeviceAddr} (h : d.fits) : Reads readDevice DeviceAddr.bytes d := by
  intro rest
  unfold readDevice DeviceAddr.bytes
  rw [List.append_assoc, reader_bind _ _ _ _ d.line (readNat_append 1 _ _ (by simpa using h.1)),
    reader_bind _ _ _ _ d.address (readNat_append 1 _ _ (by simpa using h.2))]
  rfl

theorem reads_definition {f : DefinitionFields} (h : f.fits) : Reads readDefinition DefinitionFields.bytes f := by
  obtain ⟨h1, h2, h3, h4, h5, h6, h7, h8, h9, h10, h11, h12, h13⟩ := h
  intro rest
  have r16 : ∀ v, v < 65536 → Reads (readNat 2) (be 2) v := fun v hv => reads_nat 2 v (by simpa using hv)
  have r8 : ∀ v, v < 256 → Reads (readNat 1) (be 1) v := fun v hv => reads_nat 1 v (by simpa using hv)
  unfold readDefinition DefinitionFields.bytes
  simp only [List.append_assoc]
  rw [reader_bind _ _ _ _ _ (r16 _ h1 _), reader_bind _ _ _ _ _ (r16 _ h2 _), reader_bind _ _ _ _ _ (r8 _ h3 _),
    reader_bind _ _ _ _ _ (readOptional_reads _ _ _ (fun v hv => r16 v (h4 v hv)) _),
    reader_bind _ _ _ _ _ (r8 _ h5 _),
    reader_bind _ _ _ _ _ (readOptional_reads _ _ _ (fun v hv => r8 v (h6 v hv)) _),
    reader_bind _ _ _ _ _ (readOptional_reads _ _ _ (fun v hv => r8 v (h7 v hv)) _),
    reader_bind _ _ _ _ _ (r8 _ h8 _),
    reader_bind _ _ _ _ _ (readOptional_reads _ _ _ (fun v hv => reads_device (h9 v hv)) _),
    reader_bind _ _ _ _ _ (readOptional_reads _ _ _ (fun v hv => reads_device (h10 v hv)) _),
    reader_bind _ _ _ _ _ (readOptional_reads _ _ _
      (fun l hl => readList_reads _ _ l (h11 l hl).1 fun b hb => r8 b ((h11 l hl).2 b hb)) _),
    reader_bind _ _ _ _ _ (readOptional_reads _ _ _ (fun v hv => r16 v (h12 v hv)) _),
    reader_bind _ _ _ _ _ (readOptional_reads _ _ _ (fun v hv => r8 v (h13 v hv)) _)]
  rfl

theorem readBody_zoneDefine {z : Nat} {f : DefinitionFields} (hz : z < 256) (h : f.fits) :
    readBody readZoneDefine (be 1 z ++ f.bytes) = some (z, f) := by
  have : Reads readZoneDefine (fun q => be 1 q.1 ++ q.2.bytes) (z, f) := by
    intro rest
    unfold readZoneDefine
    simp only [List.append_assoc]
    rw [reader_bind _ _ _ _ _ (readNat_append 1 z _ (by simpa using hz)),
      reader_bind _ _ _ _ _ (reads_definition h _)]
    rfl
  have e := readBody_reads _ _ _ this
  exact e

theorem readBody_zoneBind {z : Nat} {bs : List Binding} (hz : z < 256) (hl : bs.length < 256)
    (h : ∀ b ∈ bs, b.inRange) :
    readBody readZoneBind (be 1 z ++ counted Binding.bytes bs)
      = some (z, bs.map fun b => (b.line, b.base, b.care, b.cls.code)) := by
  have e : counted Binding.bytes bs = counted (fun (q : Nat × Nat × Nat × Nat) => be 1 q.1 ++ be 1 q.2.1 ++ be 1 q.2.2.1 ++ be 1 q.2.2.2)
      (bs.map fun b => (b.line, b.base, b.care, b.cls.code)) := by
    simp only [counted, List.flatMap_map, List.length_map]; rfl
  rw [e]
  have : Reads readZoneBind (fun (q : Nat × List (Nat × Nat × Nat × Nat)) => be 1 q.1 ++ counted
      (fun (q : Nat × Nat × Nat × Nat) => be 1 q.1 ++ be 1 q.2.1 ++ be 1 q.2.2.1 ++ be 1 q.2.2.2) q.2)
      (z, bs.map fun b => (b.line, b.base, b.care, b.cls.code)) := by
    intro rest
    unfold readZoneBind
    simp only [List.append_assoc]
    rw [reader_bind _ _ _ _ _ (readNat_append 1 z _ (by simpa using hz)),
      reader_bind _ _ _ _ _ (readList_reads _ _ _ (by simpa using hl) (fun q hq => ?_) _)]
    · rfl
    · obtain ⟨b, hb, rfl⟩ := List.mem_map.1 hq
      obtain ⟨h1, h2, h3⟩ := h b hb
      have h1 := (validLine_iff b.line).1 h1
      intro rest
      simp only [List.append_assoc]
      rw [reader_bind _ _ _ _ _ (readNat_append 1 b.line _ (by omega)),
        reader_bind _ _ _ _ _ (readNat_append 1 b.base _ (by omega)),
        reader_bind _ _ _ _ _ (readNat_append 1 b.care _ (by omega)),
        reader_bind _ _ _ _ _ (readNat_append 1 b.cls.code _ (by simpa using b.cls.code_lt))]
      rfl
  have e := readBody_reads _ _ _ this
  exact e

theorem readBody_marksClear {z : Nat} {named : List Mark} (hz : z < 256) (hl : named.length < 256) :
    readBody readMarksClear (be 1 z ++ counted (fun m => be 1 m.code) named) = some (z, named.map Mark.code) := by
  have : Reads readMarksClear (fun (q : Nat × List Nat) => be 1 q.1 ++ counted (be 1) q.2) (z, named.map Mark.code) := by
    intro rest
    unfold readMarksClear
    simp only [List.append_assoc]
    rw [reader_bind _ _ _ _ _ (readNat_append 1 z _ (by simpa using hz)),
      reader_bind _ _ _ _ _ (readList_reads _ _ _ (by simpa using hl) (fun q hq => ?_) _)]
    · rfl
    · obtain ⟨m, -, rfl⟩ := List.mem_map.1 hq
      exact reads_nat 1 _ (by simpa using m.code_lt)
  have := readBody_reads _ _ _ this
  simpa [counted, List.flatMap_map] using this

theorem readBody_seasonBegin {z a p : Nat} (hz : z < 256) (ha : a < 4294967296) (hp : p < 65536) :
    readBody readSeasonBegin (be 1 z ++ be 4 a ++ be 2 p) = some (z, a, p) := by
  have : Reads readSeasonBegin (fun (q : Nat × Nat × Nat) => be 1 q.1 ++ be 4 q.2.1 ++ be 2 q.2.2) (z, a, p) := by
    intro rest
    unfold readSeasonBegin
    simp only [List.append_assoc]
    rw [reader_bind _ _ _ _ _ (readNat_append 1 z _ (by simpa using hz)),
      reader_bind _ _ _ _ _ (readNat_append 4 a _ (by simpa using ha)),
      reader_bind _ _ _ _ _ (readNat_append 2 p _ (by simpa using hp))]
    rfl
  have e := readBody_reads _ _ _ this
  exact e

theorem readBody_accountAdjust {z d q : Nat} (hz : z < 256) (hd : d < 281474976710656) (hq : q < 4294967296) :
    readBody readAccountAdjust (be 1 z ++ be 6 d ++ be 4 q) = some (z, d, q) := by
  have : Reads readAccountAdjust (fun (x : Nat × Nat × Nat) => be 1 x.1 ++ be 6 x.2.1 ++ be 4 x.2.2) (z, d, q) := by
    intro rest
    unfold readAccountAdjust
    simp only [List.append_assoc]
    rw [reader_bind _ _ _ _ _ (readNat_append 1 z _ (by simpa using hz)),
      reader_bind _ _ _ _ _ (readNat_append 6 d _ (by simpa using hd)),
      reader_bind _ _ _ _ _ (readNat_append 4 q _ (by simpa using hq))]
    rfl
  have e := readBody_reads _ _ _ this
  exact e

theorem readBody_occupancy {z n : Nat} (hz : z < 256) (hn : n < 65536) :
    readBody readOccupancy (be 1 z ++ be 2 n) = some (z, n) := by
  have : Reads readOccupancy (fun (x : Nat × Nat) => be 1 x.1 ++ be 2 x.2) (z, n) := by
    intro rest
    unfold readOccupancy
    simp only [List.append_assoc]
    rw [reader_bind _ _ _ _ _ (readNat_append 1 z _ (by simpa using hz)),
      reader_bind _ _ _ _ _ (readNat_append 2 n _ (by simpa using hn))]
    rfl
  have e := readBody_reads _ _ _ this
  exact e

theorem Band.fits_of_inRange {b : Band} (h : b.inRange = true) : b.fits := by
  simp only [Band.inRange, Machine.inRange, Bool.and_eq_true, decide_eq_true_eq] at h
  obtain ⟨⟨⟨⟨⟨⟨⟨h1, h2⟩, h3⟩, h4⟩, h5⟩, h6⟩, h7⟩, h8⟩ := h
  exact ⟨by omega, by omega, by omega, by omega, by omega, by omega, by omega, by omega⟩

theorem readBody_climateBand {z : Nat} {b : Band} (hz : z < 256) (h : b.fits) :
    readBody readClimateBand (be 1 z ++ b.sent) = some (z, b) := by
  obtain ⟨h1, h2, h3, h4, h5, h6, h7, h8⟩ := h
  have : Reads readClimateBand (fun (x : Nat × Band) => be 1 x.1 ++ x.2.sent) (z, b) := by
    intro rest
    unfold readClimateBand Band.sent
    simp only [List.append_assoc]
    rw [reader_bind _ _ _ _ _ (readNat_append 1 z _ (by omega)),
      reader_bind _ _ _ _ _ (readNat_append 2 b.rhTarget _ (by omega)),
      reader_bind _ _ _ _ _ (readNat_append 1 b.rhHalf _ (by omega)),
      reader_bind _ _ _ _ _ (readNat_append 1 b.rhGuard _ (by omega)),
      reader_bind _ _ _ _ _ (readNat_append 2 b.swingLimit _ (by omega)),
      reader_bind _ _ _ _ _ (readNat_append 2 b.tempTarget _ (by omega)),
      reader_bind _ _ _ _ _ (readNat_append 1 b.tempHalf _ (by omega)),
      reader_bind _ _ _ _ _ (readNat_append 1 b.tempGuard _ (by omega)),
      reader_bind _ _ _ rest (some b.trimAllowance) (by
        have := readOptional_reads (readNat 1) (be 1) (some b.trimAllowance)
          (fun a ha => by cases ha; exact reads_nat 1 _ (by omega)) rest
        rw [optional, List.append_assoc] at this
        exact this)]
    rfl
  have e := readBody_reads _ _ _ this
  exact e

/-- A band whose trim allowance is left out takes the default allowance (R60). -/
theorem readBody_climateBand_without {z : Nat} {b : Band} (hz : z < 256) (h : b.fits) :
    readBody readClimateBand (be 1 z ++ b.sentWithout) = some (z, { b with trimAllowance := 4 }) := by
  obtain ⟨h1, h2, h3, h4, h5, h6, h7, -⟩ := h
  have : ∀ rest, readClimateBand (be 1 z ++ b.sentWithout ++ rest) = some ((z, { b with trimAllowance := 4 }), rest) := by
    intro rest
    unfold readClimateBand Band.sentWithout
    simp only [List.append_assoc]
    rw [reader_bind _ _ _ _ _ (readNat_append 1 z _ (by omega)),
      reader_bind _ _ _ _ _ (readNat_append 2 b.rhTarget _ (by omega)),
      reader_bind _ _ _ _ _ (readNat_append 1 b.rhHalf _ (by omega)),
      reader_bind _ _ _ _ _ (readNat_append 1 b.rhGuard _ (by omega)),
      reader_bind _ _ _ _ _ (readNat_append 2 b.swingLimit _ (by omega)),
      reader_bind _ _ _ _ _ (readNat_append 2 b.tempTarget _ (by omega)),
      reader_bind _ _ _ _ _ (readNat_append 1 b.tempHalf _ (by omega)),
      reader_bind _ _ _ _ _ (readNat_append 1 b.tempGuard _ (by omega)),
      reader_bind _ _ (be 1 0 ++ rest) rest none
        (readOptional_reads (readNat 1) (be 1) none (fun a ha => by cases ha) rest)]
    rfl
  have := this []
  rw [List.append_nil] at this
  unfold readBody
  rw [this]

theorem readBody_bankDefine {b : Nat} {d : DeviceAddr} {slew : Option Nat} (hb : b < 256) (hd : d.fits)
    (h : ∀ v ∈ slew, v < 256) :
    readBody readBankDefine (be 1 b ++ be 1 d.line ++ be 1 d.address ++ optional (be 1) slew)
      = some (b, d, slew.getD 10) := by
  have : ∀ rest, readBankDefine (be 1 b ++ be 1 d.line ++ be 1 d.address ++ optional (be 1) slew ++ rest)
      = some ((b, d, slew.getD 10), rest) := by
    intro rest
    unfold readBankDefine
    simp only [List.append_assoc]
    rw [reader_bind _ _ _ _ _ (readNat_append 1 b _ (by simpa using hb)),
      reader_bind _ _ _ (optional (be 1) slew ++ rest) d (by simpa [DeviceAddr.bytes] using reads_device hd _),
      reader_bind _ _ _ _ _ (readOptional_reads _ _ _ (fun v hv => reads_nat 1 v (by simpa using h v hv)) _)]
    rfl
  have := this []
  rw [List.append_nil] at this
  unfold readBody
  rw [this]

theorem readBody_plantDefine {p : Nat} {d : DeviceAddr} (hp : p < 256) (hd : d.fits) :
    readBody readPlantDefine (be 1 p ++ be 1 d.line ++ be 1 d.address) = some (p, d) := by
  have : ∀ rest, readPlantDefine (be 1 p ++ be 1 d.line ++ be 1 d.address ++ rest) = some ((p, d), rest) := by
    intro rest
    unfold readPlantDefine
    simp only [List.append_assoc]
    rw [reader_bind _ _ _ _ _ (readNat_append 1 p _ (by simpa using hp)),
      reader_bind _ _ _ rest d (by simpa [DeviceAddr.bytes] using reads_device hd _)]
    rfl
  have := this []
  rw [List.append_nil] at this
  unfold readBody
  rw [this]

theorem readBody_pair (a b : Byte) : readBody readPair [a, b] = some (a.toNat, b.toNat) := by
  unfold readBody readPair
  rw [reader_bind _ _ _ [b] a.toNat (readNat_one_cons _ _), reader_bind _ _ _ [] b.toNat (readNat_one_cons _ _)]
  rfl

theorem readBody_device (a b : Byte) : readBody readDevice [a, b] = some ⟨a.toNat, b.toNat⟩ := by
  unfold readBody readDevice
  rw [reader_bind _ _ _ [b] a.toNat (readNat_one_cons _ _), reader_bind _ _ _ [] b.toNat (readNat_one_cons _ _)]
  rfl

theorem readBody_reportSet (a b c : Byte) : readBody readReportSet [a, b, c] = some (a.toNat, b.toNat, c.toNat) := by
  unfold readBody readReportSet
  rw [reader_bind _ _ _ [b, c] a.toNat (readNat_one_cons _ _), reader_bind _ _ _ [c] b.toNat (readNat_one_cons _ _),
    reader_bind _ _ _ [] c.toNat (readNat_one_cons _ _)]
  rfl

theorem DeviceAddr.fits_of_inRange {d : DeviceAddr} (h : d.inRange = true) : d.fits := by
  simp only [DeviceAddr.inRange, Bool.and_eq_true] at h
  have h1 := (validLine_iff d.line).1 h.1
  have h2 := (validAddress_iff d.address).1 h.2
  exact ⟨by omega, by omega⟩

end Sys2Proof.Machine
end

