-- ==== Sys2Proof/Laws/Blocks.lean ====
section
/-! SUPPORT. What the shared operations do, said once: the configuration after a change of one zone, the next defined zone,
placing commands, the order of demands, ending pulses, and what climate tracking and plant arbitration change of a zone. -/

namespace Sys2Proof.Machine

/-! ## Tables, configuration, store -/

theorem tableOf_congr {α : Type} (n : Nat) (f g : Nat → α) (h : ∀ k, 1 ≤ k → k ≤ n → f k = g k) :
    tableOf n f = tableOf n g := by
  apply slot?_ext; intro k; simp only [slot?_tableOf]; split
  · rename_i hk; rw [h k hk.1 hk.2]
  · rfl

/-- The configuration changes with a zone's record exactly where what the store keeps of it changes (R168). -/
theorem State.configuration_putZone_iff {s : State} {z : Nat} {r r' : Zone} (hz : s.zone? z = some r) :
    ((s.putZone z r').configuration ≠ s.configuration) ↔ r'.stored ≠ r.stored := by
  apply not_congr
  constructor
  · intro h
    have := congrArg (fun c => slot? c.zones z) h
    have hv := State.zone?_valid hz
    simpa [State.configuration, hv, hz, State.zone?_putZone _ hz] using this
  · intro h
    have e : tableOf 16 (fun k => ((s.putZone z r').zone? k).map Zone.stored)
        = tableOf 16 (fun k => (s.zone? k).map Zone.stored) := by
      apply tableOf_congr
      intro k _ _
      by_cases hk : k = z
      · subst hk; rw [State.zone?_putZone _ hz, hz]; simp [h]
      · rw [State.zone?_putZone_ne _ _ hk]
    simp only [State.configuration, e]; rfl

theorem State.line?_of_validLine {s : State} {l : Nat} (h : validLine l = true) : ∃ r, s.line? l = some r :=
  State.line?_some s ((validLine_iff l).1 h).1 ((validLine_iff l).1 h).2

/-- The account record a checkpoint writes next is that of the next defined zone (R169). -/
theorem State.nextDefined_eq (s : State) (n z : Nat) (r : Zone) (hz : s.zone? z = some r) (h1 : n < z)
    (hk : ∀ k, n < k → k < z → s.zone? k = none) : s.nextDefined n = some (z, r) := by
  have hv := State.zone?_valid hz
  unfold State.nextDefined State.definedZones zoneNumbers
  have split : List.range' 1 16 = List.range' 1 (z - 1) ++ z :: List.range' (z + 1) (16 - z) := by
    have : List.range' 1 16 = List.range' 1 (z - 1) ++ List.range' (1 + (z - 1)) (16 - (z - 1)) := by
      rw [List.range'_append_1]; congr 1; omega
    rw [this]
    congr 1
    have e : 16 - (z - 1) = (16 - z) + 1 := by omega
    rw [e, List.range'_succ]
    congr 1
    · omega
    · congr 1; omega
  rw [split, List.filterMap_append, List.find?_append]
  have : List.find? (fun zr => decide (n < zr.1))
      (List.filterMap (fun z => Option.map (fun r => (z, r)) (s.zone? z)) (List.range' 1 (z - 1))) = none := by
    rw [List.find?_eq_none]
    rintro ⟨k, x⟩ hx
    simp only [List.mem_filterMap, Option.map_eq_some_iff, Prod.mk.injEq] at hx
    obtain ⟨k', hk', y, hy, rfl, rfl⟩ := hx
    simp [List.mem_range'] at hk'
    obtain ⟨i, hi, rfl⟩ := hk'
    intro hlt
    simp at hlt
    rw [hk _ hlt (by omega)] at hy
    cases hy
  rw [this]
  simp [hz, h1]

/-- No defined zone follows, where every zone of a greater number is UNSET. -/
theorem State.nextDefined_none (s : State) (n : Nat) (hk : ∀ k, n < k → s.zone? k = none) : s.nextDefined n = none := by
  unfold State.nextDefined State.definedZones
  rw [List.find?_eq_none]
  rintro ⟨k, x⟩ hx
  simp only [List.mem_filterMap, Option.map_eq_some_iff, Prod.mk.injEq] at hx
  obtain ⟨k', hk', y, hy, rfl, rfl⟩ := hx
  intro hlt
  simp at hlt
  rw [hk _ hlt] at hy
  cases hy

theorem State.continueCheckpoint_next {s : State} {z k written failed : Nat} {full : Bool} {r : Zone}
    (h : s.nextDefined z = some (k, r)) : s.continueCheckpoint z full written failed
      = { s with checkpoint := some ⟨full, .account k r.accountRecord, written, failed⟩ } := by
  simp [State.continueCheckpoint, State.beginAccountWrite, h]

theorem State.continueCheckpoint_end {s : State} {z written failed : Nat} {full : Bool} (h : s.nextDefined z = none) :
    s.continueCheckpoint z full written failed = s.completeCheckpoint full written failed := by
  simp [State.continueCheckpoint, State.beginAccountWrite, h]

/-- Outside a RESTART the end of a checkpoint is the STORE DONE notice. -/
theorem State.completeCheckpoint_plain {s : State} {written failed : Nat} {full : Bool} (h : s.restarting = none) :
    s.completeCheckpoint full written failed = { s with checkpoint := none }.offer (.storeDone written failed) .none := by
  have : ({ s with checkpoint := none }.offer (.storeDone written failed) .none).restarting = none := by
    rw [State.offer_frame]; exact h
  unfold State.completeCheckpoint
  simp only [this]

/-- What an offer does to the queue depends on the queue, the settings and the clock alone. -/
theorem State.offer_notices_congr {s u : State} (b : NoticeBody) (x : Subject) (h1 : u.report = s.report)
    (h2 : u.notices = s.notices) (h3 : u.clock = s.clock) : (u.offer b x).notices = (s.offer b x).notices := by
  have p : ∀ v : State, (v.pulseFor b.level).notices = v.notices ∧ (v.pulseFor b.level).report = v.report
      ∧ (v.pulseFor b.level).clock = v.clock := by
    intro v; unfold State.pulseFor; repeat' split
    all_goals exact ⟨rfl, rfl, rfl⟩
  obtain ⟨a1, a2, a3⟩ := p u
  obtain ⟨c1, c2, c3⟩ := p s
  unfold State.offer
  dsimp only
  rw [a2, c2, h1]
  split
  · rw [a1, c1, h2]
  · dsimp only; rw [a1, c1, h2, a3, c3, h3]

/-! ## Packets -/

theorem sum_append_checkByte (bs : List Byte) : (bs ++ [checkByte bs]).sum = 0 := by simp [checkByte, List.sum_append]

/-! ## Demands (R83, R84) -/

theorem mem_insertDemand (x d : Demand) (q : List Demand) : x ∈ insertDemand d q ↔ x = d ∨ x ∈ q := by
  induction q with
  | nil => simp [insertDemand]
  | cons a q ih => simp only [insertDemand]; split <;> simp [ih]; tauto

theorem mem_insertDemands (x : Demand) (ds q : List Demand) : x ∈ insertDemands ds q ↔ x ∈ ds ∨ x ∈ q := by
  unfold insertDemands
  induction ds with
  | nil => simp
  | cons a ds ih => simp [mem_insertDemand, ih]; tauto

theorem insertDemand_head (h : Demand) (q : List Demand) (d : Demand) (hd : d.precedes h = false) :
    ∃ q', insertDemand d (h :: q) = h :: q' := by
  simp only [insertDemand, hd]; exact ⟨_, rfl⟩

theorem insertDemands_head (h : Demand) (q ds : List Demand) (hd : ∀ d ∈ ds, d.precedes h = false) :
    ∃ q', insertDemands ds (h :: q) = h :: q' := by
  unfold insertDemands
  induction ds with
  | nil => exact ⟨q, rfl⟩
  | cons a ds ih =>
    obtain ⟨q', e⟩ := ih fun d hd' => hd d (by simp [hd'])
    rw [List.foldr_cons, e]
    exact insertDemand_head h q' a (hd a (by simp))

theorem level_le_topLevel (d : Demand) (q : List Demand) (h : d ∈ q) : d.level ≤ topLevel q := by
  unfold topLevel
  induction q with
  | nil => simp at h
  | cons a q ih =>
    simp only [List.foldr_cons]
    rcases List.mem_cons.1 h with rfl | h
    · omega
    · have := ih h; omega

/-! ## Placing commands (R94, R141) -/

theorem State.place_takes {s : State} {d : DeviceAddr} {v : Nat} {i : Issuer} {l : Line} (hl : s.line? d.line = some l)
    (ht : l.state.takesCommands = true) :
    s.place d v i = s.putLine d.line { l with queue := enqueueCommand ⟨d.address, v, i⟩ l.queue } := by
  simp [State.place, hl, ht]

theorem State.placeDuty_takes {s : State} {p : Nat} {r : Plant} {l : Line} (duty : Duty) (hr : s.plant? p = some r)
    (hl : s.line? r.controller.line = some l) (ht : l.state.takesCommands = true) :
    s.placeDuty p duty = (s.putPlant p { r with commanded := duty }).putLine r.controller.line
      { l with queue := enqueueCommand ⟨r.controller.address, duty.code, .arbiter p⟩ l.queue } := by
  unfold State.placeDuty
  rw [hr]
  simp only
  rw [State.place_takes (show (s.putPlant p _).line? r.controller.line = some l from hl) ht]

/-- A duty command is commanded, or has failed at once and faulted the plant (R94, R95). -/
theorem State.placeDuty_plant? {s : State} {p : Nat} {r : Plant} (duty : Duty) (hr : s.plant? p = some r) :
    (s.placeDuty p duty).plant? p = some { r with commanded := duty }
      ∨ (s.placeDuty p duty).plant? p
        = some { ({ r with commanded := duty } : Plant).returnService.stopTimers with state := .faulted } := by
  unfold State.placeDuty
  rw [hr]; simp only
  rcases State.place_cases (s.putPlant p { r with commanded := duty }) r.controller duty.code (.arbiter p) with
    ⟨l, h1, h2, h3⟩ | ⟨l, h1, h2, h3⟩ | ⟨h1, h3⟩ <;> rw [h3]
  · left; exact State.plant?_putPlant _ hr
  · unfold State.commandFailed
    split
    · simp only
      unfold State.plantFault
      rw [State.plant?_putPlant _ hr]
      simp only
      split
      · left; exact State.plant?_putPlant _ hr
      · right
        simp only [State.plant?, State.offer_plants, State.followAlarm_plants]
        simp only [State.putPlant_putPlant]
        exact State.plant?_putPlant _ hr
    · left; exact State.plant?_putPlant _ hr
  · left; exact State.plant?_putPlant _ hr

/-! ## Pulses (R72, R75) -/

theorem State.endPulse_keeps (s : State) (z : Nat) :
    (s.endPulse z).plants = s.plants ∧ (s.endPulse z).banks = s.banks ∧ (s.endPulse z).devices = s.devices := by
  unfold State.endPulse
  repeat' split
  · rename_i r _ _ pu _
    rcases State.place_cases (s.putZone z { r with climate := { r.climate with pulse := none } }) pu.device trimOff
      (.tracker z) with ⟨l, h1, h2, h3⟩ | ⟨l, h1, h2, h3⟩ | ⟨h1, h3⟩ <;> rw [h3]
    · simp
    · unfold State.commandFailed
      split
      · simp only [State.trimFault, State.modZone]; split <;> simp
      · simp
    · simp
  all_goals simp

theorem State.serviceBegins_foldl_keeps (q : List Demand) (s : State) :
    (q.foldl (fun s d => s.serviceBegins d.zone) s).plants = s.plants
      ∧ (q.foldl (fun s d => s.serviceBegins d.zone) s).banks = s.banks
      ∧ (q.foldl (fun s d => s.serviceBegins d.zone) s).devices = s.devices := by
  induction q generalizing s with
  | nil => simp
  | cons a q ih =>
    simp only [List.foldl_cons]
    have := ih (s.serviceBegins a.zone)
    have e := State.endPulse_keeps s a.zone
    unfold State.serviceBegins at this ⊢
    exact ⟨this.1.trans e.1, this.2.1.trans e.2.1, this.2.2.trans e.2.2⟩

/-! ## What climate tracking changes of the zones -/

/-- The zone differs at most in its trim pulse and whether its trim is available. -/
def TrimOnly (x x' : Zone) : Prop :=
  x' = { x with climate := { x.climate with
    pulse := x'.climate.pulse, trimUnavailable := x'.climate.trimUnavailable, offOwed := x'.climate.offOwed } }

/-- The zone differs at most in its marks, its trim and what it asks of its plant. -/
def OwnClimate (x x' : Zone) : Prop :=
  x' = { x with marks := x'.marks, climate := { x.climate with
    pulse := x'.climate.pulse, trimUnavailable := x'.climate.trimUnavailable, offOwed := x'.climate.offOwed,
    trimCount := x'.climate.trimCount, need := x'.climate.need, unresolved := x'.climate.unresolved,
    demand := x'.climate.demand } }

theorem TrimOnly.own {x y : Zone} (h : TrimOnly x y) : OwnClimate x y := by
  unfold TrimOnly at h; unfold OwnClimate; rw [h]

theorem TrimOnly.trans {x y w : Zone} (h : TrimOnly x y) (k : TrimOnly y w) : TrimOnly x w := by
  unfold TrimOnly at *; rw [k, h]

theorem OwnClimate.trans {x y w : Zone} (h : OwnClimate x y) (k : OwnClimate y w) : OwnClimate x w := by
  unfold OwnClimate at *; rw [k, h]

/-- What trim, demand and plant operations on behalf of zone `z` change of the zones: the banks and the devices stay. -/
structure ClimateOnly (z : Nat) (s t : State) : Prop where
  banks : t.banks = s.banks
  devices : t.devices = s.devices
  self : ∀ x, s.zone? z = some x → ∃ x', t.zone? z = some x' ∧ OwnClimate x x'
  other : ∀ k x, k ≠ z → s.zone? k = some x → ∃ x', t.zone? k = some x' ∧ TrimOnly x x'

theorem ClimateOnly.refl (z : Nat) (s : State) : ClimateOnly z s s :=
  ⟨rfl, rfl, fun x h => ⟨x, h, rfl⟩, fun _ x _ h => ⟨x, h, rfl⟩⟩

theorem ClimateOnly.trans {z : Nat} {s t u : State} (h : ClimateOnly z s t) (k : ClimateOnly z t u) :
    ClimateOnly z s u := by
  refine ⟨k.banks.trans h.banks, k.devices.trans h.devices, fun x hx => ?_, fun j x hj hx => ?_⟩
  · obtain ⟨y, h1, h2⟩ := h.self x hx
    obtain ⟨w, h3, h4⟩ := k.self y h1
    exact ⟨w, h3, h2.trans h4⟩
  · obtain ⟨y, h1, h2⟩ := h.other j x hj hx
    obtain ⟨w, h3, h4⟩ := k.other j y hj h1
    exact ⟨w, h3, h2.trans h4⟩

theorem ClimateOnly.same {z : Nat} {s t : State} (h1 : t.banks = s.banks) (h2 : t.devices = s.devices)
    (h3 : t.zones = s.zones) : ClimateOnly z s t :=
  ⟨h1, h2, fun x h => ⟨x, by unfold State.zone? at *; rw [h3]; exact h, rfl⟩,
    fun _ x _ h => ⟨x, by unfold State.zone? at *; rw [h3]; exact h, rfl⟩⟩

theorem ClimateOnly.put {z : Nat} {s : State} {k : Nat} {x y : Zone} (hx : s.zone? k = some x)
    (h : TrimOnly x y ∨ (k = z ∧ OwnClimate x y)) : ClimateOnly z s (s.putZone k y) := by
  refine ⟨rfl, rfl, fun w hw => ?_, fun j w hj hw => ?_⟩
  · by_cases e : z = k
    · subst e; rw [hx] at hw; cases hw
      exact ⟨y, State.zone?_putZone y hx, h.elim (·.own) (·.2)⟩
    · exact ⟨w, by rw [State.zone?_putZone_ne _ _ e]; exact hw, rfl⟩
  · by_cases e : j = k
    · subst e; rw [hx] at hw; cases hw
      exact ⟨y, State.zone?_putZone y hx, h.elim id (fun h => absurd h.1 hj)⟩
    · exact ⟨w, by rw [State.zone?_putZone_ne _ _ e]; exact hw, rfl⟩

theorem State.trimFault_climate (z : Nat) (s : State) (k : Nat) : ClimateOnly z s (s.trimFault k) := by
  unfold State.trimFault State.modZone
  split
  · rename_i r hr
    apply ClimateOnly.put hr
    left
    dsimp only
    split <;> rfl
  · exact .refl _ _

theorem State.offer_climate (z) (s : State) b q : ClimateOnly z s (s.offer b q) := .same (by simp) (by simp) (by simp)

theorem State.plantFault_climate (z : Nat) (s : State) (k : Nat) (r) : ClimateOnly z s (s.plantFault k r) := by
  unfold State.plantFault
  repeat' split
  · exact .refl _ _
  · exact .same (by simp) (by simp) (by simp)
  · exact .refl _ _

theorem State.place_climate (z : Nat) (s : State) (d v i) (h : (∃ k, i = .tracker k) ∨ ∃ p, i = .arbiter p) :
    ClimateOnly z s (s.place d v i) := by
  unfold State.place
  split
  · split
    · exact .same rfl rfl rfl
    · unfold State.commandFailed
      split
      · rcases h with ⟨k, rfl⟩ | ⟨k, rfl⟩
        · exact State.trimFault_climate _ _ _
        · exact State.plantFault_climate _ _ _ _
      · exact .refl _ _
  · exact .refl _ _

theorem State.endPulse_climate (z s k) : ClimateOnly z s (s.endPulse k) := by
  unfold State.endPulse
  split
  · rename_i r hr
    split
    · refine ClimateOnly.trans (ClimateOnly.put hr ?_) (State.place_climate _ _ _ _ _ (.inl ⟨_, rfl⟩)); exact .inl rfl
    · exact .refl _ _
  · exact .refl _ _

theorem State.putPlant_climate (z) (s : State) (p r) : ClimateOnly z s (s.putPlant p r) := .same rfl rfl rfl

theorem State.placeDuty_climate (z s p d) : ClimateOnly z s (s.placeDuty p d) := by
  unfold State.placeDuty
  split
  · exact (State.putPlant_climate _ _ _ _).trans (State.place_climate _ _ _ _ _ (.inr ⟨_, rfl⟩))
  · exact .refl _ _

theorem State.serviceBegins_foldl_climate (z) (q : List Demand) (s : State) :
    ClimateOnly z s (q.foldl (fun s d => s.serviceBegins d.zone) s) := by
  induction q generalizing s with
  | nil => exact .refl _ _
  | cons a q ih => exact (State.endPulse_climate _ _ _).trans (ih _)

theorem State.enterRunning_climate (z s p) : ClimateOnly z s (s.enterRunning p) := by
  unfold State.enterRunning
  split
  · refine ClimateOnly.trans ?_ (State.serviceBegins_foldl_climate _ _ _)
    refine ClimateOnly.trans ?_ (State.offer_climate _ _ _ _)
    split
    · exact State.putPlant_climate _ _ _ _
    · exact (State.putPlant_climate _ _ _ _).trans (State.placeDuty_climate _ _ _ _)
  · exact .refl _ _

theorem State.enterChangeover_climate (z s p) : ClimateOnly z s (s.enterChangeover p) := by
  unfold State.enterChangeover
  split
  · exact (State.putPlant_climate _ _ _ _).trans (State.placeDuty_climate _ _ _ _)
  · exact .refl _ _

theorem State.enterIdle_climate (z s p) : ClimateOnly z s (s.enterIdle p) := by
  unfold State.enterIdle
  split
  · dsimp only
    split
    · exact State.putPlant_climate _ _ _ _
    · exact (State.putPlant_climate _ _ _ _).trans (State.placeDuty_climate _ _ _ _)
  · exact .refl _ _

theorem State.select_climate (z s p) : ClimateOnly z s (s.select p) := by
  unfold State.select
  split
  · dsimp only
    split
    · exact (State.putPlant_climate _ _ _ _).trans (State.enterIdle_climate _ _ _)
    · split
      · exact (State.putPlant_climate _ _ _ _).trans (State.enterRunning_climate _ _ _)
      · exact (State.putPlant_climate _ _ _ _).trans (State.enterChangeover_climate _ _ _)
  · exact .refl _ _

theorem State.preemptTest_climate (z s p) : ClimateOnly z s (s.preemptTest p) := by
  unfold State.preemptTest
  split
  · split
    · exact (State.putPlant_climate _ _ _ _).trans (State.select_climate _ _ _)
    · exact .refl _ _
  · exact .refl _ _

theorem State.raise_climate (z s p k d l) : ClimateOnly z s (s.raise p k d l) := by
  unfold State.raise
  split
  · dsimp only
    split
    · exact (State.putPlant_climate _ _ _ _).trans (State.select_climate _ _ _)
    · split
      · exact (State.putPlant_climate _ _ _ _).trans (State.endPulse_climate _ _ _)
      · exact (State.putPlant_climate _ _ _ _).trans (State.preemptTest_climate _ _ _)
    all_goals exact State.putPlant_climate _ _ _ _
  · exact .refl _ _

theorem State.update_climate (z s p k l) : ClimateOnly z s (s.update p k l) := by
  unfold State.update
  split
  · exact (State.putPlant_climate _ _ _ _).trans (State.preemptTest_climate _ _ _)
  · exact .refl _ _

theorem State.withdraw_climate (z s p k) : ClimateOnly z s (s.withdraw p k) := by
  unfold State.withdraw
  split
  · dsimp only
    split
    · split
      · exact (State.putPlant_climate _ _ _ _).trans (State.select_climate _ _ _)
      · exact (State.putPlant_climate _ _ _ _).trans (State.preemptTest_climate _ _ _)
    · exact State.putPlant_climate _ _ _ _
  · exact .refl _ _

theorem State.setDemand_climate (z s d) : ClimateOnly z s (s.setDemand z d) := by
  unfold State.setDemand State.modZone
  split
  · rename_i r hr; exact .put hr (.inr ⟨rfl, rfl⟩)
  · exact .refl _ _

theorem State.settleDemand_climate (z s h w) : ClimateOnly z s (s.settleDemand z h w) := by
  unfold State.settleDemand State.raiseDemand State.withdrawDemand
  split
  · exact .refl _ _
  · exact (State.setDemand_climate _ _ _).trans (State.raise_climate _ _ _ _ _ _)
  · exact (State.setDemand_climate _ _ _).trans (State.withdraw_climate _ _ _ _)
  · split
    · split
      · exact .refl _ _
      · exact (State.setDemand_climate _ _ _).trans (State.update_climate _ _ _ _ _)
    · exact ((State.setDemand_climate _ _ _).trans (State.withdraw_climate _ _ _ _)).trans
        ((State.setDemand_climate _ _ _).trans (State.raise_climate _ _ _ _ _ _))

theorem State.decideDemand_climate (z s) : ClimateOnly z s (s.decideDemand z) := by
  unfold State.decideDemand
  split
  · rename_i r hr
    refine ClimateOnly.trans (ClimateOnly.put hr ?_) (State.settleDemand_climate _ _ _ _); exact .inr ⟨rfl, rfl⟩
  · exact .refl _ _

theorem State.evalMark_climate (z) (s : State) m h : ClimateOnly z s (s.evalMark z m h) := by
  unfold State.evalMark
  split
  · rename_i r hr
    split
    · refine ClimateOnly.trans (ClimateOnly.trans (ClimateOnly.put hr (y := { r with marks := r.marks ++ [m] })
        (.inr ⟨rfl, rfl⟩)) (.same (by simp) (by simp) (by simp))) (State.offer_climate _ _ _ _)
    · exact .refl _ _
  · exact .refl _ _

theorem State.climateMarks_climate (z) (s : State) : ClimateOnly z s (s.climateMarks z) := by
  unfold State.climateMarks
  split
  · exact (((State.evalMark_climate _ _ _ _).trans (State.evalMark_climate _ _ _ _)).trans
      (State.evalMark_climate _ _ _ _)).trans (State.evalMark_climate _ _ _ _)
  · exact .refl _ _

theorem State.endOpposedPulse_climate (z) (s : State) : ClimateOnly z s (s.endOpposedPulse z) := by
  unfold State.endOpposedPulse
  split
  · split
    · exact State.endPulse_climate _ _ _
    · exact .refl _ _
  · exact .refl _ _

theorem State.issuePulse_climate (z) (s : State) : ClimateOnly z s (s.issuePulse z) := by
  unfold State.issuePulse
  split
  · rename_i r hr
    split
    · split
      · refine ClimateOnly.trans (ClimateOnly.put hr ?_) (State.place_climate _ _ _ _ _ (.inl ⟨_, rfl⟩)); exact .inr ⟨rfl, rfl⟩
      · exact .refl _ _
    · exact .refl _ _
  · exact .refl _ _

end Sys2Proof.Machine
end

