-- ==== Sys2Proof/Laws/Intake.lean ====
section
/-! SUPPORT. What handling a request does to the host link, said once: an answer leaves the link as it is, the request leaves the
intake, its reply joins the reply queue, and requests that wait are handled oldest first (R161). -/

namespace Sys2Proof.Machine

/-- The answer leaves the link of the part it answers for as it is. -/
def Answer.keepsLink (s : State) : Answer → Prop
  | .refuse _ => True
  | .reply _ _ after => after.link = s.link

theorem withBody_keepsLink {α : Type} {r : Reader α} {body : List Byte} {f : α → State → Answer} {s : State}
    (h : ∀ a, (f a s).keepsLink s) : (withBody r body f s).keepsLink s := by
  unfold withBody
  split
  · exact h _
  · trivial

theorem onZone_keepsLink {z : Nat} {s : State} {work : Zone → Answer} (h : ∀ r, (work r).keepsLink s) :
    (onZone z s work).keepsLink s := by
  unfold onZone
  repeat' split
  all_goals first | exact h _ | trivial

theorem onLine_keepsLink {l : Nat} {s : State} {work : Line → Answer} (h : ∀ r, (work r).keepsLink s) :
    (onLine l s work).keepsLink s := by
  unfold onLine
  split
  · exact h _
  · trivial

theorem State.beginRestart_link (s : State) : s.beginRestart.link = s.link := by
  have h : BlocksOnly s (lineNumbers.foldl (fun s l => s.dropEnrolment l) s) :=
    BlocksOnly.foldl _ (fun s l => s.dropEnrolment_blocks l) _ _
  have := h.link
  unfold State.beginRestart
  dsimp only
  split <;> exact this

theorem State.completeCheckpoint_link (s : State) (full : Bool) (written failed : Nat) :
    (s.completeCheckpoint full written failed).link = s.link := by
  unfold State.completeCheckpoint
  dsimp only
  have h := ({ s with checkpoint := none }.offer_blocks (.storeDone written failed) .none).link
  generalize { s with checkpoint := none }.offer (.storeDone written failed) .none = u at h ⊢
  repeat' split
  all_goals exact h

theorem State.beginCheckpoint_link (s : State) : s.beginCheckpoint.link = s.link := by
  unfold State.beginCheckpoint
  split
  · rfl
  · split
    · rfl
    · unfold State.continueCheckpoint State.beginAccountWrite
      split
      · rename_i h
        split at h <;> cases h
        rfl
      · exact State.completeCheckpoint_link _ _ _ _

theorem State.setReport_link (s : State) (r : ReportSettings) : (s.setReport r).link = s.link := by
  unfold State.setReport
  dsimp only
  split
  · exact (State.followAlarm_blocks _).link
  · rfl
  · exact (State.followAlarm_blocks _).link
  · rfl

/-- No request's work touches the link. -/
theorem answerTo_keepsLink (f : Frame) (s : State) : (answerTo f s).keepsLink s := by
  unfold answerTo
  generalize f.kind.toNat = k
  rcases Nat.lt_or_ge k 32 with h | h
  swap
  · obtain ⟨n, rfl⟩ := Nat.exists_eq_add_of_le' h
    trivial
  interval_cases k
  all_goals first
    | exact withBody_keepsLink fun _ => rfl
    | (refine withBody_keepsLink fun a => onZone_keepsLink fun r => ?_; rfl)
    | (refine withBody_keepsLink fun a => onLine_keepsLink fun r => ?_; rfl)
    | skip
  all_goals first
    | trivial
    | refine withBody_keepsLink fun a => ?_
  · unfold answerTimeSet State.moveClock Answer.keepsLink
    dsimp only
    split <;> rfl
  · unfold answerZoneDefine
    repeat' split
    all_goals first | trivial | exact (State.defineZone_blocks _ _ _).link
  · refine onZone_keepsLink fun r => ?_
    repeat' split
    all_goals trivial
  · refine onZone_keepsLink fun r => ?_
    show (s.openZone a).link = s.link
    unfold State.openZone
    exact (State.modZone_blocks _ _ _).link
  · exact onZone_keepsLink fun r => (State.closeZone_blocks _ _).link
  · unfold answerZoneRead
    repeat' split
    all_goals trivial
  · refine onZone_keepsLink fun r => ?_
    dsimp only
    repeat' split
    all_goals first | trivial | exact (State.clearMarks_blocks _ _ _).link
  · refine onZone_keepsLink fun r => ?_
    split
    · rfl
    · trivial
  · refine onZone_keepsLink fun r => ?_
    exact (State.evalMark_blocks _ _ _ _).link
  · refine onZone_keepsLink fun r => ?_
    split
    · rfl
    · trivial
  · unfold answerBankDefine
    repeat' split
    all_goals first | trivial | exact (State.defineBank_blocks _ _ _ _).link
  · unfold answerBankRead
    repeat' split
    all_goals trivial
  · unfold answerPlantDefine
    repeat' split
    all_goals first | trivial | exact (State.definePlant_blocks _ _ _).link
  · unfold answerPlantHold
    repeat' split
    all_goals first | trivial | exact (State.holdPlant_blocks _ _ _).link
  · unfold answerPlantRelease
    repeat' split
    all_goals first | trivial | exact (State.select_blocks _ _).link
  · unfold answerPlantRead
    repeat' split
    all_goals trivial
  · refine onLine_keepsLink fun r => ?_
    split
    · trivial
    · rfl
  · refine onLine_keepsLink fun r => ?_
    repeat' split
    all_goals first | trivial | exact (State.beginEnrolment_blocks _ _).link
  · refine onLine_keepsLink fun r => ?_
    split
    · trivial
    · exact (State.enableLine_blocks _ _).link
  · unfold answerDeviceRead
    repeat' split
    all_goals trivial
  · unfold answerDeviceRetire
    repeat' split
    all_goals first | trivial | exact (State.retire_blocks _ _).link
  · unfold answerReportSet
    repeat' split
    all_goals first | trivial | exact State.setReport_link _ _
  · exact State.beginCheckpoint_link s
  · exact State.beginRestart_link s

/-! ## A request that is handled (R161) -/

/-- An idle output that takes up a reply or a notice leaves the receive assembly and the intake as they are. -/
theorem State.feedOutput_intake (s : State) : s.feedOutput.link.intake = s.link.intake ∧ s.feedOutput.link.rx = s.link.rx := by
  unfold State.feedOutput State.chooseFrame State.sendReply State.sendNotice State.sendFrame
  repeat' split
  all_goals exact ⟨rfl, rfl⟩

/-- A request that is handled leaves the intake, and the receive assembly as it is. -/
theorem State.handled_intake (s : State) (f : Frame) :
    (s.handled f).link.intake = s.link.intake.tail ∧ (s.handled f).link.rx = s.link.rx := by
  have h := answerTo_keepsLink f s
  unfold State.handled
  rw [(State.feedOutput_intake _).1, (State.feedOutput_intake _).2]
  unfold State.answer
  split
  · exact ⟨rfl, rfl⟩
  · rename_i status content after ha
    rw [ha] at h
    have h : after.link = s.link := h
    simp [State.leaveIntake, State.queueReply, h]

/-- What becomes of the oldest of the requests that wait, where it may be taken up: it is handled and then the rest of them are
served, or it goes on waiting with them (R161). -/
theorem State.serve_cons {s : State} {f : Frame} {rest : List Frame} (now : Nat → Bool) (h : s.link.intake = f :: rest)
    (hm : s.mayTakeUp = true) : s.serve now s.link.intake.length =
      if now s.freeIx then (s.useFree.handled f).serve now (s.useFree.handled f).link.intake.length else s.useFree := by
  have := (s.useFree.handled_intake f).1
  rw [State.useFree_link, h, List.tail_cons] at this
  rw [h, this, List.length_cons, State.serve, h]
  simp only [hm, if_true]

theorem State.serveIntake_cons {s : State} {f : Frame} {rest : List Frame} (h : s.link.intake = f :: rest)
    (hm : s.mayTakeUp = true) : s.serveIntake = (s.useFree.handled f).serveIntake := State.serve_cons (fun _ => true) h hm

theorem State.serveSome_cons {s : State} {f : Frame} {rest : List Frame} (h : s.link.intake = f :: rest)
    (hm : s.mayTakeUp = true) : s.serveSome =
      if Config.takenUpNow s.freeIx then (s.useFree.handled f).serveSome else s.useFree := State.serve_cons _ h hm

end Sys2Proof.Machine
end

