-- ==== Sys2Proof/Laws/Marks.lean ====
section
/-! SUPPORT. What evaluating marks comes to, said once for one mark and for several: which marks are added, which MARK SET notices
are offered, and what the alarm line does (R15, R155, R156). -/

namespace Sys2Proof.Machine

/-- The alarm condition reads the alarm level, the marks of the zones and the states of lines and plants alone (R155). -/
theorem State.alarmCondition_congr {s t : State} (h1 : t.report = s.report)
    (h2 : ∀ l, (t.line? l).map (·.state) = (s.line? l).map (·.state))
    (h3 : ∀ p, (t.plant? p).map (·.state) = (s.plant? p).map (·.state))
    (h4 : ∀ k, (t.zone? k).map (·.marks) = (s.zone? k).map (·.marks)) : t.alarmCondition = s.alarmCondition := by
  have hz : t.markAlarm = s.markAlarm := by
    unfold State.markAlarm State.definedZones
    rw [h1]
    generalize zoneNumbers = l
    induction l with
    | nil => rfl
    | cons k l ih =>
      have := h4 k
      rcases ht : t.zone? k with _ | a <;> rcases hs : s.zone? k with _ | b <;> rw [ht, hs] at this <;>
        simp at this <;> simp [ht, hs, ih]
      rw [this]
  have hl : t.lineAlarm = s.lineAlarm := by
    unfold State.lineAlarm
    congr 1
    funext l
    have := h2 l
    rcases ht : t.line? l with _ | a <;> rcases hs : s.line? l with _ | b <;> rw [ht, hs] at this <;>
      simp_all
  have hp : t.plantAlarm = s.plantAlarm := by
    unfold State.plantAlarm
    congr 1
    funext p
    have := h3 p
    rcases ht : t.plant? p with _ | a <;> rcases hs : s.plant? p with _ | b <;> rw [ht, hs] at this <;>
      simp_all
  unfold State.alarmCondition
  rw [hz, hl, hp, h1]

/-- The queue after an offer (R151). -/
theorem State.offer_notices (s : State) (b : NoticeBody) (x : Subject) :
    (s.offer b x).notices = if b.level < s.report.floor then s.notices else enqueue ⟨b, x, s.clock⟩ s.notices := by
  unfold State.offer State.pulseFor
  rcases s.report.mode with _ | _
  · dsimp only
    split <;> rfl
  · dsimp only
    split
    · dsimp only
      split <;> rfl
    · split <;> rfl

/-- An offer in LEVEL mode leaves the alarm line alone (R155). -/
theorem State.offer_level {s : State} (b : NoticeBody) (x : Subject) (h : s.report.mode = .level) :
    (s.offer b x).alarm = s.alarm ∧ (s.offer b x).pulsing = s.pulsing := by
  unfold State.offer State.pulseFor
  rw [h]
  dsimp only
  split <;> exact ⟨rfl, rfl⟩

/-- An offer in PULSE mode asserts the alarm line for a notice at or above the alarm level (R156). -/
theorem State.offer_pulse {s : State} (b : NoticeBody) (x : Subject) (h : s.report.mode = .pulse) :
    (s.offer b x).alarm = (s.alarm || decide (s.report.alarmLevel ≤ b.level))
      ∧ (s.offer b x).pulsing = (s.pulsing || decide (s.report.alarmLevel ≤ b.level)) := by
  unfold State.offer State.pulseFor
  rw [h]
  dsimp only
  by_cases hl : s.report.alarmLevel ≤ b.level
  · simp only [hl, if_true, decide_true, Bool.or_true]
    split <;> exact ⟨rfl, rfl⟩
  · simp only [hl, if_false, decide_false, Bool.or_false]
    split <;> exact ⟨rfl, rfl⟩

/-- Nothing newly set: no notice, and the alarm line as it was. -/
theorem MarkSetsOffered.nil {s t : State} (z : Nat) (h1 : t.notices = s.notices) (h2 : t.alarm = s.alarm)
    (h3 : t.pulsing = s.pulsing) : MarkSetsOffered s t z [] := by
  refine ⟨by simpa [State.afterOffers] using h1, fun _ => ⟨h3, by simpa using h2⟩, fun _ => ?_⟩
  simp [h2, h3]

/-- Two evaluations, one after the other. -/
theorem MarkSetsOffered.trans {s t u : State} {z : Nat} {a b : List Mark} (h : MarkSetsOffered s t z a)
    (k : MarkSetsOffered t u z b) (h1 : t.report = s.report) (h2 : t.clock = s.clock)
    (h3 : b = [] → u.alarmCondition = t.alarmCondition) : MarkSetsOffered s u z (a ++ b) := by
  obtain ⟨hn, hl, hp⟩ := h
  obtain ⟨kn, kl, kp⟩ := k
  rw [h1] at kl kp
  refine ⟨?_, fun hm => ?_, fun hm => ?_⟩
  · rw [kn, State.afterOffers, h1, h2, hn, State.afterOffers, State.afterOffers, List.map_append, List.foldl_append]
  · obtain ⟨p1, a1⟩ := hl hm
    obtain ⟨p2, a2⟩ := kl hm
    refine ⟨p2.trans p1, ?_⟩
    rw [a2]
    by_cases hb : b = []
    · rw [if_pos hb, a1, hb, List.append_nil, h3 hb]
    · rw [if_neg hb, if_neg (by simp [hb])]
  · obtain ⟨a1, p1⟩ := hp hm
    obtain ⟨a2, p2⟩ := kp hm
    rw [a2, a1, p2, p1, List.any_append]
    simp [Bool.or_assoc]

/-- The evaluation of one mark (R15). -/
theorem State.evalMark_offered {s : State} {z : Nat} {r : Zone} (m : Mark) (holds : Bool) (hr : s.zone? z = some r) :
    MarkSetsOffered s (s.evalMark z m holds) z (newMarks r.marks [(m, holds)]) := by
  by_cases h : (holds && !r.marks.contains m) = true
  · have hnew : newMarks r.marks [(m, holds)] = [m] := by
      unfold newMarks
      rw [List.filter_cons_of_pos (by simpa using h)]
      rfl
    have hev : s.evalMark z m holds
        = ((s.putZone z { r with marks := r.marks ++ [m] }).followAlarm).offer (.markSet m) (.zone z) := by
      unfold State.evalMark
      rw [hr]
      simp only [h, if_true]
    rw [hnew, hev]
    have hlev : (NoticeBody.markSet m).level = m.level := rfl
    generalize hu : (s.putZone z { r with marks := r.marks ++ [m] }).followAlarm = u
    have u1 : u.notices = s.notices := by rw [← hu]; simp
    have u2 : u.report = s.report := by rw [← hu]; simp
    have u3 : u.clock = s.clock := by rw [← hu]; simp
    have u4 : u.pulsing = s.pulsing := by rw [← hu]; simp
    have u5 : s.report.mode = .pulse → u.alarm = s.alarm := fun h => by
      rw [← hu, State.followAlarm_pulse (by simpa using h)]
      rfl
    have u6 : s.report.mode = .level → u.alarm = u.alarmCondition := fun h => by
      rw [← hu, State.followAlarm_level (by simpa using h)]
      rfl
    refine ⟨?_, fun hm => ⟨?_, ?_⟩, fun hm => ?_⟩
    · rw [State.offer_notices, u1, u2, u3]
      rfl
    · rw [(State.offer_level _ _ (by rw [u2]; exact hm)).2, u4]
    · rw [(State.offer_level _ _ (by rw [u2]; exact hm)).1, if_neg (by simp), u6 hm]
      exact (State.alarmCondition_congr (by simp) (fun _ => by simp [State.line?]) (fun _ => by simp [State.plant?])
        fun k => by simp [State.zone?]).symm
    · rw [(State.offer_pulse _ _ (by rw [u2]; exact hm)).1, (State.offer_pulse _ _ (by rw [u2]; exact hm)).2, u2, u4, u5 hm,
        hlev]
      simp
  · have hnew : newMarks r.marks [(m, holds)] = [] := by
      unfold newMarks
      rw [List.filter_cons_of_neg (by simpa using h)]
      rfl
    have hev : s.evalMark z m holds = s := by
      unfold State.evalMark
      rw [hr]
      simp only [h]
      rfl
    rw [hnew, hev]
    exact .nil z rfl rfl rfl

/-- Marks evaluated one after another, of which no two are the same: those whose condition holds are added, with their MARK SET
notices, and nothing else changes but the alarm line (R15). -/
theorem State.evalMarks_spec (z : Nat) (cs : List (Mark × Bool)) (hnd : (cs.map (·.1)).Nodup) :
    ∀ {s : State} {r : Zone}, s.zone? z = some r →
      ∀ t, t = cs.foldl (fun s c => s.evalMark z c.1 c.2) s →
      t.zone? z = some { r with marks := r.marks ++ newMarks r.marks cs }
      ∧ MarkSetsOffered s t z (newMarks r.marks cs) ∧ (∀ k, k ≠ z → t.zone? k = s.zone? k)
      ∧ t = { s with zones := t.zones, notices := t.notices, alarm := t.alarm, pulsing := t.pulsing } := by
  induction cs with
  | nil =>
    intro s r hr t ht
    subst ht
    exact ⟨by simpa [newMarks] using hr, .nil z rfl rfl rfl, fun _ _ => rfl, rfl⟩
  | cons c cs ih =>
    intro s r hr t ht
    obtain ⟨m, b⟩ := c
    rw [List.map_cons, List.nodup_cons] at hnd
    have o := State.evalMark_offered m b hr
    have e1 := State.evalMark_zone? m b hr
    have one : (if b = true ∧ m ∉ r.marks then r.marks ++ [m] else r.marks) = r.marks ++ newMarks r.marks [(m, b)] := by
      unfold newMarks
      by_cases h : b = true ∧ m ∉ r.marks
      · rw [if_pos h, List.filter_cons_of_pos (by simp [h])]
        rfl
      · rw [if_neg h, List.filter_cons_of_neg (by simp at h ⊢; exact h)]
        simp
    rw [one] at e1
    have hrest : newMarks (r.marks ++ newMarks r.marks [(m, b)]) cs = newMarks r.marks cs := by
      unfold newMarks
      congr 1
      apply List.filter_congr
      intro x hx
      have hne : x.1 ≠ m := fun h => hnd.1 (List.mem_map.2 ⟨x, hx, h⟩)
      by_cases h : (b && !r.marks.contains m) = true
      · rw [List.filter_cons_of_pos (by simpa using h)]
        simp [hne]
      · rw [List.filter_cons_of_neg (by simpa using h)]
        simp
    have hsplit : newMarks r.marks ((m, b) :: cs) = newMarks r.marks [(m, b)] ++ newMarks r.marks cs := by
      unfold newMarks
      rw [← List.map_append, ← List.filter_append]
      rfl
    obtain ⟨k1, k2, k3, k4⟩ := ih hnd.2 e1 t ht
    rw [hrest] at k1 k2
    have fr := State.evalMark_frame s z m b
    refine ⟨?_, ?_, ?_, ?_⟩
    · rw [k1, hsplit, List.append_assoc]
    · rw [hsplit]
      refine o.trans k2 (by rw [fr]) (by rw [fr]) fun hb => ?_
      refine State.alarmCondition_congr (by rw [k4]) (fun l => by rw [State.line?, k4]; rfl)
        (fun p => by rw [State.plant?, k4]; rfl) fun k => ?_
      by_cases hk : k = z
      · subst hk
        rw [k1, e1]
        simp [hb]
      · rw [k3 k hk]
    · intro k hk
      rw [k3 k hk, State.evalMark_zone?_ne _ _ _ hk]
    · rw [k4, fr]

/-- A state that changes neither marks nor the states of lines and plants after some marks have been evaluated. -/
theorem MarkSetsOffered.keep {s t u : State} {z : Nat} {a : List Mark} (h : MarkSetsOffered s t z a)
    (h1 : u.notices = t.notices) (h2 : u.alarm = t.alarm) (h3 : u.pulsing = t.pulsing)
    (h4 : u.alarmCondition = t.alarmCondition) : MarkSetsOffered s u z a := by
  obtain ⟨hn, hl, hp⟩ := h
  exact ⟨h1.trans hn, fun hm => ⟨h3.trans (hl hm).1, by rw [h2, (hl hm).2, h4]⟩,
    fun hm => ⟨h2.trans (hp hm).1, h3.trans (hp hm).2⟩⟩

end Sys2Proof.Machine
end

