-- ==== Sys2Proof/Laws/Outcomes.lean ====
section
/-! SUPPORT. What the outcome of a command or of a transaction comes to for the block that owns the device or issued the command,
said once for each: faults, recovery, and the acknowledgement of a duty (R48, R55, R56, R74, R94 to R96, R124, R142). -/

namespace Sys2Proof.Machine

/-- A zone whose record is put back as it was. -/
theorem State.putZone_self {s : State} {z : Nat} {r : Zone} (h : s.zone? z = some r) : s.putZone z r = s := by
  unfold State.zone? at h
  unfold State.putZone
  rw [slotSet_same]
  cases hs : slot? s.zones z with
  | none => rw [hs] at h; cases h
  | some o => rw [hs] at h; exact congrArg some h

/-- R74. -/
theorem State.trimFault_spec (s : State) (z : Nat) : TrimFaults s (s.trimFault z) z := by
  intro y hy
  unfold State.trimFault
  rw [State.modZone_some _ hy]
  refine ⟨fun h => ?_, fun h => ?_⟩
  · rw [if_pos h]
    exact State.putZone_self hy
  · rw [if_neg (by simp [h])]

/-- R95. -/
theorem State.plantFault_spec (s : State) (p : Nat) (reason : PlantFaultReason) :
    PlantFaults s (s.plantFault p reason) p reason := by
  intro y hy
  unfold State.plantFault
  rw [hy]
  dsimp only
  refine ⟨fun h => by rw [if_pos (by simpa using h)], fun h => ?_⟩
  rw [if_neg (by simpa using h)]
  generalize hr : ({ y.returnService.stopTimers with state := .faulted } : Plant) = r
  generalize hu : (s.putPlant p r).followAlarm = u
  have hp : u.plant? p = some r := by
    have := State.plant?_putPlant r hy
    rw [← hu]
    unfold State.plant? at this ⊢
    rw [State.followAlarm_plants]
    exact this
  have f : u = { s with plants := u.plants, alarm := u.alarm } := by
    rw [← hu, State.followAlarm_frame]
    rfl
  have o := u.offer_frame (.plantFault reason y.target) (.plant p)
  have lv : (NoticeBody.plantFault reason y.target).level = 6 := rfl
  refine ⟨r, ?_, ?_, ?_, ?_, ?_, ?_, ?_, ?_⟩
  · unfold State.plant? at hp ⊢
    rw [State.offer_plants]
    exact hp
  · rw [← hr]
    rfl
  · intro x
    rw [← hr]
    exact mem_insertDemands x _ _
  · intro k hk
    have := State.plant?_putPlant_ne s r hk
    unfold State.plant? at this ⊢
    rw [State.offer_plants, ← hu, State.followAlarm_plants]
    exact this
  · rw [State.offer_notices]
    have h1 : u.report = s.report := by rw [f]
    have h2 : u.notices = s.notices := by rw [f]
    have h3 : u.clock = s.clock := by rw [f]
    rw [h1, h2, h3]
    rfl
  · intro hm
    have hm' : u.report.mode = .level := by rw [f]; exact hm
    have ho := State.offer_level (s := u) (.plantFault reason y.target) (.plant p) hm'
    refine ⟨?_, by rw [ho.2, f]⟩
    rw [ho.1, ← hu, State.followAlarm_level (by simpa using hm)]
    refine (State.alarmCondition_congr ?_ ?_ ?_ ?_).symm
    · simp
    · intro l
      simp [State.line?]
    · intro q
      simp [State.plant?]
    · intro k
      simp [State.zone?]
  · intro hm
    have hm' : u.report.mode = .pulse := by rw [f]; exact hm
    have ho := State.offer_pulse (s := u) (.plantFault reason y.target) (.plant p) hm'
    have ha : u.alarm = s.alarm := by
      rw [← hu, State.followAlarm_pulse (by simpa using hm)]
      rfl
    have hr : u.report = s.report := by rw [f]
    have hq : u.pulsing = s.pulsing := by rw [f]
    rw [ho.1, ho.2, lv, ha, hr, hq]
    exact ⟨rfl, rfl⟩
  · rw [o, f]

/-- R142: the failure of a command. -/
theorem State.commandFailed_spec (s : State) (i : Issuer) (d : DeviceAddr) : IssuerFails s (s.commandFailed i d) i d := by
  unfold State.commandFailed
  refine ⟨fun h => by rw [if_neg (by simp [h])], fun h => ?_⟩
  rw [if_pos h]
  cases i with
  | governor z =>
    intro y hy
    exact State.modZone_some _ hy
  | bank b =>
    intro y hy
    exact State.modBank_some _ hy
  | tracker z => exact s.trimFault_spec z
  | arbiter p => exact s.plantFault_spec p .commandFailed

/-- Service begins reaches the zones of some demands in their order. -/
theorem State.serviceBegins_foldl_map (q : List Demand) (s : State) :
    q.foldl (fun s d => s.serviceBegins d.zone) s = (q.map (·.zone)).foldl State.serviceBegins s := by
  induction q generalizing s with
  | nil => rfl
  | cons d q ih => exact ih _

/-- R94: a duty command is commanded, and placed. -/
theorem State.placeDuty_put {s : State} {p : Nat} {y : Plant} (r : Plant) (duty : Duty) (hy : s.plant? p = some y) :
    (s.putPlant p r).placeDuty p duty
      = (s.putPlant p { r with commanded := duty }).place r.controller duty.code (.arbiter p) := by
  unfold State.placeDuty
  rw [State.plant?_putPlant _ hy]
  dsimp only
  rw [State.putPlant_putPlant]

/-- R86. -/
theorem State.enterRunning_spec (s : State) (p : Nat) : RunningEntered s (s.enterRunning p) p := by
  intro y hy
  unfold State.enterRunning
  rw [hy]
  refine ⟨_, if y.commanded = y.target then _ else _, rfl, fun h => if_pos h, fun h => if_neg h, ?_⟩
  dsimp only
  rw [State.serviceBegins_foldl_map]
  congr 2
  by_cases h : y.commanded = y.target
  · simp [h, Config.minimumRun]
  · simp [h, State.placeDuty_put _ _ hy, Config.minimumRun]

/-- R85, with the entry of IDLE and of CHANGEOVER. -/
theorem State.select_spec (s : State) (p : Nat) : Selects s (s.select p) p := by
  intro y hy
  unfold State.select
  rw [hy]
  refine ⟨fun u hw hu => ?_, fun h rest u hw hu => ?_⟩
  · have e : y.stopTimers.waiting = [] := hw
    simp only [e]
    unfold State.enterIdle
    rw [State.plant?_putPlant _ hy]
    dsimp only
    simp only [State.putPlant_putPlant, State.placeDuty_put _ _ hy, hu]
    refine ⟨fun h1 h2 => ?_, fun h => ?_⟩
    · simp [Plant.stopTimers, h1, h2]
    · rw [if_neg]
      · rfl
      · rcases h with h | h <;> simp [Plant.stopTimers, h]
  · have e : y.stopTimers.waiting = h :: rest := hw
    simp only [e]
    have hput : ({ y.stopTimers with
        service := (h :: rest).filter fun d => d.duty == h.duty
        waiting := (h :: rest).filter fun d => d.duty != h.duty, target := h.duty
        serviceLevel := topLevel ((h :: rest).filter fun d => d.duty == h.duty) } : Plant) = u := by
      rw [hu, hu, hw]
      simp only [Plant.stopTimers, bne, beq_eq_decide]
      congr 1
      refine List.filter_congr fun d _ => ?_
      by_cases hd : d.duty = h.duty <;> simp [hd]
    rw [hput]
    refine ⟨fun hp => ?_, fun hp => ?_⟩
    · have : (y.stopTimers.physical == h.duty) = true := by simpa [Plant.stopTimers] using hp
      rw [if_pos this]
      exact State.enterRunning_spec _ _
    · have : ¬ (y.stopTimers.physical == h.duty) = true := by simpa [Plant.stopTimers] using hp
      rw [if_neg this]
      unfold State.enterChangeover
      rw [State.plant?_putPlant _ hy]
      dsimp only
      rw [State.putPlant_putPlant, State.placeDuty_put _ _ hy, hu]
      rfl

/-- R124: the owner of a device that has entered FAULTED. -/
theorem State.ownerFault_spec (s : State) (o : Option Owner) : OwnerFaults s (s.ownerFault o) o := by
  cases o with
  | none => rfl
  | some o =>
    cases o with
    | zoneDimmer z => rfl
    | zoneTrim z => exact s.trimFault_spec z
    | bank b =>
      intro y hy
      exact State.modBank_some _ hy
    | plant p => exact s.plantFault_spec p .deviceFaulted

/-- R124: the owner of a device that has answered. -/
theorem State.ownerSuccess_spec (s : State) (v : Option Nat) (o : Option Owner) :
    OwnerSucceeds s (s.ownerSuccess v o) v o := by
  cases o with
  | none => rfl
  | some o =>
    cases o with
    | zoneDimmer z => rfl
    | zoneTrim z =>
      intro y u hy hu
      show (_ → s.trimAvailable z = _) ∧ (_ → _ → s.trimAvailable z = _) ∧ _
      unfold State.trimAvailable
      rw [hy]
      refine ⟨fun h => by simp [h], fun h h2 => by simp [h, h2, hu], fun d h h2 h3 => ?_⟩
      show s.trimAvailable z = _
      unfold State.trimAvailable
      rw [hy]
      simp [h, h2, h3, hu, trimOff]
    | bank b =>
      intro y l u hy hl hu
      show (_ → s.bankRecover b = _) ∧ (_ → (_ → s.bankRecover b = _) ∧ (_ → _ → s.bankRecover b = _))
      unfold State.bankRecover
      rw [hy]
      have hq : (s.putBank b { y with state := .active }).line? y.louvre.line = some l := hl
      refine ⟨fun h => by simp [h], fun h => ⟨fun hc => ?_, fun h1 h2 => ?_⟩⟩
      · have : l.hasCommandFor y.louvre.address = true := by
          unfold Line.hasCommandFor
          rcases hc with ⟨c, h1, h2⟩ | ⟨x, v, i, h1, h2, h3⟩
          · simp only [Bool.or_eq_true]
            left
            exact List.any_eq_true.2 ⟨c, h1, by simpa using h2⟩
          · simp [h1, Transaction.isSetTo, h2, h3]
        simp [h, hq, this, hu]
      · have : l.hasCommandFor y.louvre.address = false := by
          unfold Line.hasCommandFor
          rw [Bool.or_eq_false_iff]
          refine ⟨?_, ?_⟩
          · rw [List.any_eq_false]
            intro c hc
            simpa using h1 c hc
          · cases hf : l.inFlight with
            | none => rfl
            | some x =>
              simp only [Option.any_some, Transaction.isSetTo]
              split
              · rename_i v i ha
                simpa using h2 x v i hf ha
              · rfl
              · rfl
        simp only [h, hq, hu, State.placeClosure, State.bank?_putBank _ hy]
        simp [this]
    | plant p =>
      intro y hy
      show (_ → s.plantRecover p v = _) ∧ ∀ _, _ → _ → Selects _ (s.plantRecover p v) _
      unfold State.plantRecover
      rw [hy]
      refine ⟨fun h => by simp [h], fun duty h h2 => ?_⟩
      have : Duty.ofCode? duty.code = some duty := by cases duty <;> rfl
      simp [h, h2, this, State.select_spec]

/-- R94: a duty command has succeeded. -/
theorem State.dutySucceeded_spec (s : State) (p : Nat) (duty : Duty) : DutyTaken s (s.dutySucceeded p duty.code) p duty := by
  intro y hy
  have : Duty.ofCode? duty.code = some duty := by cases duty <;> rfl
  unfold State.dutySucceeded
  rw [hy, this]
  dsimp only
  unfold State.completeChangeover
  have hp := fun r => State.plant?_putPlant r hy
  have beq (a b : Duty) (h : a ≠ b) : (a == b) = false := by simpa using h
  have beq' (h : y.state ≠ .changeover) : (y.state == .changeover) = false := by simpa using h
  refine ⟨fun h => ?_, fun h h2 h3 => ?_, fun h h2 h3 => ⟨fun h4 => ?_, fun h4 => ?_⟩⟩
  · rcases h with h | ⟨h, h2⟩
    · simp [hp, beq' h]
    · simp [hp, beq _ _ h, h2]
  · simp [hp, h, h2, h3]
  · simp [hp, h, h2, h3, h4, Plant.stopTimers, State.putPlant_putPlant, State.enterRunning_spec]
  · simp [hp, h, h2, h3, h4, Plant.stopTimers, State.putPlant_putPlant, State.select_spec]

end Sys2Proof.Machine
end

