-- ==== Sys2Proof/WellFormed.lean ====
section
/-! DEFINITION. What a well-formed command is: the numbers it carries name records that exist, a request has a body that a
frame can carry, and a reply packet is complete or not as its command says. A command that is not well formed still has a
meaning (log entry 26). -/

namespace Sys2Proof

/-- The body of the frame a command carries, for the commands that come in a frame. -/
def Instr.body? : Instr → Option (List Byte)
  | .identify _ body => some body
  | .timeSet _ body => some body
  | .timeRead _ body => some body
  | .zoneDefine _ body => some body
  | .zoneBind _ body => some body
  | .zoneOpen _ body => some body
  | .zoneClose _ body => some body
  | .zoneRead _ body => some body
  | .marksClear _ body => some body
  | .seasonBegin _ body => some body
  | .seasonEnd _ body => some body
  | .accountRead _ body => some body
  | .accountAdjust _ body => some body
  | .climateBand _ body => some body
  | .historyRead _ body => some body
  | .occupancy _ body => some body
  | .bankDefine _ body => some body
  | .bankRead _ body => some body
  | .plantDefine _ body => some body
  | .plantHold _ body => some body
  | .plantRelease _ body => some body
  | .plantRead _ body => some body
  | .lineSet _ body => some body
  | .lineEnrol _ body => some body
  | .lineEnable _ body => some body
  | .lineRead _ body => some body
  | .deviceRead _ body => some body
  | .deviceRetire _ body => some body
  | .reportSet _ body => some body
  | .checkpointNow _ body => some body
  | .restart _ body => some body
  | .unknownRequestKind _ _ body => some body
  | .frameReceived _ _ body => some body
  | .frameGapExpiry => none
  | .outputFrameSent _ => none
  | .clockTick => none
  | .hourRollover _ => none
  | .lightSample _ => none
  | .lightReview _ => none
  | .climateReview _ => none
  | .pulseEndExpiry _ => none
  | .bankStep _ => none
  | .minimumRunExpiry _ => none
  | .changeoverTimerExpiry _ => none
  | .roundTimerExpiry _ => none
  | .transactionTakeUp _ => none
  | .attemptRetry _ => none
  | .enrolProbeSend _ => none
  | .replyComplete _ _ => none
  | .replyTimeout _ _ => none
  | .hangDetected _ => none
  | .releaseEnd _ => none
  | .recoveryWaitExpiry _ => none
  | .alarmPulseEnd => none
  | .checkpointTimerExpiry => none
  | .recordWriteEnd _ _ => none
  | .powerOn _ => none
  | .powerFail => none
  | .resetInputAssert => none
  | .resetInputRelease _ => none
  | .uartByteReceived _ _ => none

/-- A frame's length byte, tag and kind and body together, is at most 250 (R159, R160). -/
def bodyFits (body : List Byte) : Bool := body.length ≤ 248

/-- Zones are numbered 1..16, banks 1..8, plants and lines 1..2 (00_scope). -/
def zoneNumber (z : Nat) : Bool := 1 ≤ z && z ≤ 16
def bankNumber (b : Nat) : Bool := 1 ≤ b && b ≤ 8
def plantNumber (p : Nat) : Bool := 1 ≤ p && p ≤ 2
def lineNumber (l : Nat) : Bool := 1 ≤ l && l ≤ 2

/-- The bytes hold a complete packet: address, kind, payload length, that many bytes of payload, check (R133, R134). -/
def packetComplete (bytes : List FieldByte) : Bool := bytes[2]?.any fun len => len.data.toNat + 4 ≤ bytes.length

/-- The catalogue of requests has the kinds 01 to 1F hex (R165). -/
def catalogueKind (kind : Byte) : Bool := 1 ≤ kind.toNat && kind.toNat ≤ 0x1F

/-- The checks of a command. -/
def Instr.wellFormed : Instr → Bool
  | .identify _ body => bodyFits body
  | .timeSet _ body => bodyFits body
  | .timeRead _ body => bodyFits body
  | .zoneDefine _ body => bodyFits body
  | .zoneBind _ body => bodyFits body
  | .zoneOpen _ body => bodyFits body
  | .zoneClose _ body => bodyFits body
  | .zoneRead _ body => bodyFits body
  | .marksClear _ body => bodyFits body
  | .seasonBegin _ body => bodyFits body
  | .seasonEnd _ body => bodyFits body
  | .accountRead _ body => bodyFits body
  | .accountAdjust _ body => bodyFits body
  | .climateBand _ body => bodyFits body
  | .historyRead _ body => bodyFits body
  | .occupancy _ body => bodyFits body
  | .bankDefine _ body => bodyFits body
  | .bankRead _ body => bodyFits body
  | .plantDefine _ body => bodyFits body
  | .plantHold _ body => bodyFits body
  | .plantRelease _ body => bodyFits body
  | .plantRead _ body => bodyFits body
  | .lineSet _ body => bodyFits body
  | .lineEnrol _ body => bodyFits body
  | .lineEnable _ body => bodyFits body
  | .lineRead _ body => bodyFits body
  | .deviceRead _ body => bodyFits body
  | .deviceRetire _ body => bodyFits body
  | .reportSet _ body => bodyFits body
  | .checkpointNow _ body => bodyFits body
  | .restart _ body => bodyFits body
  | .unknownRequestKind kind _ body => !catalogueKind kind && bodyFits body
  | .frameReceived _ _ body => bodyFits body
  | .frameGapExpiry => true
  | .outputFrameSent _ => true
  | .clockTick => true
  | .hourRollover zone => zoneNumber zone
  | .lightSample zone => zoneNumber zone
  | .lightReview zone => zoneNumber zone
  | .climateReview zone => zoneNumber zone
  | .pulseEndExpiry zone => zoneNumber zone
  | .bankStep bank => bankNumber bank
  | .minimumRunExpiry plant => plantNumber plant
  | .changeoverTimerExpiry plant => plantNumber plant
  | .roundTimerExpiry line => lineNumber line
  | .transactionTakeUp line => lineNumber line
  | .attemptRetry line => lineNumber line
  | .enrolProbeSend line => lineNumber line
  | .replyComplete line bytes => lineNumber line && packetComplete bytes
  | .replyTimeout line bytes => lineNumber line && !packetComplete bytes
  | .hangDetected line => lineNumber line
  | .releaseEnd line => lineNumber line
  | .recoveryWaitExpiry line => lineNumber line
  | .alarmPulseEnd => true
  | .checkpointTimerExpiry => true
  | .recordWriteEnd _ _ => true
  | .powerOn _ => true
  | .powerFail => true
  | .resetInputAssert => true
  | .resetInputRelease _ => true
  | .uartByteReceived _ _ => true

end Sys2Proof
end

