-- ==== Sys2Proof/Laws/PerInstr.lean ====
section
/-! SUPPORT. Statements made of every command as syntax: one lemma for each constructor of `Instr`. -/

namespace Sys2Proof.Laws

/-- What a well-formed command carries of a frame fits in a frame: the tag and kind bytes and the body have a length byte
that the receive assembly takes (R159, R160). -/
def FrameFits.Statement (i : Instr) : Prop :=
  i.wellFormed = true → ∀ body, i.body? = some body → body.length + 2 ≤ 250

theorem FrameFits.of_body (body : List Byte) (h : bodyFits body = true) :
    body.length + 2 ≤ 250 := by
  have := of_decide_eq_true h
  omega

theorem FrameFits.identify (tag : Byte) (body : List Byte) : FrameFits.Statement (.identify tag body) :=
  fun h _ e => Option.some.inj e ▸ FrameFits.of_body body h

theorem FrameFits.timeSet (tag : Byte) (body : List Byte) : FrameFits.Statement (.timeSet tag body) :=
  fun h _ e => Option.some.inj e ▸ FrameFits.of_body body h

theorem FrameFits.timeRead (tag : Byte) (body : List Byte) : FrameFits.Statement (.timeRead tag body) :=
  fun h _ e => Option.some.inj e ▸ FrameFits.of_body body h

theorem FrameFits.zoneDefine (tag : Byte) (body : List Byte) : FrameFits.Statement (.zoneDefine tag body) :=
  fun h _ e => Option.some.inj e ▸ FrameFits.of_body body h

theorem FrameFits.zoneBind (tag : Byte) (body : List Byte) : FrameFits.Statement (.zoneBind tag body) :=
  fun h _ e => Option.some.inj e ▸ FrameFits.of_body body h

theorem FrameFits.zoneOpen (tag : Byte) (body : List Byte) : FrameFits.Statement (.zoneOpen tag body) :=
  fun h _ e => Option.some.inj e ▸ FrameFits.of_body body h

theorem FrameFits.zoneClose (tag : Byte) (body : List Byte) : FrameFits.Statement (.zoneClose tag body) :=
  fun h _ e => Option.some.inj e ▸ FrameFits.of_body body h

theorem FrameFits.zoneRead (tag : Byte) (body : List Byte) : FrameFits.Statement (.zoneRead tag body) :=
  fun h _ e => Option.some.inj e ▸ FrameFits.of_body body h

theorem FrameFits.marksClear (tag : Byte) (body : List Byte) : FrameFits.Statement (.marksClear tag body) :=
  fun h _ e => Option.some.inj e ▸ FrameFits.of_body body h

theorem FrameFits.seasonBegin (tag : Byte) (body : List Byte) : FrameFits.Statement (.seasonBegin tag body) :=
  fun h _ e => Option.some.inj e ▸ FrameFits.of_body body h

theorem FrameFits.seasonEnd (tag : Byte) (body : List Byte) : FrameFits.Statement (.seasonEnd tag body) :=
  fun h _ e => Option.some.inj e ▸ FrameFits.of_body body h

theorem FrameFits.accountRead (tag : Byte) (body : List Byte) : FrameFits.Statement (.accountRead tag body) :=
  fun h _ e => Option.some.inj e ▸ FrameFits.of_body body h

theorem FrameFits.accountAdjust (tag : Byte) (body : List Byte) : FrameFits.Statement (.accountAdjust tag body) :=
  fun h _ e => Option.some.inj e ▸ FrameFits.of_body body h

theorem FrameFits.climateBand (tag : Byte) (body : List Byte) : FrameFits.Statement (.climateBand tag body) :=
  fun h _ e => Option.some.inj e ▸ FrameFits.of_body body h

theorem FrameFits.historyRead (tag : Byte) (body : List Byte) : FrameFits.Statement (.historyRead tag body) :=
  fun h _ e => Option.some.inj e ▸ FrameFits.of_body body h

theorem FrameFits.occupancy (tag : Byte) (body : List Byte) : FrameFits.Statement (.occupancy tag body) :=
  fun h _ e => Option.some.inj e ▸ FrameFits.of_body body h

theorem FrameFits.bankDefine (tag : Byte) (body : List Byte) : FrameFits.Statement (.bankDefine tag body) :=
  fun h _ e => Option.some.inj e ▸ FrameFits.of_body body h

theorem FrameFits.bankRead (tag : Byte) (body : List Byte) : FrameFits.Statement (.bankRead tag body) :=
  fun h _ e => Option.some.inj e ▸ FrameFits.of_body body h

theorem FrameFits.plantDefine (tag : Byte) (body : List Byte) : FrameFits.Statement (.plantDefine tag body) :=
  fun h _ e => Option.some.inj e ▸ FrameFits.of_body body h

theorem FrameFits.plantHold (tag : Byte) (body : List Byte) : FrameFits.Statement (.plantHold tag body) :=
  fun h _ e => Option.some.inj e ▸ FrameFits.of_body body h

theorem FrameFits.plantRelease (tag : Byte) (body : List Byte) : FrameFits.Statement (.plantRelease tag body) :=
  fun h _ e => Option.some.inj e ▸ FrameFits.of_body body h

theorem FrameFits.plantRead (tag : Byte) (body : List Byte) : FrameFits.Statement (.plantRead tag body) :=
  fun h _ e => Option.some.inj e ▸ FrameFits.of_body body h

theorem FrameFits.lineSet (tag : Byte) (body : List Byte) : FrameFits.Statement (.lineSet tag body) :=
  fun h _ e => Option.some.inj e ▸ FrameFits.of_body body h

theorem FrameFits.lineEnrol (tag : Byte) (body : List Byte) : FrameFits.Statement (.lineEnrol tag body) :=
  fun h _ e => Option.some.inj e ▸ FrameFits.of_body body h

theorem FrameFits.lineEnable (tag : Byte) (body : List Byte) : FrameFits.Statement (.lineEnable tag body) :=
  fun h _ e => Option.some.inj e ▸ FrameFits.of_body body h

theorem FrameFits.lineRead (tag : Byte) (body : List Byte) : FrameFits.Statement (.lineRead tag body) :=
  fun h _ e => Option.some.inj e ▸ FrameFits.of_body body h

theorem FrameFits.deviceRead (tag : Byte) (body : List Byte) : FrameFits.Statement (.deviceRead tag body) :=
  fun h _ e => Option.some.inj e ▸ FrameFits.of_body body h

theorem FrameFits.deviceRetire (tag : Byte) (body : List Byte) : FrameFits.Statement (.deviceRetire tag body) :=
  fun h _ e => Option.some.inj e ▸ FrameFits.of_body body h

theorem FrameFits.reportSet (tag : Byte) (body : List Byte) : FrameFits.Statement (.reportSet tag body) :=
  fun h _ e => Option.some.inj e ▸ FrameFits.of_body body h

theorem FrameFits.checkpointNow (tag : Byte) (body : List Byte) : FrameFits.Statement (.checkpointNow tag body) :=
  fun h _ e => Option.some.inj e ▸ FrameFits.of_body body h

theorem FrameFits.restart (tag : Byte) (body : List Byte) : FrameFits.Statement (.restart tag body) :=
  fun h _ e => Option.some.inj e ▸ FrameFits.of_body body h

theorem FrameFits.unknownRequestKind (kind : Byte) (tag : Byte) (body : List Byte) : FrameFits.Statement (.unknownRequestKind kind tag body) :=
  fun h _ e => Option.some.inj e ▸ FrameFits.of_body body (by simp only [Instr.wellFormed, Bool.and_eq_true] at h; exact h.2)

theorem FrameFits.frameReceived (tag : Byte) (kind : Byte) (body : List Byte) : FrameFits.Statement (.frameReceived tag kind body) :=
  fun h _ e => Option.some.inj e ▸ FrameFits.of_body body h

theorem FrameFits.frameGapExpiry : FrameFits.Statement (.frameGapExpiry) :=
  fun _ _ e => nomatch e

theorem FrameFits.outputFrameSent (sense : TermSense) : FrameFits.Statement (.outputFrameSent sense) :=
  fun _ _ e => nomatch e

theorem FrameFits.clockTick : FrameFits.Statement (.clockTick) :=
  fun _ _ e => nomatch e

theorem FrameFits.hourRollover (zone : Nat) : FrameFits.Statement (.hourRollover zone) :=
  fun _ _ e => nomatch e

theorem FrameFits.lightSample (zone : Nat) : FrameFits.Statement (.lightSample zone) :=
  fun _ _ e => nomatch e

theorem FrameFits.lightReview (zone : Nat) : FrameFits.Statement (.lightReview zone) :=
  fun _ _ e => nomatch e

theorem FrameFits.climateReview (zone : Nat) : FrameFits.Statement (.climateReview zone) :=
  fun _ _ e => nomatch e

theorem FrameFits.pulseEndExpiry (zone : Nat) : FrameFits.Statement (.pulseEndExpiry zone) :=
  fun _ _ e => nomatch e

theorem FrameFits.bankStep (bank : Nat) : FrameFits.Statement (.bankStep bank) :=
  fun _ _ e => nomatch e

theorem FrameFits.minimumRunExpiry (plant : Nat) : FrameFits.Statement (.minimumRunExpiry plant) :=
  fun _ _ e => nomatch e

theorem FrameFits.changeoverTimerExpiry (plant : Nat) : FrameFits.Statement (.changeoverTimerExpiry plant) :=
  fun _ _ e => nomatch e

theorem FrameFits.roundTimerExpiry (line : Nat) : FrameFits.Statement (.roundTimerExpiry line) :=
  fun _ _ e => nomatch e

theorem FrameFits.transactionTakeUp (line : Nat) : FrameFits.Statement (.transactionTakeUp line) :=
  fun _ _ e => nomatch e

theorem FrameFits.attemptRetry (line : Nat) : FrameFits.Statement (.attemptRetry line) :=
  fun _ _ e => nomatch e

theorem FrameFits.enrolProbeSend (line : Nat) : FrameFits.Statement (.enrolProbeSend line) :=
  fun _ _ e => nomatch e

theorem FrameFits.replyComplete (line : Nat) (bytes : List FieldByte) : FrameFits.Statement (.replyComplete line bytes) :=
  fun _ _ e => nomatch e

theorem FrameFits.replyTimeout (line : Nat) (bytes : List FieldByte) : FrameFits.Statement (.replyTimeout line bytes) :=
  fun _ _ e => nomatch e

theorem FrameFits.hangDetected (line : Nat) : FrameFits.Statement (.hangDetected line) :=
  fun _ _ e => nomatch e

theorem FrameFits.releaseEnd (line : Nat) : FrameFits.Statement (.releaseEnd line) :=
  fun _ _ e => nomatch e

theorem FrameFits.recoveryWaitExpiry (line : Nat) : FrameFits.Statement (.recoveryWaitExpiry line) :=
  fun _ _ e => nomatch e

theorem FrameFits.alarmPulseEnd : FrameFits.Statement (.alarmPulseEnd) :=
  fun _ _ e => nomatch e

theorem FrameFits.checkpointTimerExpiry : FrameFits.Statement (.checkpointTimerExpiry) :=
  fun _ _ e => nomatch e

theorem FrameFits.recordWriteEnd (readBackAgrees : Bool) (sense : TermSense) : FrameFits.Statement (.recordWriteEnd readBackAgrees sense) :=
  fun _ _ e => nomatch e

theorem FrameFits.powerOn (sense : TermSense) : FrameFits.Statement (.powerOn sense) :=
  fun _ _ e => nomatch e

theorem FrameFits.powerFail : FrameFits.Statement (.powerFail) :=
  fun _ _ e => nomatch e

theorem FrameFits.resetInputAssert : FrameFits.Statement (.resetInputAssert) :=
  fun _ _ e => nomatch e

theorem FrameFits.resetInputRelease (sense : TermSense) : FrameFits.Statement (.resetInputRelease sense) :=
  fun _ _ e => nomatch e

theorem FrameFits.uartByteReceived (data : Byte) (stopBit : Bool) : FrameFits.Statement (.uartByteReceived data stopBit) :=
  fun _ _ e => nomatch e

end Sys2Proof.Laws
end

