-- ==== Sys2Proof/Tests/Slice0.lean ====
section
/-! SUPPORT. Tests of the model: the manual's worked examples, one step of each command on a small state, an ill-formed command
for each check of `wellFormed`, and for each obligation with hypotheses a state and operands that meet them. -/

namespace Sys2Proof.Tests

-- One theorem after another: each is evaluated by the kernel, and many at once would need a stack each.
set_option Elab.async false

open Sys2Proof Sys2Proof.Machine

/-! ## Small states -/

/-- The part before its first power-on: no supply, a store never written, and rubbish in the fields a start sets. -/
def off : State :=
  { State.reset with powered := false, now := 40, clock := 77, synced := true, alarm := true, pulsing := true,
                     lines := Vector.replicate 2 (Line.started false 7), link := Link.fresh }

/-- The definition of a zone with every device. -/
def defn : Definition :=
  { ceiling := 50, floor := 25, policy := .visibility, uvRef := 75, sensitivity := 1, electricLimit := 100, derate := 60,
    plant := some 1, dimmer := some ⟨1, 14⟩, trim := some ⟨2, 40⟩, banks := [3], surgeThreshold := some 30, escalate := true }

/-- The definition of a zone with no device, bank or plant. -/
def plain : Definition :=
  { defn with plant := none, dimmer := none, trim := none, banks := [], surgeThreshold := none }

/-- RH 500, half-width 50, guard 15; temperature 200, half-width 20, guard 5 (R64's example for RH). -/
def band : Band :=
  { rhTarget := 500, rhHalf := 50, rhGuard := 15, swingLimit := 80, tempTarget := 200, tempHalf := 20, tempGuard := 5,
    trimAllowance := 4 }

def zone3 : Zone := { Zone.created defn 0 0 with isOpen := true, band := some band }
def zone16 : Zone := Zone.created plain 0 0
def bank3 : Bank := { state := .active, louvre := ⟨1, 22⟩, slew := 10, target := 0, commanded := 100, stepDue := 30 }
def plant1 : Plant := Plant.fresh ⟨1, 30⟩

def active (l a : Nat) (k : DeviceKind) : Device := { Device.enrolled l a k with state := .active }

/-- A running part at second 1000 whose output is busy: zones 3 and 16, bank 3, plant 1 and seven devices. -/
def gallery : State :=
  { State.reset with
    now := 1000
    zones := slotSet (slotSet State.reset.zones 3 (some zone3)) 16 (some zone16)
    banks := slotSet State.reset.banks 3 (some bank3)
    plants := slotSet State.reset.plants 1 (some plant1)
    devices := [active 1 14 .dimmer, active 1 20 .lightSensor, active 1 22 .louvre, active 1 30 .plantController,
                active 2 40 .trimUnit, active 2 65 .climateSensor, active 2 126 .louvre] }

/-- The gallery with zone 3, plant 1 or a line changed. -/
def withZone (f : Zone → Zone) : State := gallery.modZone 3 f
def withPlant (f : Plant → Plant) : State := gallery.modPlant 1 f
def withLine (l : Nat) (f : Line → Line) : State := gallery.modLine l f
def withLight (f : Light → Light) (m : Measurement → Measurement) : State :=
  withZone fun r => { r with light := f r.light, measure := m r.measure }

/-- The state a command leaves. -/
def run (c : Instr) (s : State) : State :=
  match exec c s with
  | .next t => t
  | .fault e => nomatch e
  | .refused _ => s

/-- The body of the last reply that a command has queued. -/
def answer (c : Instr) (s : State) : Option (List Byte) := (run c s).link.replies.getLast?.map (·.body)

/-- A request that meets an empty intake and room in the reply queue is taken up. -/
theorem ready {c : Instr} {s : State}
    (h : (c.request?.isSome && s.running && s.link.intake.isEmpty && s.mayTakeUp) = true) : TakenUp c s := by
  simp only [Bool.and_eq_true, Option.isSome_iff_exists] at h
  obtain ⟨⟨⟨⟨f, hf⟩, hr⟩, he⟩, hm⟩ := h
  exact ⟨f, hf, hr, by simpa using he, hm⟩

/-- What holds of each record that is there holds of every record. -/
theorem forZones {s : State} {P : Nat → Zone → Prop} (h : ∀ z ∈ zoneNumbers, ∀ r ∈ s.zone? z, P z r) :
    ∀ z r, s.zone? z = some r → P z r := by
  intro z r hz
  have := State.zone?_valid hz
  exact h z (by simp [zoneNumbers, List.mem_range'_1]; omega) r hz

theorem forBanks {s : State} {P : Nat → Bank → Prop} (h : ∀ b ∈ bankNumbers, ∀ r ∈ s.bank? b, P b r) :
    ∀ b r, s.bank? b = some r → P b r := by
  intro b r hb
  have := State.bank?_valid hb
  exact h b (by simp [bankNumbers, List.mem_range'_1]; omega) r hb

theorem forPlants {s : State} {P : Nat → Plant → Prop} (h : ∀ p ∈ plantNumbers, ∀ r ∈ s.plant? p, P p r) :
    ∀ p r, s.plant? p = some r → P p r := by
  intro p r hp
  have := State.plant?_valid hp
  exact h p (by simp [plantNumbers, List.mem_range'_1]; omega) r hp

theorem forLines {s : State} {P : Nat → Line → Prop} (h : ∀ l ∈ lineNumbers, ∀ r ∈ s.line? l, P l r) :
    ∀ l r, s.line? l = some r → P l r := by
  intro l r hl
  have := State.line?_valid hl
  exact h l (by simp [lineNumbers, List.mem_range'_1]; omega) r hl

/-! ## Ill-formed commands -/

/-- A body one byte longer than any frame carries. -/
def long : List Byte := List.replicate 249 0

theorem test_refuse_long_bodies :
    ([.identify 0 long, .timeSet 0 long, .timeRead 0 long, .zoneDefine 0 long, .zoneBind 0 long, .zoneOpen 0 long,
      .zoneClose 0 long, .zoneRead 0 long, .marksClear 0 long, .seasonBegin 0 long, .seasonEnd 0 long, .accountRead 0 long,
      .accountAdjust 0 long, .climateBand 0 long, .historyRead 0 long, .occupancy 0 long, .bankDefine 0 long,
      .bankRead 0 long, .plantDefine 0 long, .plantHold 0 long, .plantRelease 0 long, .plantRead 0 long, .lineSet 0 long,
      .lineEnrol 0 long, .lineEnable 0 long, .lineRead 0 long, .deviceRead 0 long, .deviceRetire 0 long, .reportSet 0 long,
      .checkpointNow 0 long, .restart 0 long, .unknownRequestKind 0 0 long, .frameReceived 0 0 long] : List Instr).all
      (fun c => !c.wellFormed) = true := by decide +kernel

theorem test_refuse_numbers :
    ([.hourRollover 0, .lightSample 17, .lightReview 0, .climateReview 17, .pulseEndExpiry 0, .bankStep 9,
      .minimumRunExpiry 0, .changeoverTimerExpiry 3, .roundTimerExpiry 0, .transactionTakeUp 3, .attemptRetry 0,
      .enrolProbeSend 3, .replyComplete 0 (replyPacket 14 0xD0 [20]), .replyTimeout 3 [], .hangDetected 0, .releaseEnd 3,
      .recoveryWaitExpiry 0] : List Instr).all (fun c => !c.wellFormed) = true := by decide +kernel

/-- A kind of the catalogue is not unknown, an incomplete packet is not complete, and a complete one does not time out. -/
theorem test_refuse_contradictions :
    ([.unknownRequestKind 0x1F 0 [], .replyComplete 1 [], .replyTimeout 1 (replyPacket 14 0xD0 [20])] : List Instr).all
      (fun c => !c.wellFormed) = true := by decide +kernel

theorem test_admit_boundaries :
    ([.identify 0 (List.replicate 248 0), .unknownRequestKind 0x20 0 [], .unknownRequestKind 0 0 [], .lightSample 1,
      .lightSample 16, .bankStep 1, .bankStep 8, .minimumRunExpiry 2, .hangDetected 2,
      .replyComplete 1 (replyPacket 14 0xD0 [20]), .replyTimeout 1 []] : List Instr).all Instr.wellFormed = true := by
  decide +kernel

/-! ## Worked examples of the manual -/

/-- R159: the check over "123456789" is 29B1 hex. -/
theorem test_crc : crc16 [0x31, 0x32, 0x33, 0x34, 0x35, 0x36, 0x37, 0x38, 0x39] = 0x29B1 := by decide +kernel

/-- R132, R133: the POLL to address 14, its parity bits even: three ones, two, none, three. -/
theorem test_poll_packet :
    requestPacket 14 .poll = [⟨0x0E, true, true⟩, ⟨0x50, false, true⟩, ⟨0x00, false, true⟩, ⟨0xA2, true, true⟩] := by
  decide +kernel

/-- R24 and the worked sequences of chapter 2. -/
theorem test_uv_weights : uvWeight 95 75 = 1297 ∧ uvWeight 300 75 = 4096 ∧ uvWeight 60 75 = 1024 ∧ uvWeight 5000 500 = 4096 := by
  decide +kernel

/-- Chapter 2, "residue carried over six samples": the first two rows. -/
theorem test_residue_sequence :
    let a : Account := ⟨312000000, 0, 5400000, some ⟨150000, 3000, 0⟩, some 4000000, false⟩
    let b := a.sampled 4000010 180 1297 true
    let c := b.sampled 4000020 180 1297 true
    (b.dose, b.residue, b.openSeconds) = (312002279, 904, 5400010)
      ∧ (c.dose, c.residue, c.openSeconds) = (312004559, 784, 5400020) := by decide +kernel

/-- Chapter 2, "blind channel, clock changes and closing": elapsed 60 after a leap forward, 10 after a step backward, and a
CLOSED zone whose open seconds stand. -/
theorem test_clock_changes :
    let a : Account := ⟨48212000, 304, 360010, none, some 90010, false⟩
    let b := a.sampled 97205 150 1024 true
    let c := b.sampled 96007 150 1024 true
    let d := c.sampled 96017 20 4096 false
    (b.dose, b.openSeconds) = (48221000, 360070) ∧ (c.dose, c.openSeconds) = (48222500, 360080)
      ∧ (d.dose, d.residue, d.openSeconds) = (48223300, 304, 360080) := by decide +kernel

/-- R64's example: target 500, half-width 50, guard 15. -/
theorem test_classify :
    ([520, 465, 464, 550, 551, 420] : List Int).map (fun v => classify v 500 50 15)
      = [.inBand, .inBand, .driftLow, .driftHigh, .outHigh, .outLow] := by decide +kernel

/-- R66's example: the swing of its four buckets is 85; after bucket 479 has gone it is 50. -/
theorem test_swing :
    spread [⟨502, some (480, 505), none, 1⟩, ⟨479, some (520, 540), none, 1⟩, ⟨490, some (455, 492), none, 1⟩,
      ⟨501, some (470, 500), none, 1⟩] = 85
    ∧ spread [⟨503, some (480, 505), none, 1⟩, ⟨490, some (455, 492), none, 1⟩, ⟨501, some (470, 500), none, 1⟩] = 50 := by
  decide +kernel

/-- Chapter 3, "one review under both policies" and its three other points. -/
theorem test_budget :
    let d : Definition := { plain with ceiling := 200, floor := 50 }
    let e : Definition := { d with policy := .budget }
    let a (dose q : Nat) : Account := ⟨dose, 0, q, some ⟨150000, 3000, 0⟩, none, false⟩
    budget d (a 312000000 5400000) = (50, 42, .pressure) ∧ budget e (a 312000000 5400000) = (42, 42, .restricted)
      ∧ budget d (a 100000000 1000000) = (50, 44, .pressure) ∧ budget e (a 532800000 10900000) = (200, 2000, .within)
      ∧ budget d (a 540005000 10900000) = (50, 0, .exhausted) ∧ budget e (a 540005000 10900000) = (0, 0, .dark)
      ∧ budget e (a 537000000 5400000) = (0, 0, .dark) := by decide +kernel

/-- R44's examples of the effective limit. -/
theorem test_effective_limits :
    ([(100, 60, .outHigh), (80, 60, .outHigh), (80, 60, .driftHigh), (45, 33, .outHigh), (100, 0, .outHigh)] :
      List (Nat × Nat × BandState)).map (fun q =>
        { zone3 with defn := { defn with electricLimit := q.1, derate := q.2.1 },
                     climate := { zone3.climate with temp := q.2.2 } }.effectiveLimit) = [60, 48, 80, 14, 0] := by
  decide +kernel

/-- Chapter 3, "a zone opened in the morning": reviews 1, 4, 6, 7, 8 and 9 (target 150, reference 75). -/
theorem test_morning :
    ([(20, 40, 0, 100), (95, 90, 0, 70), (141, 80, 20, 70), (172, 80, 20, 70), (168, 80, 10, 70), (171, 80, 0, 70)] :
      List (Nat × Nat × Nat × Nat)).map (fun q =>
        { zone3 with light := { zone3.light with target := 150, dimmer := q.2.2.1, louvre := q.2.2.2 },
                     measure := { zone3.measure with uvRatio := some q.2.1 } }.step q.1)
      = [(0, 90), (10, 70), (20, 70), (10, 70), (0, 70), (0, 80)] := by decide +kernel

/-- R108: halves are rounded away from zero; chapter 6's means of two sensors. -/
theorem test_means :
    roundedMean 1017 2 = 509 ∧ roundedMean (-25) 2 = -13 ∧ roundedMean 371 2 = 186 ∧ roundedMean 175 2 = 88
      ∧ roundedMean 378 2 = 189 := by decide +kernel

/-- Chapter 4, "history across clock changes": to hour 501, to hour 510, back to hour 495. -/
theorem test_history :
    let hist (lo n : Nat) : List Bucket := (List.range' lo n).map fun h => ⟨h, some (1, 2), none, 1⟩
    let c : Climate := { zone3.climate with history := hist 478 22, current := ⟨500, some (1, 2), none, 5⟩, trimCount := 0 }
    let d : Climate := { c with history := hist 479 23, current := ⟨502, some (1, 2), none, 5⟩ }
    let e : Climate := { c with history := hist 487 16, current := ⟨510, some (1, 2), none, 1⟩ }
    (c.rolled 4 ⟨500, 501⟩).history.map (·.hour) = List.range' 478 23
      ∧ (d.rolled 4 ⟨502, 510⟩).history.map (·.hour) = List.range' 487 16
      ∧ (e.rolled 4 ⟨510, 495⟩).history.map (·.hour) = List.range' 487 8 := by decide +kernel

/-- Chapter 9: the queue evicts the newest notice of the lowest level, here 1; the oldest of that level stays. -/
theorem test_eviction :
    let n (b : NoticeBody) : Notice := ⟨b, .none, 0⟩
    let q := n (.plantDuty .dry 3 1) :: (List.replicate 30 (n .lineRestored)) ++ [n (.storeDone 1 0)]
    enqueue (n (.checkpointFailed 0)) q
      = n (.plantDuty .dry 3 1) :: (List.replicate 30 (n .lineRestored)) ++ [n (.checkpointFailed 0)] := by decide +kernel

/-- Chapter 5, "competing demands": the preemption at 720 takes COOL, and the withdrawal at 790 leaves the changeover. -/
theorem test_preemption :
    let s := withPlant fun r => { r with
      state := .running, physical := .humidify, commanded := .humidify, target := .humidify
      service := [⟨10, .humidify, 2, 43⟩], waiting := [⟨4, .cool, 6, 42⟩, ⟨13, .dry, 5, 44⟩], serviceLevel := 2
      arrivals := 44, minRunDue := some 720 }
    let t := s.minimumRunExpiry 1
    (t.plant? 1).map (fun r => (r.state, r.target, r.service, r.waiting, r.serviceLevel))
        = some (.changeover, .cool, [⟨4, .cool, 6, 42⟩], [⟨13, .dry, 5, 44⟩, ⟨10, .humidify, 2, 43⟩], 6)
      ∧ ((t.withdraw 1 4).plant? 1).map (fun r => (r.state, r.target, r.service)) = some (.changeover, .cool, []) := by
  decide +kernel

/-- Chapter 5, "a controller fault and recovery": the last row. -/
theorem test_recovery :
    let s := withPlant fun r => { r with
      state := .faulted, physical := .dry, commanded := .dry, target := .dry
      waiting := [⟨6, .humidify, 5, 8⟩, ⟨2, .dry, 4, 7⟩], arrivals := 9 }
    ((s.plantRecover 1 (some 2)).plant? 1).map (fun r => (r.state, r.target, r.service, r.waiting, r.changeDue))
      = some (.changeover, .humidify, [⟨6, .humidify, 5, 8⟩], [⟨2, .dry, 4, 7⟩], some 1120) := by decide +kernel

/-- R77, R76: an escalated drift at sensitivity 1 asks for HUMIDIFY 3, and RH OUT for HUMIDIFY 5 (chapter 4, 780 and 840). -/
theorem test_needs :
    let r (rh : BandState) : Zone := { zone3 with climate := { zone3.climate with rh, trimCount := 0 } }
    (r .driftLow).chosenNeed = some ⟨.humidify, 3⟩ ∧ (r .outLow).chosenNeed = some ⟨.humidify, 5⟩
      ∧ (r .inBand).chosenNeed = none := by decide +kernel

/-- R105: a care mask of 0 covers every address, one of 127 the base alone. -/
theorem test_covers :
    (⟨1, 20, 0, .light⟩ : Binding).covers 126 = true ∧ (⟨1, 20, 127, .light⟩ : Binding).covers 20 = true
      ∧ (⟨1, 20, 127, .light⟩ : Binding).covers 21 = false ∧ (⟨1, 16, 0x70, .light⟩ : Binding).covers 31 = true := by
  decide +kernel

/-! ## The part as a whole: start, stop, clock -/

/-- R172, R173: the first power-on with both lines terminated gives `State.reset`. -/
theorem test_first_power_on : run (.powerOn ⟨true, true⟩) { off with now := 0 } = State.reset := by decide +kernel

theorem witness_StepRunsFrontCommand : gallery.pending = [] ∧ gallery.link.intake = [] := ⟨rfl, rfl⟩

theorem witness_StoppedPartDoesNothing :
    off.running = false ∧ { gallery with resetLow := true }.running = false ∧ (∀ x, Instr.clockTick ≠ .powerOn x)
      ∧ Instr.clockTick ≠ .powerFail ∧ Instr.clockTick ≠ .resetInputAssert
      ∧ ∀ x, Instr.clockTick ≠ .resetInputRelease x := by
  refine ⟨rfl, rfl, ?_, ?_, ?_, ?_⟩ <;> simp

theorem witness_ResetState : State.reset.line? 1 = some State.resetLine ∧ State.reset.line? 2 = some State.resetLine :=
  ⟨rfl, rfl⟩

theorem witness_PowerOnWithoutConfiguration :
    off.powered = false ∧ off.resetLow = false ∧ off.store.config = none := ⟨rfl, rfl, rfl⟩

/-- A configuration record of the gallery, in which zones 3 and 16 are defined, written at clock 7200. -/
def record : ConfigRecord := { config := gallery.configuration, clock := 7200 }

/-- A store in which the account record of zone 3 passes its check and that of zone 16 does not. -/
def storage : Store :=
  { config := some record, accounts := slotSet (Vector.replicate 16 none) 3 (some { zone3.accountRecord with dose := 9 }) }

theorem witness_StartLoadsStore :
    let s := { off with store := storage }
    let t := { gallery with resetLow := true, store := storage }
    s.powered = false ∧ s.resetLow = false ∧ t.powered = true ∧ t.resetLow = true ∧ s.store.config = some record
      ∧ t.store.config = some record ∧ slot? record.config.zones 1 = some none
      ∧ slot? record.config.zones 3 = some (some zone3.stored) ∧ slot? record.config.zones 16 = some (some zone16.stored)
      ∧ slot? s.store.accounts 3 = some (some { zone3.accountRecord with dose := 9 })
      ∧ slot? s.store.accounts 16 = some none := by decide +kernel

/-- R173: a start with line 2 unterminated: START goes out first, then ACCOUNT_GAP of zone 3 and ACCOUNT_LOST of zone 16
wait; the commands of step 4 are queued on line 1, and the OFF for zone 3's trim unit on line 2 fails at once. -/
theorem test_start_sequence :
    let t := run (.powerOn ⟨true, false⟩) { off with store := storage }
    t.notices.map (·.body) = [.markSet .accountGap, .markSet .accountLost]
      ∧ (t.line? 1).map (·.queue) = some [⟨30, 0, .arbiter 1⟩, ⟨22, 100, .bank 3⟩]
      ∧ (t.line? 2).map (fun r => (r.state, r.queue)) = some (.off, [])
      ∧ (t.zone? 3).map (fun r => (r.isOpen, r.account.dose, r.climate.trimUnavailable)) = some (true, 9, true)
      ∧ t.alarm = true := by decide +kernel

/-- A full configuration write, and a write of zone 3's account record, in flight. -/
def writingConfig : Checkpoint := ⟨false, .config record, 0, 0⟩
def writingZone3 : Checkpoint := ⟨false, .account 3 zone3.accountRecord, 1, 0⟩

theorem witness_StopTearsOneRecord :
    gallery.running = true ∧ gallery.checkpoint = none
      ∧ { gallery with checkpoint := some writingConfig }.running = true
      ∧ { gallery with checkpoint := some writingZone3 }.running = true := by decide +kernel

/-- R170: each way of stopping leaves the record being written, and that one alone, failing its check. -/
theorem test_torn_write :
    (run .powerFail { gallery with checkpoint := some writingZone3, store := storage }).store
        = { storage with accounts := Vector.replicate 16 none }
      ∧ (run .resetInputAssert { gallery with checkpoint := some writingConfig, store := storage }).store
        = { storage with config := none } := by decide +kernel

/-- R167: the reset input returns high: the start sequence begins with cause RESET INPUT. -/
theorem test_reset_release :
    let t := run (.resetInputRelease ⟨true, true⟩) { gallery with resetLow := true }
    t.resetLow = false ∧ t.clock = 0 ∧ t.zone? 3 = none
      ∧ t.link.output = some ⟨(Notice.frame ⟨.start .resetInput true, .none, 0⟩).wire, false⟩ := by decide +kernel

theorem witness_ClockTickAdvances :
    gallery.running = true ∧ { gallery with clock := 3599 }.clock / 3600 ≠ 3600 / 3600
      ∧ { gallery with clock := 4294967295 }.running = true := by decide +kernel

/-- R12, R14: the last second of hour 0 brings a rollover to each defined zone, and the count wraps to 0. -/
theorem test_clock_tick :
    ((run .clockTick { gallery with clock := 3599 }).zone? 16).map (·.rollovers) = some [⟨0, 1⟩]
      ∧ (run .clockTick { gallery with clock := 4294967295 }).clock = 0
      ∧ ((run .clockTick { gallery with clock := 4294967295 }).zone? 3).map (·.rollovers) = some [⟨1193046, 0⟩]
      ∧ ((run .clockTick gallery).zone? 3).map (·.rollovers) = some [] := by decide +kernel

theorem witness_TimeSetMovesClock :
    TakenUp (.timeSet 7 (be 4 0)) gallery ∧ TakenUp (.timeSet 7 (be 4 4294967295)) gallery :=
  ⟨ready (by decide +kernel), ready (by decide +kernel)⟩

def rolling (o : Rollover) : State := withZone fun r => { r with rollovers := [o] }

theorem witness_HourRolloverActs :
    (rolling ⟨0, 1⟩).running = true ∧ (rolling ⟨0, 1⟩).zone? 3 = some { zone3 with rollovers := [⟨0, 1⟩] }
      ∧ (rolling ⟨1, 0⟩).running = true ∧ (rolling ⟨1, 0⟩).zone? 3 = some { zone3 with rollovers := [⟨1, 0⟩] } := by
  decide +kernel

/-- R67: the rollover refills the trim count to the band's allowance and stamps a new current bucket. -/
theorem test_hour_rollover :
    ((run (.hourRollover 3) (rolling ⟨0, 24⟩)).zone? 3).map (fun r =>
      (r.rollovers, r.climate.current, r.climate.trimCount)) = some ([], ⟨24, none, none, 0⟩, 4) := by decide +kernel

/-! ## Requests in general, and reads -/

theorem witness_RefusalChangesNothing : TakenUp (.identify 7 [1]) gallery ∧ TakenUp (.bankRead 7 [9]) gallery :=
  ⟨ready (by decide +kernel), ready (by decide +kernel)⟩

theorem witness_RefusedBeforeOwningRule :
    inCatalogue 0 = false ∧ inCatalogue 0x20 = false ∧ TakenUp (.unknownRequestKind 0 7 []) gallery
      ∧ TakenUp (.unknownRequestKind 0x20 7 []) gallery ∧ ([1] : List Byte).length ≠ 0
      ∧ TakenUp (.identify 7 [1]) gallery ∧ TakenUp (.restart 7 [1]) gallery :=
  ⟨by decide, by decide, ready (by decide +kernel), ready (by decide +kernel), by decide, ready (by decide +kernel),
   ready (by decide +kernel)⟩

/-- R162: an unknown kind, and a body one byte too long, for every kind whose body has one length. -/
theorem test_unknown_and_shape :
    (run (.unknownRequestKind 0x20 7 []) gallery).link.replies = [⟨7, 0xFF, [0x11]⟩]
      ∧ ([(.identify, 0), (.timeSet, 4), (.timeRead, 0), (.zoneOpen, 1), (.zoneClose, 1), (.zoneRead, 1), (.seasonBegin, 7),
          (.seasonEnd, 1), (.accountRead, 1), (.accountAdjust, 11), (.historyRead, 1), (.occupancy, 3), (.bankRead, 1),
          (.plantDefine, 3), (.plantHold, 2), (.plantRelease, 1), (.plantRead, 1), (.lineSet, 2), (.lineEnrol, 1),
          (.lineEnable, 1), (.lineRead, 1), (.deviceRead, 2), (.deviceRetire, 2), (.reportSet, 3), (.checkpointNow, 0),
          (.restart, 0)] : List ((Byte → List Byte → Instr) × Nat)).all
        (fun q => answer (q.1 7 (List.replicate (q.2 + 1) 1)) gallery = some [0x12]) = true := by decide +kernel

theorem witness_ZoneRequestRefusals :
    TakenUp (.zoneOpen 7 [0]) gallery ∧ TakenUp (.zoneOpen 7 [17]) gallery
      ∧ TakenUp (.zoneOpen 7 [1]) State.reset ∧ State.reset.zone? 1 = none
      ∧ TakenUp (.occupancy 7 [16, 0, 0]) State.reset ∧ State.reset.zone? 16 = none :=
  ⟨ready (by decide +kernel), ready (by decide +kernel), ready (by decide +kernel), by decide +kernel,
   ready (by decide +kernel), by decide +kernel⟩

theorem witness_PartAndZoneReads :
    validZone 1 = true ∧ gallery.zone? 1 = none ∧ validZone 16 = true ∧ gallery.zone? 16 = some zone16
      ∧ TakenUp (.identify 7 []) gallery ∧ TakenUp (.timeRead 7 []) gallery ∧ TakenUp (.zoneRead 7 [1]) gallery
      ∧ TakenUp (.zoneRead 7 [16]) gallery ∧ TakenUp (.accountRead 7 [16]) gallery
      ∧ TakenUp (.historyRead 7 [16]) gallery :=
  ⟨by decide, by decide +kernel, by decide, by decide +kernel, ready (by decide +kernel), ready (by decide +kernel),
   ready (by decide +kernel), ready (by decide +kernel), ready (by decide +kernel), ready (by decide +kernel)⟩

/-- R166, R12, R19, R33: what four reads carry, written out from their rules. -/
theorem test_reads :
    answer (.identify 7 []) gallery = some [0, 0x2C, 0x71, 0x01, 0xA0, 3, 16, 4, 8, 4, 2, 2, 64, 16, 32, 4]
      ∧ answer (.timeRead 7 []) { gallery with clock := 258, synced := true } = some [0, 0, 0, 1, 2, 0]
      ∧ answer (.zoneRead 7 [1]) gallery = some [0, 1, 0]
      ∧ answer (.accountRead 7 [16]) (gallery.putZone 16 { zone16 with account := ⟨65537, 5, 6, some ⟨7, 8, 9⟩, some 10, true⟩ })
        = some [0, 0, 0, 1, 0, 1, 0, 5, 0, 0, 0, 6, 1, 0, 0, 0, 7, 0, 8, 0, 0, 0, 9, 1, 0, 0, 0, 10, 0] := by decide +kernel

/-- R69, R162: one closed bucket gives its distance back and 8000 hex where it has no temperature. -/
theorem test_history_read :
    answer (.historyRead 7 [16]) (gallery.putZone 16 { zone16 with climate := { zone16.climate with
        history := [⟨2, some (400, 500), none, 300⟩], current := ⟨5, some (450, 460), some (-1, 200), 2⟩
        lastSwing := some 100 } })
      = some ([0, 1, 3, 0x01, 0x90, 0x01, 0xF4, 0x80, 0, 0x80, 0, 255] ++ [0, 0, 5, 0x01, 0xC2, 0x01, 0xCC, 0xFF, 0xFF, 0, 200, 2]
          ++ [1, 0, 100, 1]) := by decide +kernel

theorem witness_RecordReads :
    gallery.bank? 3 = some bank3 ∧ gallery.bank? 8 = none ∧ validBank 8 = true ∧ validBank 0 = false ∧ validBank 9 = false
      ∧ gallery.plant? 1 = some plant1 ∧ gallery.plant? 2 = none ∧ validPlant 2 = true ∧ validPlant 3 = false
      ∧ gallery.line? 2 = some State.resetLine ∧ validLine 0 = false ∧ validLine 3 = false ∧ validAddress 0 = false
      ∧ validAddress 127 = false ∧ gallery.device? ⟨2, 126⟩ = some (active 2 126 .louvre) ∧ gallery.device? ⟨1, 1⟩ = none
      ∧ TakenUp (.bankRead 7 [3]) gallery ∧ TakenUp (.plantRead 7 [1]) gallery ∧ TakenUp (.lineRead 7 [2]) gallery
      ∧ TakenUp (.deviceRead 7 [2, 126]) gallery := by
  refine ⟨?_, ?_, ?_, ?_, ?_, ?_, ?_, ?_, ?_, ?_, ?_, ?_, ?_, ?_, ?_, ?_, ready ?_, ready ?_, ready ?_, ready ?_⟩ <;>
    decide +kernel

/-- R57, R101, R148, R129: what the reads of bank 3, plant 1, line 2 and device 1-14 carry. -/
theorem test_record_reads :
    answer (.bankRead 7 [3]) gallery = some [0, 1, 1, 22, 10, 0, 100, 0, 1, 3, 2, 100]
      ∧ answer (.plantRead 7 [1]) gallery = some [0, 1, 1, 30, 0, 0, 0, 0, 0, 0, 0, 0, 0, 0, 1, 1, 1, 1, 1]
      ∧ answer (.lineRead 7 [2]) gallery = some [0, 1, 0, 3, 0, 1, 0, 0, 0, 0, 0, 3, 2]
      ∧ answer (.deviceRead 7 [1, 14]) gallery = some [0, 4, 1, 0, 0, 0, 0, 1, 0, 3] := by decide +kernel

/-! ## The host link -/

def queued (intake replies : Nat) : State :=
  { gallery with link := { gallery.link with intake := List.replicate intake ⟨1, 1, []⟩
                                             replies := List.replicate replies ⟨1, 0x81, [0]⟩ } }

def assembling (rx : List Byte) : State := { gallery with link := { gallery.link with rx := some rx } }

theorem witness_FramesAreReceived :
    (queued 3 8).running = true ∧ (queued 3 8).link.intake.length < 4
      ∧ 4 ≤ (queued 4 7).link.intake.length ∧ (queued 4 7).link.replies.length < 8
      ∧ 4 ≤ (queued 4 8).link.intake.length ∧ 8 ≤ (queued 4 8).link.replies.length
      ∧ gallery.link.rx = none ∧ (assembling []).link.rx = some [] ∧ (assembling [250]).link.rx = some [250]
      ∧ (1 : Byte).toNat < 2 ∧ 2 ≤ (2 : Byte).toNat ∧ (250 : Byte).toNat ≤ 250 ∧ 250 < (251 : Byte).toNat
      ∧ (assembling (2 :: [7, 1, 0])).link.rx = some (2 :: [7, 1, 0]) ∧ ([7, 1] : List Byte).length + 1 < (2 : Byte).toNat + 2 := by
  decide +kernel

/-- R161: the frame after the fourth is answered FULL where it comes before the freeing of a place, joins where it comes after it,
and is discarded where there is no room for a reply either. -/
theorem test_frame_received :
    (run (.frameReceived 9 0x08 [1]) (queued 3 8)).link.intake.getLast? = some ⟨9, 0x08, [1]⟩
      ∧ (((queued 4 7).serve (fun _ => false) 4).deliver ⟨9, 0x08, [1]⟩).link.replies.getLast? = some ⟨9, 0x88, [0x10]⟩
      ∧ (((queued 4 7).serve (fun _ => true) 4).deliver ⟨9, 0x08, [1]⟩).link.intake.getLast? = some ⟨9, 0x08, [1]⟩
      ∧ run (.frameReceived 9 0x08 [1]) (queued 4 8) = queued 4 8 := by decide +kernel

/-- R160: a length byte of 1 or 251 discards the frame, 2 does not; a byte without its stop bit and a gap discard it. -/
theorem test_uart_bytes :
    (run (.uartByteReceived 1 true) (assembling [])).link.rx = none
      ∧ (run (.uartByteReceived 251 true) (assembling [])).link.rx = none
      ∧ (run (.uartByteReceived 2 true) (assembling [])).link.rx = some [2]
      ∧ (run (.uartByteReceived 7 false) (assembling [2])).link.rx = none
      ∧ (run .frameGapExpiry (assembling [2])).link.rx = none := by decide +kernel

theorem witness_FrameRoundTrip :
    (⟨7, 1, []⟩ : Frame).body.length ≤ 248 ∧ (⟨7, 4, List.replicate 248 0xA5⟩ : Frame).body.length ≤ 248
      ∧ gallery.running = true ∧ gallery.link.rx = none ∧ gallery.feedOutput = gallery ∧ gallery.link.intake.length < 4 := by
  decide +kernel

theorem witness_OutputChoosesNext :
    gallery.running = true ∧ gallery.link.output = some ⟨State.resetStartFrame, false⟩
      ∧ (queued 0 2).link.replies = [⟨1, 0x81, [0]⟩, ⟨1, 0x81, [0]⟩]
      ∧ { gallery with notices := [⟨.lineRestored, .line 1, 5⟩] }.notices = [⟨.lineRestored, .line 1, 5⟩]
      ∧ gallery.link.replies = [] ∧ gallery.notices = [] := by decide +kernel

/-- R164: the reply goes before the notice, and the notice record has the fields of R150 in their order. -/
theorem test_output_frame_sent :
    let n : Notice := ⟨.lineRestored, .line 1, 5⟩
    ((run (.outputFrameSent ⟨true, true⟩) { queued 0 1 with notices := [n] }).link.output.map (·.wire))
        = some [0xA5, 3, 1, 0x81, 0, 0x00, 0x85]
      ∧ n.frame.body = [6, 2, 3, 0, 1, 0, 0, 0, 5, 0]
      ∧ (run (.outputFrameSent ⟨true, true⟩) { gallery with notices := [n] }).notices = [] := by decide +kernel

/-! ## Zones -/

/-- The fields of ZONE DEFINE that spell `plain` with these three devices and ceiling, defaults sent as absent. -/
def fields (ceiling plant : Nat) (dimmer trim : Option DeviceAddr) : DefinitionFields :=
  { ceiling, floor := 25, policy := 0, uvRef := none, sensitivity := 1, electricLimit := none, derate := none, plant, dimmer,
    trim, banks := none, surgeThreshold := none, escalate := none }

def defined (ceiling : Nat) (plant : Option Nat) (dimmer trim : Option DeviceAddr) : Definition :=
  { plain with ceiling, plant, dimmer, trim }

theorem fields_fit {c p : Nat} (hc : c < 65536) (hp : p < 256) (d t : Option DeviceAddr) (hd : ∀ x ∈ d, x.fits)
    (ht : ∀ x ∈ t, x.fits) : (fields c p d t).fits := by
  simpa [DefinitionFields.fits, fields] using ⟨hc, hp, hd, ht⟩

theorem witness_ZoneDefineCreates :
    validZone 1 = true ∧ (fields 1000 2 none none).fits
      ∧ (fields 1000 2 none none).definition? = some (defined 1000 (some 2) none none)
      ∧ gallery.definitionRefused 1 (defined 1000 (some 2) none none) = none ∧ gallery.zone? 1 = none
      ∧ TakenUp (.zoneDefine 7 (be 1 1 ++ (fields 1000 2 none none).bytes)) gallery :=
  ⟨rfl, fields_fit (by decide) (by decide) _ _ (by simp) (by simp), by decide +kernel, by decide +kernel, by decide +kernel,
   ready (by decide +kernel)⟩

/-- One redefinition of zone 3 changes its plant, dimmer and trim device, the other of zone 16 its ceiling alone. -/
theorem witness_ZoneDefineReplaces :
    validZone 3 = true ∧ (fields 10 0 none none).fits
      ∧ (fields 50 0 none none).definition? = some (defined 50 none none none)
      ∧ gallery.definitionRefused 3 (defined 50 none none none) = none ∧ gallery.zone? 3 = some zone3
      ∧ zone3.defn.plant ≠ none ∧ zone3.defn.dimmer ≠ none ∧ zone3.defn.trim ≠ none
      ∧ TakenUp (.zoneDefine 7 (be 1 3 ++ (fields 50 0 none none).bytes)) gallery
      ∧ validZone 16 = true ∧ (fields 100 0 none none).definition? = some (defined 100 none none none)
      ∧ gallery.definitionRefused 16 (defined 100 none none none) = none ∧ gallery.zone? 16 = some zone16
      ∧ zone16.defn.plant = none ∧ zone16.defn.dimmer = none ∧ zone16.defn.trim = none
      ∧ TakenUp (.zoneDefine 7 (be 1 16 ++ (fields 100 0 none none).bytes)) gallery := by
  refine ⟨rfl, fields_fit (by decide) (by decide) _ _ (by simp) (by simp), ?_, ?_, ?_, ?_, ?_, ?_, ready ?_, ?_, ?_, ?_, ?_,
    ?_, ?_, ?_, ready ?_⟩ <;> decide +kernel

/-- R3: a device without an entry, one of another kind, and one that another zone names; R2: a ceiling of 9 and of 1001. -/
theorem test_zone_define_refusals :
    let ask (z : Nat) (f : DefinitionFields) : Option (List Byte) := answer (.zoneDefine 7 (be 1 z ++ f.bytes)) gallery
    ask 1 (fields 50 0 (some ⟨1, 99⟩) none) = some [0x14] ∧ ask 1 (fields 50 0 (some ⟨1, 20⟩) none) = some [0x15]
      ∧ ask 1 (fields 50 0 (some ⟨1, 14⟩) none) = some [0x15] ∧ ask 1 (fields 24 0 none none) = some [0x13]
      ∧ ask 1 (fields 1001 0 none none) = some [0x13] ∧ ask 17 (fields 50 0 none none) = some [0x13]
      ∧ ask 3 (fields 50 0 (some ⟨1, 14⟩) (some ⟨2, 40⟩)) = some [0] := by decide +kernel

/-- Two binding entries at the ends of their ranges: every climate device of line 2, and one light sensor of line 1. -/
def bindings : List Binding := [⟨2, 0, 0, .climate⟩, ⟨1, 127, 127, .light⟩, ⟨1, 20, 127, .light⟩, ⟨2, 65, 127, .climate⟩]

theorem witness_ZoneBindReplaces :
    gallery.zone? 3 = some zone3 ∧ bindings.length ≤ 4 ∧ (∀ b ∈ bindings, b.inRange)
      ∧ TakenUp (.zoneBind 7 (be 1 3 ++ counted Binding.bytes bindings)) gallery
      ∧ TakenUp (.zoneBind 7 (be 1 3 ++ counted Binding.bytes [])) gallery :=
  ⟨by decide +kernel, by decide, by simp [bindings, Binding.inRange, validLine], ready (by decide +kernel),
   ready (by decide +kernel)⟩

/-- R106: the reply counts what each entry binds. -/
theorem test_zone_bind :
    answer (.zoneBind 7 (be 1 3 ++ counted Binding.bytes bindings)) gallery = some [0, 4, 1, 0, 1, 1] := by decide +kernel

theorem witness_ZoneOpenAndClose :
    gallery.zone? 3 = some zone3 ∧ zone3.isOpen = true ∧ gallery.zone? 16 = some zone16 ∧ zone16.isOpen = false
      ∧ zone3.defn.dimmer = some ⟨1, 14⟩ ∧ gallery.line? 1 = some State.resetLine
      ∧ State.resetLine.state.takesCommands = true
      ∧ (gallery.openZone 16).zone? 16 = some { zone16 with isOpen := true } ∧ zone16.defn.dimmer = none
      ∧ TakenUp (.zoneOpen 7 [16]) gallery ∧ TakenUp (.zoneClose 7 [3]) gallery ∧ TakenUp (.zoneClose 7 [16]) gallery
      ∧ TakenUp (.zoneClose 7 [16]) (gallery.openZone 16) := by
  refine ⟨?_, ?_, ?_, ?_, ?_, ?_, ?_, ?_, ?_, ready ?_, ready ?_, ready ?_, ready ?_⟩ <;> decide +kernel

/-- R9: closing sends level 0 to the dimmer. -/
theorem test_zone_close :
    let t := run (.zoneClose 7 [3]) gallery
    (t.zone? 3).map (·.isOpen) = some false ∧ (t.line? 1).map (·.queue) = some [⟨14, 0, .governor 3⟩]
      ∧ t.configChanged = true := by decide +kernel

/-- A zone with two marks, RH_OUT whose condition holds and RH_SWING whose condition does not. -/
def marked : Zone :=
  { zone3 with marks := [.rhOut, .rhSwing], climate := { zone3.climate with rh := .outHigh } }

theorem witness_MarksClearTests :
    (gallery.putZone 3 marked).zone? 3 = some marked ∧ ([.rhOut, .rhSwing] : List Mark).length < 256
      ∧ (∃ m ∈ ([.rhOut, .rhSwing] : List Mark), marked.markHolds 1000 m = true)
      ∧ (∀ m ∈ ([.rhSwing] : List Mark), marked.markHolds 1000 m = false)
      ∧ TakenUp (.marksClear 7 (be 1 3 ++ counted (fun (m : Mark) => be 1 m.code) [.rhOut, .rhSwing])) (gallery.putZone 3 marked)
      ∧ TakenUp (.marksClear 7 (be 1 3 ++ counted (fun (m : Mark) => be 1 m.code) [.rhSwing])) (gallery.putZone 3 marked)
      ∧ (gallery.putZone 3 marked).report.mode = .level :=
  ⟨by decide +kernel, by decide, ⟨.rhOut, by decide, by decide +kernel⟩, by decide +kernel, ready (by decide +kernel),
   ready (by decide +kernel), rfl⟩

/-- R18: PARTIAL with the mark kept; an unnamed mark stays, and a mark code of 11 is refused. -/
theorem test_marks_clear :
    answer (.marksClear 7 [3, 2, 1, 0]) (gallery.putZone 3 marked) = some [2, 1, 0]
      ∧ ((run (.marksClear 7 [3, 2, 1, 0]) (gallery.putZone 3 marked)).zone? 3).map (·.marks) = some [.rhOut]
      ∧ answer (.marksClear 7 [3, 1, 11]) (gallery.putZone 3 marked) = some [0x13] := by decide +kernel

/-! ## Accounts -/

theorem witness_SeasonsAndAdjustment :
    gallery.zone? 3 = some zone3 ∧ TakenUp (.seasonBegin 7 (be 1 3 ++ be 4 1 ++ be 2 1)) gallery
      ∧ TakenUp (.seasonBegin 7 (be 1 3 ++ be 4 300000000 ++ be 2 8784)) gallery ∧ TakenUp (.seasonEnd 7 (be 1 3)) gallery
      ∧ TakenUp (.accountAdjust 7 (be 1 3 ++ be 6 1099511627775 ++ be 4 4294967295)) gallery
      ∧ TakenUp (.accountAdjust 7 (be 1 3 ++ be 6 1099511627776 ++ be 4 0)) gallery
      ∧ TakenUp (.accountAdjust 7 (be 1 3 ++ be 6 281474976710655 ++ be 4 0)) gallery := by
  refine ⟨?_, ready ?_, ready ?_, ready ?_, ready ?_, ready ?_, ready ?_⟩ <;> decide +kernel

/-- R34: at the limit the flag is clear and SATURATED is marked; above it the dose is clamped and the flag set. -/
theorem test_account_adjust :
    let t (d : Nat) : Option (Nat × Bool × List Mark) :=
      ((run (.accountAdjust 7 (be 1 3 ++ be 6 d ++ be 4 9)) gallery).zone? 3).map fun r =>
        (r.account.dose, r.account.saturated, r.marks)
    t 1099511627774 = some (1099511627774, false, []) ∧ t 1099511627775 = some (1099511627775, false, [.saturated])
      ∧ t 1099511627776 = some (1099511627775, true, [.saturated]) := by decide +kernel

/-- R30: an allowance of 0 or 300,000,001 and hours of 0 or 8785 are refused. -/
theorem test_season_begin :
    ([(0, 1), (300000001, 1), (1, 0), (1, 8785)] : List (Nat × Nat)).all (fun q =>
        answer (.seasonBegin 7 (be 1 3 ++ be 4 q.1 ++ be 2 q.2)) gallery = some [0x13]) = true
      ∧ ((run (.seasonBegin 7 (be 1 3 ++ be 4 2 ++ be 2 3)) { gallery with clock := 55 }).zone? 3).map (·.account.season)
        = some (some ⟨2, 3, 55⟩) := by decide +kernel

/-- Zone 3 with this last sample clock value, its LIGHT channel valid at this illuminance, or BLIND. -/
def sampled (last lux : Option Nat) (blind : Bool) : State :=
  { withZone (fun r => { r with
      account := { r.account with lastSample := last }
      measure := { r.measure with illuminance := lux, light := ⟨blind, 990⟩ } }) with clock := 100 }

theorem witness_LightSampleIntegrates :
    ([sampled none none true, sampled (some 101) none false, sampled (some 100) (some 5) false,
      sampled (some 40) (some 5) false, sampled (some 39) (some 5) true] : List State).all (fun s =>
        s.running && (s.zone? 3).any fun r => decide (r.sampleDue ≤ s.now)) = true
      ∧ 100 - 40 ≤ 60 ∧ 60 < 100 - 39 := by decide +kernel

/-- R22, R23, R25: elapsed 10, 10, 0, 60 and 60 s; BLIND or empty, an OPEN zone is charged its ceiling of 50 at weight 1024. -/
theorem test_light_sample :
    ([sampled none none true, sampled (some 101) none false, sampled (some 100) (some 5) false,
      sampled (some 40) (some 5) false, sampled (some 39) (some 5) true] : List State).map (fun s =>
        ((run (.lightSample 3) s).zone? 3).map fun r => (r.account.dose, r.account.openSeconds, r.account.lastSample))
      = [some (500, 10, some 100), some (500, 10, some 100), some (0, 0, some 100), some (300, 60, some 100),
         some (3000, 60, some 100)] := by decide +kernel

theorem witness_SamplesLoseNothing :
    ((⟨0, 0, 0, none, none, false⟩ : Account).sampledAll [⟨10, 180, 1297, true⟩, ⟨20, 180, 1297, true⟩]).dose
      < 1099511627775 := by decide +kernel

/-! ## Light and banks -/

theorem witness_ReviewTargetRange :
    defn.floor ≤ defn.ceiling ∧ defn.policy = .visibility
      ∧ (⟨3600, 0, 0, some ⟨1, 1, 0⟩, none, false⟩ : Account).season = some ⟨1, 1, 0⟩
      ∧ (((⟨1, 1, 0⟩ : Season).allowance * 3600 : Int) - 3600 ≤ 0) := by decide +kernel

/-- Zone 3 under review at target 50: its LIGHT channel at this illuminance, dimmer and louvre demand. -/
def reviewed (lux dimmer louvre : Nat) (isOpen blind : Bool) (temp : BandState) : State :=
  withZone fun r => { r with
    isOpen, light := { r.light with dimmer, louvre, refreshOwed := false }
    climate := { r.climate with temp }
    measure := { r.measure with illuminance := some lux, uvRatio := some 75, light := ⟨blind, 990⟩ } }

/-- States for each clause: closed, blind, at and just beyond each edge of the dead band of 5, with the dimmer on and off. -/
def reviews : List State :=
  [reviewed 50 40 30 false false .inBand, reviewed 99 40 30 true true .inBand, reviewed 56 40 30 true false .inBand,
   reviewed 56 0 30 true false .inBand, reviewed 55 40 30 true false .inBand, reviewed 45 40 30 true false .inBand,
   reviewed 44 40 30 true false .inBand, reviewed 44 40 0 true false .inBand, reviewed 50 80 30 true false .outHigh]

theorem witness_LightReviewGoverns :
    reviews.all (fun s => s.running && (s.zone? 3).any fun r => decide (r.reviewDue ≤ s.now) && !r.light.refreshOwed
        && r.defn.dimmer == some ⟨1, 14⟩) = true
      ∧ gallery.line? 1 = some State.resetLine ∧ State.resetLine.state.takesCommands = true := by decide +kernel

/-- R44 to R48: the dimmer level, the louvre demand and the dimmer command of each. -/
theorem test_light_reviews :
    reviews.map (fun s => let t := run (.lightReview 3) s
      ((t.zone? 3).map fun r => (r.light.dimmer, r.light.louvre), (t.line? 1).map fun r => r.queue.map (·.value)))
      = [(some (0, 100), some [0]), (some (40, 30), some []), (some (30, 30), some [30]), (some (0, 40), some []),
         (some (40, 30), some []), (some (40, 30), some []), (some (40, 20), some []), (some (50, 0), some [50]),
         (some (60, 30), some [60])] := by decide +kernel

theorem witness_BankDefineCloses :
    validBank 1 = true ∧ validBank 3 = true ∧ (⟨2, 126⟩ : DeviceAddr).inRange = true ∧ (∀ v ∈ some 1, 1 ≤ v ∧ v ≤ 50)
      ∧ (∀ v ∈ some 50, 1 ≤ v ∧ v ≤ 50) ∧ gallery.device? ⟨2, 126⟩ = some (active 2 126 .louvre)
      ∧ (active 2 126 .louvre).kind = .louvre ∧ gallery.bank? 1 = none ∧ gallery.bank? 3 = some bank3
      ∧ (∀ k r, gallery.bank? k = some r → r.louvre ≠ ⟨2, 126⟩)
      ∧ gallery.line? 2 = some State.resetLine ∧ State.resetLine.state.takesCommands = true
      ∧ TakenUp (.bankDefine 7 (be 1 1 ++ be 1 2 ++ be 1 126 ++ Machine.optional (be 1) none)) gallery
      ∧ TakenUp (.bankDefine 7 (be 1 3 ++ be 1 2 ++ be 1 126 ++ Machine.optional (be 1) (some 50))) gallery := by
  refine ⟨?_, ?_, ?_, by simp, by simp, ?_, ?_, ?_, ?_, forBanks ?_, ?_, ?_, ready ?_, ready ?_⟩ <;> decide +kernel

/-- R51: refusals in their order: a slew of 51, a device without an entry, one of another kind, one another bank names. -/
theorem test_bank_define :
    answer (.bankDefine 7 [1, 2, 99, 1, 51]) gallery = some [0x13] ∧ answer (.bankDefine 7 [1, 2, 99, 0]) gallery = some [0x14]
      ∧ answer (.bankDefine 7 [1, 1, 14, 0]) gallery = some [0x15] ∧ answer (.bankDefine 7 [1, 1, 22, 0]) gallery = some [0x15]
      ∧ answer (.bankDefine 7 [3, 1, 22, 0]) gallery = some [0] := by decide +kernel

/-- Bank 3 at this commanded closure, zone 3 asking for this closure, line 1 in this state. -/
def stepping (commanded louvre : Nat) (state : LineState) : State :=
  ((withLight (fun l => { l with louvre }) id).putBank 3 { bank3 with commanded }).modLine 1 fun r => { r with state }

theorem witness_BankStepFollowsDemands :
    ([stepping 100 85 .active, stepping 40 45 .disabled, stepping 60 60 .active, stepping 60 0 .off] : List State).all (fun s =>
      s.running && (s.bank? 3).any (fun r => decide (r.stepDue ≤ s.now)) && (s.line? 1).isSome) = true := by decide +kernel

/-- R53, R54: by at most the slew of 10, down, up and not at all; a command where it moved; FAULTED where it fails at once. -/
theorem test_bank_steps :
    ([stepping 100 85 .active, stepping 40 45 .disabled, stepping 60 60 .active, stepping 60 0 .off] : List State).map (fun s =>
      let t := run (.bankStep 3) s
      ((t.bank? 3).map (fun r => (r.target, r.commanded, r.state)), (t.line? 1).map fun r => r.queue.map (·.value)))
      = [(some (85, 90, .active), some [90]), (some (45, 45, .faulted), some []), (some (60, 60, .active), some []),
         (some (0, 50, .faulted), some [])] := by decide +kernel

theorem witness_PlacedCommandsQueueOrFail :
    let busyLine (q : List Command) : State := withLine 1 fun r => { r with queue := q }
    let dead : State := (withLine 1 fun r => { r with state := .disabled }).modLine 2 fun r => { r with state := .off }
    (busyLine [⟨22, 1, .bank 3⟩]).line? 1 = some { State.resetLine with queue := [⟨22, 1, .bank 3⟩] }
      ∧ ([⟨22, 1, .bank 3⟩] : List Command) = [] ++ ⟨22, 1, .bank 3⟩ :: []
      ∧ (([⟨22, 1, .bank 3⟩] : List Command).map (·.address)).Nodup
      ∧ (∀ x ∈ ([⟨22, 1, .bank 3⟩] : List Command), x.address ≠ 14)
      ∧ (dead.line? 1).map (·.state.takesCommands) = some false ∧ (dead.line? 2).map (·.state.takesCommands) = some false
      ∧ dead.issuerNames (.governor 16) ⟨1, 14⟩ = false ∧ dead.zone? 3 = some zone3 ∧ zone3.defn.dimmer = some ⟨1, 14⟩
      ∧ dead.bank? 3 = some bank3 ∧ bank3.louvre = ⟨1, 22⟩ ∧ zone3.defn.trim = some ⟨2, 40⟩
      ∧ zone3.climate.trimUnavailable = false ∧ dead.plant? 1 = some plant1 ∧ plant1.controller = ⟨1, 30⟩
      ∧ plant1.state ≠ .faulted := by decide +kernel

/-! ## Plants -/

theorem witness_PlantDefineCreates :
    let s := { gallery with plants := State.reset.plants }
    validPlant 1 = true ∧ validPlant 2 = true ∧ (⟨1, 30⟩ : DeviceAddr).inRange = true
      ∧ s.device? ⟨1, 30⟩ = some (active 1 30 .plantController) ∧ (active 1 30 .plantController).kind = .plantController
      ∧ (∀ p r, s.plant? p = some r → r.controller ≠ ⟨1, 30⟩) ∧ s.plant? 1 = none ∧ s.plant? 2 = none
      ∧ s.line? 1 = some State.resetLine ∧ (∀ p r, gallery.plant? p = some r → p ≠ 1 → r.controller ≠ ⟨1, 30⟩)
      ∧ gallery.plant? 1 = some plant1 ∧ plant1.controller = ⟨1, 30⟩
      ∧ TakenUp (.plantDefine 7 (be 1 1 ++ be 1 1 ++ be 1 30)) s ∧ TakenUp (.plantDefine 7 (be 1 2 ++ be 1 1 ++ be 1 30)) s
      ∧ TakenUp (.plantDefine 7 (be 1 1 ++ be 1 1 ++ be 1 30)) gallery := by
  refine ⟨?_, ?_, ?_, ?_, ?_, forPlants ?_, ?_, ?_, ?_, forPlants ?_, ?_, ?_, ready ?_, ready ?_, ready ?_⟩ <;> decide +kernel

def demand3 : Demand := ⟨3, .humidify, 3, 1⟩

/-- Plant 1 RUNNING HUMIDIFY for zone 3, its minimum run about to end. -/
def running1 : Plant :=
  { plant1 with state := .running, physical := .humidify, commanded := .humidify, target := .humidify, service := [demand3],
                serviceLevel := 3, arrivals := 2, minRunDue := some 1000 }

def runningPlant (f : Plant → Plant) : State := gallery.putPlant 1 (f running1)

theorem witness_PlantHoldHolds :
    validPlant 1 = true ∧ (runningPlant id).plant? 1 = some running1 ∧ running1.state ≠ .faulted
      ∧ (runningPlant id).line? 1 = some State.resetLine ∧ validPlant 2 = true ∧ (runningPlant id).plant? 2 = none
      ∧ (runningPlant fun r => { r with state := .faulted }).plant? 1 = some { running1 with state := .faulted }
      ∧ TakenUp (.plantHold 7 (be 1 1 ++ be 1 Duty.neutral.code)) (runningPlant id)
      ∧ TakenUp (.plantHold 7 (be 1 1 ++ be 1 Duty.cool.code)) (runningPlant id)
      ∧ TakenUp (.plantHold 7 (be 1 2 ++ be 1 Duty.dry.code)) (runningPlant id) := by
  refine ⟨?_, ?_, ?_, ?_, ?_, ?_, ?_, ready ?_, ready ?_, ready ?_⟩ <;> decide +kernel

/-- R99: a duty code of 5 is refused; a hold returns the served demand. -/
theorem test_plant_hold :
    answer (.plantHold 7 [1, 5]) (runningPlant id) = some [0x13]
      ∧ ((run (.plantHold 7 [1, 4]) (runningPlant id)).plant? 1).map (fun r => (r.state, r.commanded, r.service, r.waiting))
        = some (.held, .cool, [], [demand3]) := by decide +kernel

def heldPlant (waiting : List Demand) (physical : Duty) : State :=
  gallery.putPlant 1 { plant1 with state := .held, target := .dry, commanded := .dry, physical, waiting, arrivals := 2 }

theorem witness_PlantReleaseSelects :
    validPlant 1 = true ∧ validPlant 2 = true ∧ (∀ r, (heldPlant [] .dry).plant? 2 = some r → r.state ≠ .held)
      ∧ ([heldPlant [] .dry, heldPlant [demand3] .humidify, heldPlant [demand3] .dry] : List State).all (fun s =>
          (s.plant? 1).any (fun r => r.state == .held && r.service.isEmpty) && (s.line? 1).any (·.state.takesCommands)) = true
      ∧ TakenUp (.plantRelease 7 [1]) (heldPlant [] .dry) ∧ TakenUp (.plantRelease 7 [2]) (heldPlant [] .dry) :=
  ⟨by decide, by decide, by intro r h; exact absurd h (by decide +kernel +revert), by decide +kernel, ready (by decide +kernel),
   ready (by decide +kernel)⟩

/-- R100, R85, R86, R92: IDLE with nothing waiting; RUNNING where the plant is in the duty; else CHANGEOVER. -/
theorem test_plant_release :
    ([heldPlant [] .dry, heldPlant [demand3] .humidify, heldPlant [demand3] .dry] : List State).map (fun s =>
      ((run (.plantRelease 7 [1]) s).plant? 1).map fun r => (r.state, r.target, r.minRunDue, r.changeDue))
      = [some (.idle, .neutral, none, none), some (.running, .humidify, some 1600, none),
         some (.changeover, .humidify, none, some 1120)] := by decide +kernel

/-- Plant 1 in CHANGEOVER toward HUMIDIFY, its timer about to expire. -/
def changing (acked : Bool) : Plant :=
  { running1 with state := .changeover, minRunDue := none, changeDue := some 1000, changeAcked := acked }

theorem witness_PlantTimersExpire :
    let waits (level : Nat) : Plant := { running1 with waiting := [⟨16, .heat, level, 2⟩] }
    gallery.running = true ∧ 1000 ≤ gallery.now ∧ (gallery.putPlant 1 (waits 3)).plant? 1 = some (waits 3)
      ∧ (∀ h, (waits 3).waiting.head? = some h → h.level ≤ (waits 3).serviceLevel)
      ∧ (waits 4).settled ∧ (waits 4).serviceRight
      ∧ (∃ h, (waits 4).waiting.head? = some h ∧ (waits 4).serviceLevel < h.level)
      ∧ (gallery.putPlant 1 (changing false)).plant? 1 = some (changing false)
      ∧ (gallery.putPlant 1 (changing true)).plant? 1 = some (changing true) ∧ (changing true).service ≠ []
      ∧ (changing true).commanded = (changing true).target
      ∧ ∀ z x, (gallery.putPlant 1 (changing true)).zone? z = some x → x.climate.pulse = none := by
  refine ⟨rfl, by decide, by decide +kernel, ?_, ?_, ?_, ⟨_, rfl, by decide⟩, by decide +kernel, by decide +kernel,
    by decide +kernel, by decide +kernel, forZones (by decide +kernel)⟩
  · intro h hh; cases hh; decide
  · unfold Plant.settled; decide +kernel
  · unfold Plant.serviceRight; decide +kernel

/-- R90, R91 and R93: a demand at the service level waits; one above it preempts; an acknowledged changeover completes. -/
theorem test_plant_timers :
    let waits (level : Nat) : State := runningPlant fun r => { r with waiting := [⟨16, .heat, level, 2⟩] }
    ((run (.minimumRunExpiry 1) (waits 3)).plant? 1).map (fun r => (r.state, r.minRunElapsed)) = some (.running, true)
      ∧ ((run (.minimumRunExpiry 1) (waits 4)).plant? 1).map (fun r => (r.state, r.target)) = some (.changeover, .heat)
      ∧ ((run (.changeoverTimerExpiry 1) (gallery.putPlant 1 (changing false))).plant? 1).map
          (fun r => (r.state, r.changeExpired)) = some (.changeover, true)
      ∧ ((run (.changeoverTimerExpiry 1) (gallery.putPlant 1 (changing true))).plant? 1).map
          (fun r => (r.state, r.minRunDue)) = some (.running, some 1600) := by decide +kernel

/-! ## Climate -/

/-- Zone 3 bound to sensor 2-65, which has just reported this RH and 200, or to nothing. -/
def sensing (rh : Option Nat) : State :=
  { withZone (fun r => { r with measure := { r.measure with
      bindings := if rh.isSome then [⟨2, 65, 127, .climate⟩] else [], climate := ⟨false, 970⟩ } }) with
    devices := gallery.devices.map fun e =>
      if e.address = 65 then
        { e with reading := rh.map fun v => ⟨none, none, some ⟨v, true⟩, some ⟨200, true⟩, 0, 970⟩ }
      else e }

theorem witness_ClimateReviewTracks :
    ([none, some 465, some 464, some 550, some 551] : List (Option Nat)).all (fun v =>
        (sensing v).running && ((sensing v).zone? 3).any (fun r => decide (r.climateDue ≤ 1000) && decide (r.band = some band))
          && ((sensing v).zone? 16).isSome) = true
      ∧ band.rhGuard ≤ band.rhHalf ∧ ((465 : Int) - 500).natAbs = band.rhHalf - band.rhGuard
      ∧ ((550 : Int) - 500).natAbs = band.rhHalf := by decide +kernel

/-- R63, R64, R71: BLIND at 30 s since the last fresh moment; IN and DRIFT LOW, DRIFT HIGH and OUT HIGH at their edges, a
reading 30 s old being fresh; a drift is met by a trim pulse. -/
theorem test_climate_reviews :
    let after : List State := [none, some 465, some 464, some 550, some 551].map fun v => run (.climateReview 3) (sensing v)
    after.map (fun t => (t.zone? 3).map fun r => (r.measure.climate.blind, r.climate.rh))
        = [some (true, .unclassified), some (false, .inBand), some (false, .driftLow), some (false, .driftHigh),
           some (false, .outHigh)]
      ∧ after.map (fun t => (t.zone? 3).map (·.marks)) = [some [.blindClimate], some [], some [], some [], some [.rhOut]]
      ∧ after.map (fun t => (t.line? 2).map fun r => r.queue.map (·.value))
        = [some [], some [], some [1], some [2], some [2]] := by decide +kernel

def pulsing (due : Nat) : State :=
  withZone fun r => { r with climate := { r.climate with pulse := some ⟨.dry, ⟨2, 40⟩, due⟩ } }

theorem witness_PulseEndPlacesOff :
    (pulsing 1000).running = true ∧ ((pulsing 1000).zone? 3).bind (·.climate.pulse) = some ⟨.dry, ⟨2, 40⟩, 1000⟩
      ∧ 1000 ≤ (pulsing 1000).now ∧ (pulsing 1000).line? 2 = some State.resetLine
      ∧ ((pulsing 1001).zone? 3).bind (·.climate.pulse) = some ⟨.dry, ⟨2, 40⟩, 1001⟩ ∧ (pulsing 1001).now < 1001 := by
  decide +kernel

/-- R72. -/
theorem test_pulse_end :
    ((run (.pulseEndExpiry 3) (pulsing 1000)).line? 2).map (·.queue) = some [⟨40, 0, .tracker 3⟩]
      ∧ run (.pulseEndExpiry 3) (pulsing 1001) = pulsing 1001 := by decide +kernel

def leastBand : Band := ⟨300, 10, 0, 10, 100, 5, 0, 0⟩
def greatestBand : Band := ⟨700, 200, 200, 400, 300, 100, 100, 15⟩

theorem witness_BandAndOccupancy :
    gallery.zone? 3 = some zone3 ∧ gallery.zone? 16 = some zone16 ∧ zone3.defn.surgeThreshold = some 30
      ∧ zone16.defn.surgeThreshold = none ∧ leastBand.inRange = true ∧ greatestBand.inRange = true
      ∧ TakenUp (.climateBand 7 (be 1 3 ++ leastBand.sent)) gallery
      ∧ TakenUp (.climateBand 7 (be 1 16 ++ greatestBand.sent)) gallery
      ∧ TakenUp (.occupancy 7 (be 1 3 ++ be 2 30)) gallery ∧ TakenUp (.occupancy 7 (be 1 16 ++ be 2 65535)) gallery := by
  refine ⟨?_, ?_, ?_, ?_, ?_, ?_, ready ?_, ready ?_, ready ?_, ready ?_⟩ <;> decide +kernel

/-- R60, R61: a guard above its half-width is refused; an allowance of 0 clamps the trim count. R114, R115: the clamp, and
surge at the threshold of 30. -/
theorem test_band_and_occupancy :
    answer (.climateBand 7 (be 1 3 ++ { leastBand with rhGuard := 11 }.sent)) gallery = some [0x13]
      ∧ ((run (.climateBand 7 (be 1 3 ++ leastBand.sent)) gallery).zone? 3).map (·.climate.trimCount) = some 0
      ∧ answer (.occupancy 7 [3, 0, 29]) gallery = some [0, 0, 29, 1] ∧ answer (.occupancy 7 [3, 0, 30]) gallery = some [0, 0, 30, 0]
      ∧ answer (.occupancy 7 [16, 0x27, 0x10]) gallery = some [0, 0x27, 0x0F, 1] := by decide +kernel

/-! ## Lines and devices -/

/-- Line 1 with a poll of sensor 1-20 awaiting its reply, this many retries used. -/
def polling (retries : Nat) : State :=
  withLine 1 fun r => { r with inFlight := some ⟨.poll, 20, retries, none, true⟩, hangCount := 2 }

def enrolling : State := withLine 2 fun r => { r with state := .enrolling, enrolment := some ⟨40, 0, 0, 0, 0⟩ }

theorem witness_LineTakesUpWork :
    let q : State := withLine 1 fun r => { r with queue := [⟨14, 5, .governor 3⟩] }
    let w : State := withLine 1 fun r => { r with inFlight := some ⟨.poll, 20, 1, some .noReply, false⟩ }
    gallery.running = true ∧ gallery.line? 1 = some State.resetLine ∧ State.resetLine.roundDue = some 2 ∧ 2 ≤ gallery.now
      ∧ State.resetLine.roundInProgress = true
      ∧ ((withLine 1 fun r => { r with roundInProgress := false }).line? 1).map (·.roundInProgress) = some false
      ∧ (q.line? 1).map (·.queue) = some [⟨14, 5, .governor 3⟩] ∧ State.resetLine.queue = []
      ∧ gallery.nextPoll 1 State.resetLine = some (active 1 14 .dimmer)
      ∧ (w.line? 1).bind (·.inFlight) = some ⟨.poll, 20, 1, some .noReply, false⟩
      ∧ (enrolling.line? 2).map (·.state) = some .enrolling
      ∧ (enrolling.line? 2).bind (·.enrolment) = some ⟨40, 0, 0, 0, 0⟩ := by decide +kernel

/-- R140: the queued command goes before the poll of the round; its packet is SET (52 hex). R139: a round timer alone starts
the next round. R126: the probe. -/
theorem test_line_work :
    ((run (.transactionTakeUp 1) (withLine 1 fun r => { r with queue := [⟨14, 5, .governor 3⟩] })).line? 1).map
        (fun r => (r.queue, r.sent.map (·.data))) = some ([], [0x0E, 0x52, 0x01, 0x05, 0x9A])
      ∧ ((run (.transactionTakeUp 1) gallery).line? 1).map (fun r => (r.pollPos, r.sent.map (·.data))) = some (14, [0x0E, 0x50, 0x00, 0xA2])
      ∧ ((run (.roundTimerExpiry 1) (withLine 1 fun r => { r with roundInProgress := false, roundCounter := 9 })).line? 1).map
          (fun r => (r.roundCounter, r.roundInProgress, r.roundDue)) = some (0, true, some 1002)
      ∧ ((run (.enrolProbeSend 2) enrolling).line? 2).map (·.sent.map (·.data)) = some [0x28, 0x51, 0x00, 0x87] := by decide +kernel

theorem witness_ReplyPacketsAreRead :
    (255 < 256 ∧ (List.replicate 9 (0 : Byte)).length ≤ 12
        ∧ contentSuits (some (active 1 255 .lightClimateSensor)) (List.replicate 9 0) .poll = true)
      ∧ contentSuits (some (active 1 14 .dimmer)) [100] .poll = true
      ∧ contentSuits (some (active 1 14 .dimmer)) [100] (.set 100 (.governor 3)) = true
      ∧ contentSuits none [7] .ident = true := by decide +kernel

/-- R134: each test in its order, on replies to a poll of dimmer 1-14. -/
theorem test_classing :
    let e := some (active 1 14 .dimmer)
    classifyPacket .poll 14 e (replyPacket 14 0xD0 [100]) = .ok [100]
      ∧ classifyPacket .poll 14 e (replyPacket 14 0xD0 [101]) = .failed .wrongReply
      ∧ classifyPacket .poll 14 e (replyPacket 15 0xD0 [100]) = .failed .wrongReply
      ∧ classifyPacket .poll 14 e (replyPacket 14 0xD2 [100]) = .failed .wrongReply
      ∧ classifyPacket .poll 14 e (replyPacket 14 0xD0 (List.replicate 13 0)) = .failed .garbled
      ∧ classifyPacket .poll 14 e ((replyPacket 14 0xD0 [100]).set 3 ⟨99, false, true⟩) = .failed .garbled
      ∧ classifyPacket .poll 14 e ((replyPacket 14 0xD0 [100]).set 3 ⟨100, false, true⟩) = .failed .garbled
      ∧ classifyPacket .poll 14 e ((replyPacket 15 0xD0 [100]).set 3 ⟨100, true, false⟩) = .failed .garbled := by decide +kernel

theorem witness_PollSucceeds :
    (polling 3).running = true
      ∧ ((polling 3).line? 1).bind (·.inFlight) = some ⟨.poll, 20, 3, none, true⟩
      ∧ (polling 3).device? ⟨1, 20⟩ = some (active 1 20 .lightSensor) ∧ (active 1 20 .lightSensor).mismatch = false
      ∧ (polling 3).owner? ⟨1, 20⟩ = none ∧ ([0, 180, 0, 95, 0] : List Byte).length ≤ 12
      ∧ DeviceKind.lightSensor.suits [0, 180, 0, 95, 0] = true ∧ ((polling 3).line? 1).map (·.enrolment) = some none := by
  decide +kernel

/-- R120, R137: the reading of a light sensor whose UV ratio carries its self-check flag, 6000 recorded as 5000. -/
theorem test_poll_reading :
    let t := run (.replyComplete 1 (replyPacket 20 0xD0 [0, 180, 0x17, 0x70, 2])) (polling 3)
    (t.device? ⟨1, 20⟩).bind (·.reading) = some ⟨some ⟨180, true⟩, some ⟨5000, false⟩, none, none, 0, 1000⟩
      ∧ (t.line? 1).map (fun r => (r.hangCount, r.inFlight)) = some (0, none) := by decide +kernel

/-- R120: a temperature of -401 is recorded as received and invalid, one of -400 valid; an RH of 1001 as 1000. -/
theorem test_climate_reading :
    readingOf .climateSensor [0x03, 0xE9, 0xFE, 0x6F, 0] 5 6 = some ⟨none, none, some ⟨1000, true⟩, some ⟨-401, false⟩, 5, 6⟩
      ∧ readingOf .climateSensor [0x03, 0xE8, 0xFE, 0x70, 4] 5 6
        = some ⟨none, none, some ⟨1000, false⟩, some ⟨-400, true⟩, 5, 6⟩ := by decide +kernel

theorem witness_AttemptTimesOut :
    (polling 2).running = true ∧ ((polling 2).line? 1).bind (·.inFlight) = some ⟨.poll, 20, 2, none, true⟩
      ∧ ((polling 2).line? 1).map (·.retryLimit) = some 3 ∧ (Ask.poll ≠ .ident) ∧ 2 < 3 ∧ 3 ≤ 3
      ∧ ((polling 3).line? 1).bind (·.inFlight) = some ⟨.poll, 20, 3, none, true⟩
      ∧ ((polling 3).line? 1).map (·.enrolment) = some none
      ∧ (polling 3).device? ⟨1, 20⟩ = some (active 1 20 .lightSensor) ∧ (polling 3).owner? ⟨1, 20⟩ = none
      ∧ (active 1 20 .lightSensor).state ≠ .faulted ∧ (active 1 20 .lightSensor).state ≠ .absent
      ∧ (active 1 20 .lightSensor).failures < 255 := by decide +kernel

/-- R123: the first final failure makes the entry SUSPECT, the third FAULTED with its notice. -/
theorem test_final_failures :
    let after (failures : Nat) : State := run (.replyTimeout 1 []) { polling 3 with
      devices := [{ active 1 20 .lightSensor with failures }] }
    ((after 0).device? ⟨1, 20⟩).map (fun e => (e.state, e.failures)) = some (.suspect, 1) ∧ (after 0).notices = []
      ∧ ((after 2).device? ⟨1, 20⟩).map (fun e => (e.state, e.failures)) = some (.faulted, 3)
      ∧ (after 2).notices.map (·.body) = [.deviceFault 1 20 .noReply 3] := by decide +kernel

/-- Line 1 with this hang count, a SET in flight and a command queued. -/
def hanging (hangCount : Nat) : State :=
  withLine 1 fun r => { r with
    hangCount, queue := [⟨14, 5, .governor 3⟩], inFlight := some ⟨.set 60 (.bank 3), 22, 1, none, true⟩ }

def recovering : State :=
  withLine 1 fun r => { r with state := .recovering, hangCount := 1, releasing := true, recoveryDue := some 1000 }

theorem witness_HangsAreRecovered :
    (hanging 0).running = true ∧ ((hanging 0).line? 1).map (fun r => (r.state, r.enrolment, r.hangCount)) = some (.active, none, 0)
      ∧ ((hanging 1).line? 1).map (·.hangCount) = some 1 ∧ (recovering.line? 1).map (·.state) = some .recovering
      ∧ (recovering.line? 1).map (·.releasing) = some true ∧ (recovering.line? 1).bind (·.recoveryDue) = some 1000
      ∧ 1000 ≤ recovering.now ∧ (recovering.line? 1).map (·.roundInProgress) = some true
      ∧ (recovering.line? 1).map (·.enrolment) = some none := by decide +kernel

theorem witness_ThirdHangDisables :
    (hanging 2).running = true ∧ ((hanging 2).line? 1).map (fun r => (r.state, r.hangCount)) = some (.active, 2)
      ∧ ((hanging 2).line? 1).map (·.queue) = some [⟨14, 5, .governor 3⟩] ∧ (⟨1, 14⟩ : DeviceAddr).line = 1
      ∧ (hanging 2).zone? 3 = some zone3 ∧ zone3.defn.dimmer = some ⟨1, 14⟩
      ∧ ((withLine 2 fun r => { r with state := .enrolling, hangCount := 2 }).line? 2).map
          (fun r => (r.state, r.hangCount)) = some (.enrolling, 2) := by decide +kernel

/-- R146: the notices in their order, the abandoned SET's failure to bank 3 and the queued command's to zone 3; R144: a first
hang keeps the transaction. -/
theorem test_hangs :
    let t := run (.hangDetected 1) (hanging 2)
    t.notices.map (·.body) = [.lineHung 3 (some (22, 0x52)), .lineDisabled, .commandsDiscarded 2]
      ∧ (t.bank? 3).map (·.state) = some .faulted ∧ (t.zone? 3).map (·.light.refreshOwed) = some true ∧ t.alarm = true
      ∧ ((run (.hangDetected 1) (hanging 0)).line? 1).map (fun r => (r.state, r.inFlight))
        = some (.recovering, some ⟨.set 60 (.bank 3), 22, 1, none, false⟩) := by decide +kernel

/-- R144, R145: the end of the release starts the wait of 2 s, its expiry makes the line ACTIVE, and the request kept is sent
again. -/
theorem test_recovery_of_a_line :
    ((run (.releaseEnd 1) recovering).line? 1).bind (·.recoveryDue) = some 1002
      ∧ ((run (.recoveryWaitExpiry 1) recovering).line? 1).map (·.state) = some .active
      ∧ ((run (.attemptRetry 1) (withLine 1 fun r => { r with
          inFlight := some ⟨.set 60 (.bank 3), 22, 1, none, false⟩ })).line? 1).map (·.sent.map (·.data))
        = some [0x16, 0x52, 0x01, 0x3C, 0x5B] := by decide +kernel

theorem witness_LineRequests :
    let lineIn (state : LineState) : State := withLine 1 fun r => { r with state }
    gallery.line? 1 = some State.resetLine ∧ State.resetLine.state = .active ∧ State.resetLine.enrolment = none
      ∧ (0 : Byte).toNat ≤ 7 ∧ (7 : Byte).toNat ≤ 7 ∧ TakenUp (.lineSet 7 [1, 0]) gallery ∧ TakenUp (.lineSet 7 [1, 7]) gallery
      ∧ TakenUp (.lineEnrol 7 [1]) gallery ∧ TakenUp (.lineEnrol 7 [1]) (lineIn .off)
      ∧ TakenUp (.lineEnrol 7 [1]) (lineIn .enrolling) ∧ TakenUp (.lineEnable 7 [1]) (lineIn .off)
      ∧ TakenUp (.lineEnable 7 [1]) (lineIn .recovering) ∧ TakenUp (.lineEnable 7 [1]) (lineIn .disabled)
      ∧ (lineIn .disabled).report.floor ≤ 2 ∧ (lineIn .disabled).notices.length < 32
      ∧ (lineIn .disabled).report.mode = .level ∧ validLine (0 : Byte).toNat = false ∧ validLine (3 : Byte).toNat = false
      ∧ 7 < (8 : Byte).toNat ∧ TakenUp (.lineSet 7 [1, 8]) gallery ∧ TakenUp (.lineSet 7 [3, 7]) gallery
      ∧ TakenUp (.lineEnrol 7 [0]) gallery ∧ TakenUp (.lineEnable 7 [3]) gallery := by
  refine ⟨?_, ?_, ?_, ?_, ?_, ready ?_, ready ?_, ready ?_, ready ?_, ready ?_, ready ?_, ready ?_, ready ?_, ?_, ?_, ?_, ?_,
    ?_, ?_, ready ?_, ready ?_, ready ?_, ready ?_⟩ <;> decide +kernel

/-- R125, R138, R147: a limit of 8 is refused; an accepted enrolment enters ENROLLING at once where nothing is in flight. -/
theorem test_line_requests :
    answer (.lineSet 7 [1, 8]) gallery = some [0x13] ∧ answer (.lineEnrol 7 [1]) gallery = some [1]
      ∧ ((run (.lineEnrol 7 [1]) gallery).line? 1).map (·.state) = some .enrolling
      ∧ answer (.lineEnrol 7 [2]) enrolling = some [0x17] ∧ answer (.lineEnable 7 [3]) gallery = some [0x13] := by decide +kernel

/-- R126: zone 3's dimmer answers as a LOUVRE, or not at all; a LIGHT SENSOR answers where the table has no entry. -/
theorem test_probes :
    let s : State := { withLine 1 (fun r => { r with state := .enrolling, enrolment := some ⟨14, 0, 0, 0, 0⟩,
                                                      inFlight := some ⟨.ident, 14, 0, none, true⟩ }) with now := 5 }
    let t := run (.replyComplete 1 (replyPacket 14 0xD1 [5])) s
    let u : State := { s with devices := [] }
    (t.device? ⟨1, 14⟩).map (fun e => (e.kind, e.state, e.mismatch)) = some (.dimmer, .faulted, true)
      ∧ t.notices.map (·.body) = [.deviceFault 1 14 .wrongKind 0]
      ∧ (t.line? 1).bind (·.enrolment) = some ⟨15, 1, 0, 0, 0⟩
      ∧ ((run (.replyTimeout 1 []) s).device? ⟨1, 14⟩).map (·.state) = some .absent
      ∧ (run (.replyComplete 1 (replyPacket 14 0xD1 [1])) u).devices = [Device.enrolled 1 14 .lightSensor] := by decide +kernel

theorem witness_DeviceRetireRemoves :
    validLine 1 = true ∧ validLine 2 = true ∧ validAddress 1 = true ∧ validAddress 126 = true
      ∧ gallery.device? ⟨1, 1⟩ = none ∧ gallery.device? ⟨2, 126⟩ ≠ none ∧ gallery.owner? ⟨2, 126⟩ = none
      ∧ gallery.line? 2 = some State.resetLine ∧ gallery.device? ⟨2, 40⟩ ≠ none ∧ gallery.owner? ⟨2, 40⟩ ≠ none
      ∧ TakenUp (.deviceRetire 7 [1, 1]) gallery ∧ TakenUp (.deviceRetire 7 [2, 126]) gallery
      ∧ TakenUp (.deviceRetire 7 [2, 40]) gallery := by
  refine ⟨?_, ?_, ?_, ?_, ?_, ?_, ?_, ?_, ?_, ?_, ready ?_, ready ?_, ready ?_⟩ <;> decide +kernel

/-! ## Notices and the alarm line -/

/-- The queue with this many notices of level 2, in a part whose settings are these. -/
def noticed (n : Nat) (mode : AlarmMode) : State :=
  { gallery with notices := List.replicate n ⟨.lineRestored, .line 1, 5⟩, report := ⟨2, 6, mode⟩ }

theorem witness_OffersMeetTheQueue :
    (NoticeBody.storeDone 0 0).level < (noticed 31 .level).report.floor
      ∧ (noticed 31 .level).report.floor ≤ (NoticeBody.lineRestored).level ∧ (noticed 31 .level).notices.length < 32
      ∧ 32 ≤ (noticed 32 .level).notices.length
      ∧ (∀ n ∈ (noticed 32 .level).notices, (NoticeBody.lineRestored).level ≤ n.level)
      ∧ (noticed 32 .level).notices = List.replicate 31 ⟨.lineRestored, .line 1, 5⟩ ++ ⟨.lineRestored, .line 1, 5⟩ :: []
      ∧ (∀ x ∈ (noticed 32 .level).notices, Notice.level ⟨.lineRestored, .line 1, 5⟩ ≤ x.level)
      ∧ Notice.level ⟨.lineRestored, .line 1, 5⟩ < (NoticeBody.lineDisabled).level
      ∧ (noticed 0 .level).report.mode = .level ∧ (noticed 0 .pulse).report.mode = .pulse
      ∧ (noticed 0 .pulse).report.alarmLevel ≤ (NoticeBody.lineDisabled).level := by decide +kernel

theorem witness_ReportSetAndPulse :
    (0 : Byte).toNat ≤ 7 ∧ (7 : Byte).toNat ≤ 7 ∧ 1 ≤ (1 : Byte).toNat ∧ (noticed 3 .level).report.floor < (7 : Byte).toNat
      ∧ (0 : Byte).toNat ≤ (noticed 3 .level).report.floor
      ∧ TakenUp (.reportSet 7 [0, 1, BitVec.ofNat 8 AlarmMode.level.code]) (noticed 3 .level)
      ∧ TakenUp (.reportSet 7 [7, 7, BitVec.ofNat 8 AlarmMode.pulse.code]) (noticed 3 .level)
      ∧ TakenUp (.reportSet 7 [7, 7, BitVec.ofNat 8 AlarmMode.level.code]) (noticed 3 .pulse)
      ∧ TakenUp (.reportSet 7 [7, 7, BitVec.ofNat 8 AlarmMode.pulse.code]) (noticed 3 .pulse)
      ∧ { noticed 3 .pulse with alarm := true, pulsing := true }.running = true
      ∧ { noticed 3 .pulse with alarm := true, pulsing := true }.pulsing = true := by
  refine ⟨?_, ?_, ?_, ?_, ?_, ready ?_, ready ?_, ready ?_, ready ?_, ?_, ?_⟩ <;> decide +kernel

/-- R154: an alarm level of 0 is refused; a floor of 3 purges the three notices of level 2. R156: the pulse ends. -/
theorem test_report_set :
    answer (.reportSet 7 [3, 0, 0]) (noticed 3 .level) = some [0x13]
      ∧ answer (.reportSet 7 [3, 6, 0]) (noticed 3 .level) = some [0, 3, 6, 0, 3, 1]
      ∧ (run .alarmPulseEnd { noticed 0 .pulse with alarm := true, pulsing := true }).alarm = false := by decide +kernel

/-! ## Retention -/

theorem witness_CheckpointsBegin :
    TakenUp (.checkpointNow 7 []) gallery ∧ gallery.checkpoint = none ∧ gallery.configChanged = true
      ∧ { gallery with checkpoint := some writingZone3 }.checkpoint = some writingZone3
      ∧ TakenUp (.checkpointNow 7 []) { gallery with checkpoint := some writingZone3 }
      ∧ TakenUp (.checkpointNow 7 []) { gallery with configChanged := false }
      ∧ { gallery with configChanged := false }.zone? 3 = some zone3
      ∧ (∀ k r, { gallery with configChanged := false }.zone? k = some r → ¬ k < 3)
      ∧ gallery.running = true ∧ gallery.checkpointDue ≤ gallery.now := by
  refine ⟨ready ?_, ?_, ?_, ?_, ready ?_, ready ?_, ?_, forZones ?_, ?_, ?_⟩ <;> decide +kernel

/-- R169: with no zone defined and the flag no, a checkpoint is complete at once (STORE DONE at floor 0: both counts 0). -/
theorem test_empty_checkpoint :
    (run .checkpointTimerExpiry { State.reset with now := 900, configChanged := false, report := ⟨0, 6, .level⟩ }).notices.map (·.body)
      = [.storeDone 0 0] := by decide +kernel

theorem witness_RecordWriteEnds :
    gallery.running = true ∧ gallery.restarting = none
      ∧ { gallery with checkpoint := some writingConfig }.checkpoint = some writingConfig
      ∧ gallery.zone? 3 = some zone3 ∧ writingConfig.writing.number < 3
      ∧ (∀ k r, gallery.zone? k = some r → ¬ (writingConfig.writing.number < k ∧ k < 3))
      ∧ { gallery with checkpoint := some ⟨false, .account 16 zone16.accountRecord, 2, 0⟩ }.checkpoint
        = some ⟨false, .account 16 zone16.accountRecord, 2, 0⟩
      ∧ ∀ k r, gallery.zone? k = some r → ¬ 16 < k := by
  refine ⟨?_, ?_, ?_, ?_, ?_, forZones ?_, ?_, forZones ?_⟩ <;> decide +kernel

/-- R170: the failed write of the configuration record sets the flag again, and the write of zone 3's record begins. -/
theorem test_record_write_end :
    let s : State := { gallery with checkpoint := some writingConfig, configChanged := false, store := storage }
    let t := run (.recordWriteEnd false ⟨true, true⟩) s
    t.store.config = none ∧ t.configChanged = true ∧ t.notices.map (·.body) = [.checkpointFailed 0]
      ∧ t.checkpoint = some ⟨false, .account 3 zone3.accountRecord, 0, 1⟩ := by decide +kernel

theorem witness_RestartRunsFullCheckpoint :
    TakenUp (.restart 7 []) gallery ∧ gallery.checkpoint = none
      ∧ (∀ n r, gallery.line? n = some r → r.enrolment = none)
      ∧ Instr.request? (.identify 7 []) ≠ none ∧ TakenUp (.identify 7 []) gallery := by
  refine ⟨ready ?_, ?_, forLines ?_, ?_, ready ?_⟩ <;> decide +kernel

/-- R174: the start begins when both the full checkpoint and the sending of the reply have ended. -/
theorem test_restart_starts :
    let waiting (done sent : Bool) : State := { State.reset with
      restarting := some ⟨false, done, sent⟩, checkpoint := none, clock := 9
      link := { State.reset.link with output := some ⟨[], true⟩ } }
    (run (.outputFrameSent ⟨true, true⟩) (waiting true false)).link.output.map (·.wire)
        = some (Notice.frame ⟨.start .restart true, .none, 0⟩).wire
      ∧ (run (.outputFrameSent ⟨true, true⟩) (waiting false false)).restarting = some ⟨false, false, true⟩ := by decide +kernel

/-! ## The invariants -/

/-- A running part in which every invariant says something: two zones with an account and a season, a demand served by a
RUNNING plant and one that waits, history, a mark that holds the alarm, queued commands, notices, replies and a write. -/
def busy : State :=
  { ((((gallery.putZone 3 { zone3 with
          account := ⟨1099511627775, 1023, 4294967295, some ⟨1, 1, 0⟩, none, true⟩, marks := [.rhOut]
          climate := { zone3.climate with
            demand := some ⟨1, .humidify, 3⟩, history := [⟨4, some (400, 500), none, 9⟩]
            current := ⟨27, none, none, 0⟩ } }).putZone 16 { zone16 with
          defn := { plain with plant := some 1 }
          climate := { zone16.climate with demand := some ⟨1, .heat, 3⟩, current := ⟨27, none, none, 0⟩ } }).putPlant 1
        { running1 with waiting := [⟨16, .heat, 3, 2⟩], minRunDue := none, minRunElapsed := true }).modLine 1 fun r =>
          { r with queue := [⟨14, 5, .governor 3⟩, ⟨22, 50, .bank 3⟩] }) with
    clock := 97200, alarm := true, notices := [⟨.lineRestored, .line 1, 5⟩], pending := [.clockTick]
    store := storage, checkpoint := some writingZone3, link := (queued 2 8).link }

def busyZone3 : Zone := (busy.zone? 3).getD zone3
def busyZone16 : Zone := (busy.zone? 16).getD zone16
def busyPlant : Plant := (busy.plant? 1).getD plant1

theorem busy_zones : ∀ z r, busy.zone? z = some r → (z = 3 ∧ r = busyZone3) ∨ (z = 16 ∧ r = busyZone16) :=
  forZones (by decide +kernel)

theorem busy_plants : ∀ p r, busy.plant? p = some r → p = 1 ∧ r = busyPlant := forPlants (by decide +kernel)

/-- The busy part's next step is carried out. -/
theorem busy_steps : ∃ t, step busy = .next t := ⟨_, rfl⟩

theorem witness_DoseDecreasesOnlyThrough :
    busy.zone? 3 = some busyZone3 ∧ busy.restarting = none ∧ exec (.lightSample 3) busy = .next (run (.lightSample 3) busy)
      ∧ (∀ t b, Instr.lightSample 3 ≠ .seasonBegin t b) ∧ (∀ t b, Instr.lightSample 3 ≠ .accountAdjust t b)
      ∧ (∀ x, Instr.lightSample 3 ≠ .powerOn x) ∧ ∀ x, Instr.lightSample 3 ≠ .resetInputRelease x :=
  ⟨by decide +kernel, rfl, rfl, by simp, by simp, by simp, by simp⟩

theorem witness_AccountsStayInRange : busy.accountsInRange := by
  refine ⟨?_, ?_, ?_⟩
  · intro z r h
    rcases busy_zones z r h with ⟨_, rfl⟩ | ⟨_, rfl⟩ <;> (unfold Account.inRange; decide +kernel)
  · intro z a h
    by_cases hz : z = 3
    · subst hz
      have : slot? busy.store.accounts 3 = some (some { zone3.accountRecord with dose := 9 }) := by decide +kernel
      rw [this] at h; cases h; unfold Account.inRange; decide +kernel
    · rw [show busy.store.accounts = slotSet (Vector.replicate 16 none) 3 (some { zone3.accountRecord with dose := 9 }) from rfl,
        slot?_slotSet_ne _ _ hz] at h
      unfold slot? at h
      split at h <;> simp [Vector.getElem?_replicate] at h
  · intro cp z a h hw
    cases (show some writingZone3 = some cp from h)
    cases (show Writing.account 3 zone3.accountRecord = .account z a from hw)
    unfold Account.inRange; decide +kernel

theorem witness_QueuesStayCoalesced : busy.queuesCoalesced := forLines (by decide +kernel)

theorem witness_PlantsStayRight : busy.plantsRight := by
  intro p r h
  obtain ⟨-, rfl⟩ := busy_plants p r h
  unfold Plant.serviceRight Plant.settled
  decide +kernel

theorem witness_DemandsStayAgreed : busy.demandsAgree := by
  have h3 : busy.zone? 3 = some busyZone3 := by decide +kernel
  have h16 : busy.zone? 16 = some busyZone16 := by decide +kernel
  have h1 : busy.plant? 1 = some busyPlant := by decide +kernel
  have hd : busyPlant.demands = [⟨3, .humidify, 3, 1⟩, ⟨16, .heat, 3, 2⟩] := by decide +kernel
  refine ⟨?_, ?_, ?_⟩
  · intro p r h
    obtain ⟨-, rfl⟩ := busy_plants p r h
    rw [hd]; decide
  · intro p r d h hm
    obtain ⟨rfl, rfl⟩ := busy_plants p r h
    rw [hd] at hm
    rcases List.mem_cons.1 hm with rfl | hm
    · exact ⟨_, h3, by decide +kernel⟩
    · cases List.mem_singleton.1 hm
      exact ⟨_, h16, by decide +kernel⟩
  · intro z r dm h hm
    rcases busy_zones z r h with ⟨rfl, rfl⟩ | ⟨rfl, rfl⟩
    · cases (show some _ = some dm from hm)
      exact ⟨by decide +kernel, _, _, h1, by rw [hd]; exact List.mem_cons_self, rfl⟩
    · cases (show some _ = some dm from hm)
      exact ⟨by decide +kernel, _, _, h1, by rw [hd]; exact List.mem_cons_of_mem _ List.mem_cons_self, rfl⟩

theorem witness_HistoriesStayRight : busy.historiesRight := by
  intro z r h
  rcases busy_zones z r h with ⟨_, rfl⟩ | ⟨_, rfl⟩ <;>
    exact ⟨by decide +kernel, by decide +kernel, by decide +kernel, show (_ : Nat) = _ by decide +kernel⟩

theorem admitted {ds : List StoredDevice} (h : ds = gallery.configuration.devices) : TableAdmitted ds := by
  subst h
  refine ⟨by decide +kernel, ?_, ?_⟩
  · unfold placeBefore; decide +kernel
  · intro l
    exact Nat.le_trans (List.length_filter_le _ _) (by decide +kernel)

theorem witness_TablesStayAdmitted : busy.tablesAdmitted := by
  refine ⟨admitted rfl, ?_, ?_⟩
  · intro c h
    cases (show some record = some c from h)
    exact admitted rfl
  · intro cp c h hw
    cases (show some writingZone3 = some cp from h)
    cases hw

theorem witness_AlarmFollowsConditions : busy.alarmFollows :=
  ⟨by decide +kernel, by decide +kernel, forLines (by decide +kernel)⟩

theorem witness_QueuesStayBounded : busy.noticesKept ∧ busy.linkBounded := by
  unfold State.noticesKept State.linkBounded; decide +kernel

/-! ## Further clauses of the statements: a state and operands for each, and the rules they state -/

/-- The gallery carrying out a RESTART, with this checkpoint in flight, RESTART's reply being sent. -/
def restartingWith (r : Restart) (w : Option Checkpoint) : State :=
  { gallery with
    restarting := some r, checkpoint := w, store := storage, link := { gallery.link with output := some ⟨[0xA5], true⟩ } }

def fullZone16 : Checkpoint := ⟨true, .account 16 zone16.accountRecord, 2, 0⟩

/-- Each way in which a start can begin, the last two being the two ends of a RESTART. -/
theorem witness_StartLoadsStore_begins :
    StartBegins (.powerOn ⟨true, false⟩) { off with store := storage } .powerOn ⟨true, false⟩ [storage]
      ∧ StartBegins (.resetInputRelease ⟨false, true⟩) { gallery with resetLow := true, store := storage } .resetInput
          ⟨false, true⟩ [storage]
      ∧ StartBegins (.outputFrameSent ⟨true, true⟩) (restartingWith ⟨false, true, false⟩ none) .restart ⟨true, true⟩ [storage]
      ∧ StartBegins (.outputFrameSent ⟨true, true⟩) (restartingWith ⟨false, true, false⟩ (some writingZone3)) .restart
          ⟨true, true⟩ [storage, storage.put writingZone3.writing true]
      ∧ StartBegins (.recordWriteEnd false ⟨true, true⟩) (restartingWith ⟨false, false, true⟩ (some fullZone16)) .restart
          ⟨true, true⟩ [storage.put fullZone16.writing false] := by
  refine ⟨.inl ⟨rfl, rfl, rfl, rfl, rfl⟩, .inr (.inl ⟨rfl, rfl, rfl, rfl, rfl⟩),
    .inr (.inr (.inl ⟨rfl, rfl, rfl, ⟨_, _, rfl, rfl, rfl, rfl⟩, fun _ => rfl, ?_⟩)),
    .inr (.inr (.inl ⟨rfl, rfl, rfl, ⟨_, _, rfl, rfl, rfl, rfl⟩, ?_, ?_⟩)),
    .inr (.inr (.inr ⟨rfl, rfl, _, _, _, rfl, rfl, rfl, rfl, rfl, ?_, rfl⟩))⟩
  · intro w h; cases h
  · intro h; cases h
  · intro w h; cases h; rfl
  · intro k hk
    cases h : (restartingWith ⟨false, false, true⟩ (some fullZone16)).zone? k with
    | none => rfl
    | some r =>
      have := State.zone?_valid h
      simp [fullZone16, Writing.number] at *
      omega

/-- R174, R173: the start after the full checkpoint's last write, which has failed: zone 16's account is lost, and the OFF line 2
makes zone 3's trim unavailable. -/
theorem test_restart_at_write_end :
    let t := run (.recordWriteEnd false ⟨true, false⟩) (restartingWith ⟨false, false, true⟩ (some fullZone16))
    t.restarting = none ∧ t.checkpoint = none ∧ t.clock = 7200
      ∧ (t.zone? 16).map (·.marks) = some [.accountLost]
      ∧ (t.zone? 3).map (fun r => (r.marks, r.account.dose, r.climate.trimUnavailable)) = some ([.accountGap], 9, true)
      ∧ t.link.output.map (·.wire) = some (Notice.frame ⟨.start .restart false, .none, 7200⟩).wire := by decide +kernel

/-- A band at one unit beyond each limit in turn. -/
def badBands : List Band :=
  [⟨299, 10, 0, 10, 100, 5, 0, 0⟩, ⟨701, 10, 0, 10, 100, 5, 0, 0⟩, ⟨300, 9, 0, 10, 100, 5, 0, 0⟩, ⟨300, 201, 0, 10, 100, 5, 0, 0⟩,
   ⟨300, 10, 11, 10, 100, 5, 0, 0⟩, ⟨300, 10, 0, 9, 100, 5, 0, 0⟩, ⟨300, 10, 0, 401, 100, 5, 0, 0⟩, ⟨300, 10, 0, 10, 99, 5, 0, 0⟩,
   ⟨300, 10, 0, 10, 301, 5, 0, 0⟩, ⟨300, 10, 0, 10, 100, 4, 0, 0⟩, ⟨300, 10, 0, 10, 100, 101, 0, 0⟩,
   ⟨300, 10, 0, 10, 100, 5, 6, 0⟩, ⟨300, 10, 0, 10, 100, 5, 0, 16⟩]

theorem witness_ZoneRequestRefusals_bodies :
    TakenUp (.marksClear 7 (17 :: counted (fun b => [b]) ([11] : List Byte))) gallery
      ∧ TakenUp (.climateBand 7 (0 :: leastBand.sent)) gallery ∧ TakenUp (.climateBand 7 (1 :: leastBand.sentWithout)) gallery
      ∧ TakenUp (.zoneBind 7 (1 :: counted (fun e => [e.1, e.2.1, e.2.2.1, e.2.2.2]) ([] : List (Byte × Byte × Byte × Byte)))) gallery
      ∧ leastBand.fits ∧ gallery.zone? 1 = none ∧ gallery.zone? 3 = some zone3
      ∧ (∃ b ∈ ([11] : List Byte), 11 ≤ b.toNat)
      ∧ TakenUp (.marksClear 7 (3 :: counted (fun b => [b]) ([11] : List Byte))) gallery
      ∧ (∀ b ∈ badBands, b.fits ∧ b.inRange = false ∧ TakenUp (.climateBand 7 (3 :: b.sent)) gallery)
      ∧ TakenUp (.zoneBind 7 (3 :: counted (fun e => [e.1, e.2.1, e.2.2.1, e.2.2.2])
          (List.replicate 5 ((1, 0, 0, 0) : Byte × Byte × Byte × Byte)))) gallery
      ∧ TakenUp (.zoneBind 7 (3 :: counted (fun e => [e.1, e.2.1, e.2.2.1, e.2.2.2])
          [((3, 0, 0, 0) : Byte × Byte × Byte × Byte)])) gallery := by
  refine ⟨ready ?_, ready ?_, ready ?_, ready ?_, ?_, ?_, ?_, ?_, ready ?_, fun b hb => ⟨?_, ?_, ready ?_⟩, ready ?_, ready ?_⟩
  case refine_10 | refine_11 | refine_12 => revert b; (try unfold Band.fits); decide +kernel
  all_goals (try unfold Band.fits); decide +kernel
/-- R2, R3: one definition for each outcome of the checks of ZONE DEFINE, on the gallery. -/
theorem witness_ZoneRequestRefusals_definitions :
    let f := fields 50 0 (some ⟨1, 99⟩) none
    let g := fields 50 0 (some ⟨1, 14⟩) none
    let h := fields 9 0 none none
    let ok := fields 50 0 none none
    f.fits ∧ g.fits ∧ h.fits ∧ ok.fits ∧ h.outOfRange
      ∧ TakenUp (.zoneDefine 7 (0 :: ok.bytes)) gallery ∧ TakenUp (.zoneDefine 7 (17 :: ok.bytes)) gallery
      ∧ TakenUp (.zoneDefine 7 (1 :: h.bytes)) gallery
      ∧ f.definition? = some (defined 50 none (some ⟨1, 99⟩) none) ∧ g.definition? = some (defined 50 none (some ⟨1, 14⟩) none)
      ∧ ok.definition? = some (defined 50 none none none)
      ∧ gallery.namesMissing (defined 50 none (some ⟨1, 99⟩) none)
      ∧ ¬ gallery.namesMissing (defined 50 none (some ⟨1, 14⟩) none)
      ∧ gallery.namesUnfit 1 (defined 50 none (some ⟨1, 14⟩) none)
      ∧ ¬ gallery.namesMissing (defined 50 none none none) ∧ ¬ gallery.namesUnfit 1 (defined 50 none none none)
      ∧ TakenUp (.zoneDefine 7 (1 :: f.bytes)) gallery ∧ TakenUp (.zoneDefine 7 (1 :: g.bytes)) gallery
      ∧ TakenUp (.zoneDefine 7 (1 :: ok.bytes)) gallery := by
  refine ⟨fields_fit (by decide) (by decide) _ _ ?_ (by simp), fields_fit (by decide) (by decide) _ _ ?_ (by simp),
    fields_fit (by decide) (by decide) _ _ (by simp) (by simp), fields_fit (by decide) (by decide) _ _ (by simp) (by simp),
    .inl (by decide), ready ?_, ready ?_, ready ?_, ?_, ?_, ?_, .inl ⟨⟨1, 99⟩, .inl rfl, ?_⟩, ?_,
    .inr (.inl ⟨⟨1, 14⟩, 3, zone3, .inl rfl, by decide, ?_, .inl rfl⟩), ?_, ?_, ready ?_, ready ?_, ready ?_⟩
  case refine_1 | refine_2 => intro x hx; cases hx; exact ⟨by decide, by decide⟩
  case refine_10 =>
    rintro (⟨a, h, hn⟩ | ⟨b, hb, -⟩)
    · rcases h with h | h <;> cases h
      exact absurd hn (by decide +kernel)
    · cases hb
  case refine_12 => rintro (⟨a, h | h, -⟩ | ⟨b, hb, -⟩) <;> first | cases h | cases hb
  case refine_13 =>
    rintro (⟨a, e, -, h | h⟩ | ⟨a, k, x, h | h, -⟩ | ⟨b, hb, -⟩)
    · cases h.1
    · cases h.1
    · cases h
    · cases h
    · cases hb
  all_goals decide +kernel

theorem witness_FramesAreReceived_waits :
    (queued 3 8).mayTakeUp = false ∧ (queued 4 8).mayTakeUp = false
      ∧ { queued 4 7 with restarting := some ⟨false, false, false⟩ }.mayTakeUp = false
      ∧ (queued 4 7).mayTakeUp = true ∧ (queued 4 7).link.intake ≠ [] ∧ (queued 4 7).link.intake.length = 4
      ∧ Instr.request? (.zoneRead 9 [1]) = some ⟨9, 0x08, [1]⟩
      ∧ Instr.request? (.unknownRequestKind 0x20 9 [1]) = some ⟨9, 0x20, [1]⟩ := by decide +kernel

/-- States for each clause on the requests that wait: none, a RESTART, no room, and two that are taken up. -/
theorem witness_OutputChoosesNext_intake :
    (queued 0 8).link.intake = [] ∧ { queued 2 0 with restarting := some ⟨false, false, false⟩ }.restarting ≠ none
      ∧ 8 ≤ (queued 2 8).link.replies.length ∧ (queued 2 7).link.intake = ⟨1, 1, []⟩ :: [⟨1, 1, []⟩]
      ∧ (queued 2 7).restarting = none ∧ (queued 2 7).link.replies.length < 8
      ∧ (queued 2 7).running = true ∧ (queued 2 7).pending = []
      ∧ Instr.request? (.identify 1 []) = some ⟨1, 1, []⟩ ∧ TakenUp (.identify 1 []) gallery :=
  ⟨by decide +kernel, by decide +kernel, by decide +kernel, by decide +kernel, by decide +kernel, by decide +kernel, rfl, rfl, rfl,
   ready (by decide +kernel)⟩

/-- The state a step leaves. -/
def stepped (s : State) : State :=
  match step s with
  | .next t => t
  | .fault e => nomatch e
  | .refused _ => s

/-- R161: a step on an empty queue of commands takes up the requests that wait while there is room for their replies. -/
theorem test_intake_served :
    (stepped (queued 3 7)).link.intake.length = 2 ∧ (stepped (queued 3 7)).link.replies.length = 8
      ∧ (stepped (queued 3 5)).link.intake = [] ∧ stepped (queued 3 8) = queued 3 8
      ∧ (run (.identify 1 []) (queued 1 8)).link.intake = [⟨1, 1, []⟩, ⟨1, 1, []⟩] := by decide +kernel

/-- The gallery with zone 3 served by plant 1 and with a trim pulse in flight. -/
def engaged : State :=
  (runningPlant id).putZone 3 { zone3 with climate := { zone3.climate with
    demand := some ⟨1, .humidify, 3⟩, pulse := some ⟨.dry, ⟨2, 40⟩, 1200⟩ } }

theorem witness_ZoneDefineReplaces_engaged :
    (engaged.zone? 3).map (·.defn) = some defn ∧ (fields 50 0 none none).fits
      ∧ (fields 50 0 none none).definition? = some (defined 50 none none none)
      ∧ engaged.definitionRefused 3 (defined 50 none none none) = none
      ∧ (engaged.zone? 3).bind (·.climate.demand) = some ⟨1, .humidify, 3⟩
      ∧ (engaged.zone? 3).bind (·.climate.pulse) = some ⟨.dry, ⟨2, 40⟩, 1200⟩
      ∧ engaged.line? 1 = some State.resetLine ∧ engaged.line? 2 = some State.resetLine
      ∧ State.resetLine.state.takesCommands = true ∧ (engaged.plant? 1).map (·.demands) = some [demand3]
      ∧ TakenUp (.zoneDefine 7 (be 1 3 ++ (fields 50 0 none none).bytes)) engaged := by
  refine ⟨?_, fields_fit (by decide) (by decide) _ _ (by simp) (by simp), ?_, ?_, ?_, ?_, ?_, ?_, ?_, ?_, ready ?_⟩ <;>
    decide +kernel

/-- R6, R7, R89: the old plant, left with no demand, is sent NEUTRAL, the old dimmer level 0, the old trim device OFF. -/
theorem test_zone_define_moves :
    let t := run (.zoneDefine 7 (be 1 3 ++ (fields 50 0 none none).bytes)) engaged
    (t.line? 1).map (·.queue) = some [⟨30, 0, .arbiter 1⟩, ⟨14, 0, .governor 3⟩]
      ∧ (t.line? 2).map (·.queue) = some [⟨40, 0, .tracker 3⟩] ∧ (t.plant? 1).map (fun r => (r.state, r.demands)) = some (.idle, [])
      ∧ (t.zone? 3).map (fun r => (r.climate.demand, r.climate.pulse, r.light.refreshOwed)) = some (none, none, true) := by
  decide +kernel

theorem witness_SeasonsAndAdjustment_ranges :
    ([(0, 1), (300000001, 1), (1, 0), (1, 8785)] : List (Nat × Nat)).all (fun q =>
      decide (q.1 < 4294967296) && decide (q.2 < 65536)
        && decide (q.1 < 1 ∨ 300000000 < q.1 ∨ q.2 < 1 ∨ 8784 < q.2)) = true
      ∧ ∀ q ∈ ([(0, 1), (300000001, 1), (1, 0), (1, 8785)] : List (Nat × Nat)),
        TakenUp (.seasonBegin 7 (be 1 3 ++ be 4 q.1 ++ be 2 q.2)) gallery :=
  ⟨by decide, fun q hq => ready (by revert q; decide +kernel)⟩

theorem witness_BankDefineCloses_refusals :
    (⟨3, 1⟩ : DeviceAddr).fits ∧ (⟨2, 126⟩ : DeviceAddr).fits ∧ (⟨1, 127⟩ : DeviceAddr).fits
      ∧ (∀ v ∈ some 51, v < 256) ∧ (1 < 1 ∨ 50 < 51)
      ∧ gallery.device? ⟨2, 1⟩ = none ∧ gallery.device? ⟨1, 14⟩ = some (active 1 14 .dimmer)
      ∧ (active 1 14 .dimmer).kind ≠ .louvre ∧ gallery.bank? 3 = some bank3 ∧ bank3.louvre = ⟨1, 22⟩
      ∧ gallery.device? ⟨1, 22⟩ = some (active 1 22 .louvre)
      ∧ TakenUp (.bankDefine 7 (be 1 9 ++ be 1 2 ++ be 1 126 ++ Machine.optional (be 1) none)) gallery
      ∧ TakenUp (.bankDefine 7 (be 1 1 ++ be 1 3 ++ be 1 1 ++ Machine.optional (be 1) none)) gallery
      ∧ TakenUp (.bankDefine 7 (be 1 1 ++ be 1 1 ++ be 1 127 ++ Machine.optional (be 1) none)) gallery
      ∧ TakenUp (.bankDefine 7 (be 1 1 ++ be 1 2 ++ be 1 126 ++ Machine.optional (be 1) (some 51))) gallery
      ∧ TakenUp (.bankDefine 7 (be 1 1 ++ be 1 2 ++ be 1 1 ++ Machine.optional (be 1) none)) gallery
      ∧ TakenUp (.bankDefine 7 (be 1 1 ++ be 1 1 ++ be 1 14 ++ Machine.optional (be 1) none)) gallery
      ∧ TakenUp (.bankDefine 7 (be 1 1 ++ be 1 1 ++ be 1 22 ++ Machine.optional (be 1) none)) gallery := by
  refine ⟨⟨by decide, by decide⟩, ⟨by decide, by decide⟩, ⟨by decide, by decide⟩, by simp, by decide, ?_, ?_, ?_, ?_, ?_, ?_,
    ready ?_, ready ?_, ready ?_, ready ?_, ready ?_, ready ?_, ready ?_⟩ <;> decide +kernel

/-- Plant 1 RUNNING HUMIDIFY for zone 3 with this waiting, in a part that has a second controller, 2-31, on a line in this
state. -/
def moving (service waiting : List Demand) (state : LineState) : State :=
  ((runningPlant fun r => { r with service, waiting }).modLine 2 fun r => { r with state }) |> fun s =>
    { s with devices := s.devices ++ [active 2 31 .plantController] }

theorem witness_PlantDefineCreates_moves :
    (⟨2, 31⟩ : DeviceAddr).inRange = true ∧ running1.controller ≠ ⟨2, 31⟩
      ∧ ([moving [demand3] [⟨16, .heat, 3, 2⟩] .active, moving [demand3] [] .disabled, moving [] [] .active] : List State).all
        (fun s => s.device? ⟨2, 31⟩ == some (active 2 31 .plantController) && (s.plant? 1).isSome && (s.line? 2).isSome) = true
      ∧ (∀ k r, k ≠ 1 → (moving [demand3] [] .disabled).plant? k = some r → r.controller ≠ ⟨2, 31⟩)
      ∧ ((moving [demand3] [⟨16, .heat, 3, 2⟩] .active).plant? 1).map (·.returnService.waiting)
        = some (demand3 :: [⟨16, .heat, 3, 2⟩])
      ∧ demand3.duty ≠ .neutral ∧ ((moving [] [] .active).plant? 1).map (·.returnService.waiting) = some []
      ∧ TakenUp (.plantDefine 7 (be 1 1 ++ be 1 2 ++ be 1 31)) (moving [demand3] [⟨16, .heat, 3, 2⟩] .active)
      ∧ TakenUp (.plantDefine 7 (be 1 1 ++ be 1 2 ++ be 1 31)) (moving [demand3] [] .disabled)
      ∧ TakenUp (.plantDefine 7 (be 1 1 ++ be 1 2 ++ be 1 31)) (moving [] [] .active) := by
  refine ⟨?_, ?_, ?_, ?_, ?_, ?_, ?_, ready ?_, ready ?_, ready ?_⟩
  case refine_4 =>
    intro k r hk h
    exact absurd (forPlants (P := fun p _ => p = 1) (by decide +kernel) k r h) hk
  all_goals decide +kernel

/-- R98: NEUTRAL to both controllers and a selection, the new duty coalescing with NEUTRAL for the new one; on a DISABLED line
the plant is FAULTED toward the head's duty. -/
theorem test_plant_define_moves :
    let ask := Instr.plantDefine 7 (be 1 1 ++ be 1 2 ++ be 1 31)
    let t := run ask (moving [demand3] [⟨16, .heat, 3, 2⟩] .active)
    let u := run ask (moving [demand3] [] .disabled)
    (t.plant? 1).map (fun r => (r.state, r.physical, r.commanded, r.service, r.waiting))
        = some (.changeover, .neutral, .humidify, [demand3], [⟨16, .heat, 3, 2⟩])
      ∧ (t.line? 1).map (·.queue) = some [⟨30, 0, .arbiter 1⟩] ∧ (t.line? 2).map (·.queue) = some [⟨31, 1, .arbiter 1⟩]
      ∧ (u.plant? 1).map (fun r => (r.state, r.target, r.commanded, r.waiting)) = some (.faulted, .humidify, .humidify, [demand3])
      ∧ u.notices.map (·.body) = [.plantFault .commandFailed .humidify] := by
  refine ⟨?_, ?_, ?_, ?_, ?_⟩ <;> decide +kernel

theorem witness_PlantDefineCreates_refusals :
    gallery.device? ⟨2, 1⟩ = none ∧ gallery.device? ⟨1, 14⟩ = some (active 1 14 .dimmer)
      ∧ (active 1 14 .dimmer).kind ≠ .plantController ∧ gallery.plant? 1 = some plant1 ∧ plant1.controller = ⟨1, 30⟩
      ∧ (⟨3, 1⟩ : DeviceAddr).fits ∧ (⟨1, 127⟩ : DeviceAddr).fits
      ∧ TakenUp (.plantDefine 7 (be 1 0 ++ be 1 1 ++ be 1 30)) gallery ∧ TakenUp (.plantDefine 7 (be 1 3 ++ be 1 1 ++ be 1 30)) gallery
      ∧ TakenUp (.plantDefine 7 (be 1 1 ++ be 1 3 ++ be 1 1)) gallery ∧ TakenUp (.plantDefine 7 (be 1 1 ++ be 1 1 ++ be 1 127)) gallery
      ∧ TakenUp (.plantDefine 7 (be 1 1 ++ be 1 2 ++ be 1 1)) gallery ∧ TakenUp (.plantDefine 7 (be 1 1 ++ be 1 1 ++ be 1 14)) gallery
      ∧ TakenUp (.plantDefine 7 (be 1 2 ++ be 1 1 ++ be 1 30)) gallery := by
  refine ⟨?_, ?_, ?_, ?_, ?_, ⟨by decide, by decide⟩, ⟨by decide, by decide⟩, ready ?_, ready ?_, ready ?_, ready ?_, ready ?_,
    ready ?_, ready ?_⟩ <;> decide +kernel

/-- R97: the refusals in their order. -/
theorem test_plant_define_refusals :
    ([[3, 1, 30], [1, 1, 127], [1, 2, 1], [1, 1, 14], [2, 1, 30], [1, 1, 30]] : List (List Byte)).map (fun b =>
      answer (.plantDefine 7 b) gallery) = [some [0x13], some [0x13], some [0x14], some [0x15], some [0x15], some [0]] := by
  decide +kernel

/-- Plant 1 in CHANGEOVER with nothing to serve, its command acknowledged, its timer about to expire. -/
def emptied (waiting : List Demand) (physical commanded : Duty) : State :=
  gallery.putPlant 1 { changing true with service := [], serviceLevel := 0, waiting, physical, commanded }

theorem witness_PlantTimersExpire_emptied :
    ([emptied [] .neutral .neutral, emptied [] .humidify .humidify, emptied [⟨16, .heat, 3, 2⟩] .humidify .humidify] :
      List State).all (fun s => (s.plant? 1).any fun r => r.state == .changeover && decide (r.changeDue = some 1000)
        && r.changeAcked && r.service.isEmpty) = true
      ∧ Duty.humidify ≠ .heat ∧ gallery.line? 1 = some State.resetLine ∧ State.resetLine.state.takesCommands = true := by
  decide +kernel

/-- Plants for each row of a raise, an update and a withdrawal; the last arrival number before the counter's end. -/
theorem witness_PlantTimersExpire_demands :
    ([plant1, changing false, running1, { plant1 with state := .held }, { plant1 with state := .faulted },
      { running1 with minRunElapsed := true }, { running1 with arrivals := 4294967294 }] : List Plant).all
        (fun r => decide (r.arrivals < 4294967295) && (gallery.putPlant 1 r).plant? 1 == some r) = true
      ∧ plant1.state = .idle ∧ (changing false).state = .changeover ∧ (changing false).target = .humidify
      ∧ Duty.heat ≠ running1.target ∧ (insertDemand ⟨16, .heat, 4, 3⟩ running1.waiting).head? = some ⟨16, .heat, 4, 3⟩
      ∧ running1.serviceLevel < 4 ∧ (∃ x ∈ running1.service, x.zone = 3) ∧ (∀ x ∈ running1.service, x.zone ≠ 16)
      ∧ (running1.service.filter fun x => decide (x.zone ≠ 3)) = [] := by decide +kernel

/-- R87 to R89: a demand of another duty above the service level preempts an elapsed minimum run and waits otherwise; an update
of the served demand, and its withdrawal. -/
theorem test_demands :
    let seen (s : State) : Option (PlantState × Duty × List Nat × List Nat × Nat) := (s.plant? 1).map fun r => (r.state, r.target, r.service.map (·.zone), r.waiting.map (·.zone), r.serviceLevel)
    seen ((runningPlant fun r => { r with minRunElapsed := true }).raise 1 16 .heat 4) = some (.changeover, .heat, [16], [3], 4)
      ∧ seen ((runningPlant id).raise 1 16 .heat 4) = some (.running, .humidify, [3], [16], 3)
      ∧ seen ((runningPlant id).update 1 3 6) = some (.running, .humidify, [3], [], 6)
      ∧ seen ((runningPlant id).withdraw 1 3) = some (.idle, .neutral, [], [], 0) := by
  refine ⟨?_, ?_, ?_, ?_⟩ <;> decide +kernel

/-- Zone 3 with this RH state, trim count and demand in place. -/
def deciding (rh : BandState) (trimCount : Nat) (demand : Option ZoneDemand) : State :=
  withZone fun r => { r with climate := { r.climate with rh, trimCount, demand } }

/-- A zone for each case of the demand decision: nothing held and nothing wanted, a raise, a withdrawal, no change, another
level, another duty. -/
theorem witness_ClimateReviewTracks_decisions :
    ([deciding .inBand 4 none, deciding .outLow 4 none, deciding .inBand 4 (some ⟨1, .humidify, 5⟩),
      deciding .outLow 4 (some ⟨1, .humidify, 5⟩), deciding .outLow 4 (some ⟨1, .humidify, 3⟩),
      deciding .outHigh 4 (some ⟨1, .humidify, 5⟩)] : List State).map (fun s =>
        (s.zone? 3).map fun r => (r.chosenNeed, s.plantFor r))
      = [some (none, some 1), some (some ⟨.humidify, 5⟩, some 1), some (none, some 1), some (some ⟨.humidify, 5⟩, some 1),
         some (some ⟨.humidify, 5⟩, some 1), some (some ⟨.dry, 5⟩, some 1)] := by decide +kernel

/-- R76: a drift that trim can no longer meet escalates, and where the definition does not allow it is UNRESOLVED; with trim
left it waits. -/
theorem test_drift_rows :
    let after (escalate : Bool) (n : Nat) : Option (Option Need × Bool) :=
      (((deciding .driftLow n none).modZone 3 fun r => { r with defn := { r.defn with escalate } }).decideDemand 3).zone? 3
        |>.map fun r => (r.climate.need, r.climate.unresolved)
    after true 0 = some (some ⟨.humidify, 3⟩, false) ∧ after false 0 = some (none, true) ∧ after false 1 = some (none, false) := by
  refine ⟨?_, ?_, ?_⟩ <;> decide +kernel

/-- R65, R66: the bucket's extremes and the swing over the closed buckets at most 23 hours before the current one. -/
theorem test_swing_of_review :
    let s : State := (sensing (some 500)).modZone 3 fun r => { r with climate := { r.climate with
      current := ⟨30, some (480, 490), some (190, 195), 1⟩
      history := [⟨6, some (100, 900), none, 9⟩, ⟨7, some (450, 470), none, 9⟩] } }
    ((run (.climateReview 3) s).zone? 3).map (fun r =>
        (r.climate.current, r.climate.lastSwing, r.climate.swing, r.climate.temp))
      = some (⟨30, some (480, 500), some (190, 200), 2⟩, some 50, false, .inBand) := by decide +kernel

/-- Zone 3 with this RH state and this pulse in flight. -/
def trimming (rh : BandState) (pulse : Option Pulse) : State :=
  withZone fun r => { r with climate := { r.climate with rh, pulse } }

theorem witness_PulseEndPlacesOff_reviews :
    (trimming .driftLow none).zone? 3 = some { zone3 with climate := { zone3.climate with rh := .driftLow } }
      ∧ zone3.defn.trim = some ⟨2, 40⟩ ∧ zone3.climate.pulse = none ∧ zone3.climate.trimUnavailable = false
      ∧ 0 < zone3.climate.trimCount ∧ zone3.climate.demand = none ∧ gallery.line? 2 = some State.resetLine
      ∧ (((trimming .driftLow none).modLine 2 fun r => { r with state := .off }).line? 2).map (·.state.takesCommands) = some false
      ∧ ((trimming .outHigh (some ⟨.humidify, ⟨2, 40⟩, 1200⟩)).zone? 3).map (·.climate.rh) = some .outHigh
      ∧ ((trimming .outHigh (some ⟨.dry, ⟨2, 40⟩, 1200⟩)).zone? 3).bind (·.climate.pulse) = some ⟨.dry, ⟨2, 40⟩, 1200⟩
      ∧ (engaged.zone? 3).bind (·.climate.demand) = some ⟨1, .humidify, 3⟩
      ∧ (engaged.plant? 1).map (·.service) = some [demand3] ∧ demand3.zone = 3 := by decide +kernel

/-- R71, R73, R74: a pulse issued, one that the RH state opposes ended, and one whose line is OFF. -/
theorem test_pulses :
    let seen (s : State) : Option (Option Pulse × Nat × Bool) :=
      (s.zone? 3).map fun r => (r.climate.pulse, r.climate.trimCount, r.climate.trimUnavailable)
    seen ((trimming .driftLow none).issuePulse 3) = some (some ⟨.humidify, ⟨2, 40⟩, 1300⟩, 3, false)
      ∧ seen ((trimming .outHigh (some ⟨.humidify, ⟨2, 40⟩, 1200⟩)).endOpposedPulse 3) = some (none, 4, false)
      ∧ seen (((trimming .driftLow none).modLine 2 fun r => { r with state := .off }).issuePulse 3) = some (none, 3, true) := by
  refine ⟨?_, ?_, ?_⟩ <;> decide +kernel

theorem witness_BandAndOccupancy_default :
    { leastBand with trimAllowance := 4 }.inRange = true
      ∧ TakenUp (.climateBand 7 (be 1 3 ++ { leastBand with trimAllowance := 4 }.sentWithout)) gallery :=
  ⟨by decide +kernel, ready (by decide +kernel)⟩

theorem gallery_admitted {s : State} (h1 : s.devices = gallery.devices) (h2 : s.store = gallery.store)
    (h3 : s.checkpoint = none) : s.tablesAdmitted := by
  refine ⟨admitted (by simp [State.configuration, h1]), ?_, ?_⟩
  · intro c h; rw [h2] at h; cases h
  · intro cp c h; rw [h3] at h; cases h

/-- Line 1 in its round past this address, with this round counter; device 1-20 FAULTED. -/
def rounding (pollPos roundCounter : Nat) : State :=
  { withLine 1 (fun r => { r with pollPos, roundCounter }) with
    devices := gallery.devices.map fun e => if e.address = 20 then { e with state := .faulted } else e }

/-- R139: at counter 1 the poll after address 14 passes over FAULTED 20; at counter 0 it does not; none remains after 30. -/
theorem witness_LineTakesUpWork_polls :
    gallery.tablesAdmitted ∧ PollCandidate (rounding 14 1) 1 { State.resetLine with pollPos := 14 } (active 1 22 .louvre)
      ∧ (∀ e ∈ (rounding 14 1).devices, PollCandidate (rounding 14 1) 1 { State.resetLine with pollPos := 14 } e →
          22 ≤ e.address)
      ∧ (∀ e, ¬ PollCandidate (rounding 30 1) 1 { State.resetLine with pollPos := 30 } e)
      ∧ ((rounding 30 1).line? 1).map (fun r => (r.roundDue.isSome, r.roundInProgress)) = some (true, true) := by
  refine ⟨gallery_admitted rfl rfl rfl, ?_, ?_, ?_, by decide +kernel⟩
  · unfold PollCandidate; decide +kernel
  · unfold PollCandidate; decide +kernel
  · rintro e ⟨h1, h2⟩
    revert h2
    exact (by decide +kernel : ∀ e ∈ (rounding 30 1).devices, ¬ (e.line = 1 ∧ 30 < e.address ∧ e.state ≠ .absent
      ∧ (1 = 0 ∨ e.state ≠ .faulted))) e h1

theorem test_poll_choice :
    ((run (.transactionTakeUp 1) (rounding 14 1)).line? 1).map (·.pollPos) = some 22
      ∧ ((run (.transactionTakeUp 1) (rounding 14 0)).line? 1).map (·.pollPos) = some 20
      ∧ ((run (.transactionTakeUp 1) (rounding 30 1)).line? 1).map (fun r => (r.roundInProgress, r.inFlight)) = some (false, none) := by
  decide +kernel

/-- Line 1 ENROLLING, an IDENT probe of address `a` in flight. -/
def probing (a : Nat) : State :=
  withLine 1 fun r => { r with state := .enrolling, enrolment := some ⟨a, 0, 0, 0, 0⟩, inFlight := some ⟨.ident, a, 0, none, true⟩ }

/-- A probe for each row of R126: a known device, one of another kind that is assigned and one that is not, one the table does
not hold, and the last address. -/
theorem witness_LineTakesUpWork_probes :
    ([1, 14, 20, 126] : List Nat).all (fun a => (probing a).running
        && ((probing a).line? 1).any fun r => decide (r.enrolment = some ⟨a, 0, 0, 0, 0⟩)
          && decide (r.inFlight = some ⟨.ident, a, 0, none, true⟩)) = true
      ∧ (probing 14).tablesAdmitted ∧ (probing 126).tablesAdmitted
      ∧ (probing 20).device? ⟨1, 20⟩ = some (active 1 20 .lightSensor) ∧ (probing 20).owner? ⟨1, 20⟩ = none
      ∧ (probing 14).device? ⟨1, 14⟩ = some (active 1 14 .dimmer) ∧ (probing 14).owner? ⟨1, 14⟩ ≠ none
      ∧ (probing 1).device? ⟨1, 1⟩ = none ∧ (probing 126).device? ⟨1, 126⟩ = none ∧ (probing 1).devices.length < 64
      ∧ ((probing 1).devices.filter fun y => y.line == 1 && y.kind.isActuator).length < 16
      ∧ DeviceKind.ofCode? (0 : Byte).toNat = none ∧ DeviceKind.ofCode? (8 : Byte).toNat = none
      ∧ completePacket (replyPacket 15 0xD1 [1]) = some (replyPacket 15 0xD1 [1])
      ∧ classifyPacket .ident 14 (some (active 1 14 .dimmer)) (replyPacket 15 0xD1 [1]) = .failed .wrongReply := by
  refine ⟨?_, gallery_admitted rfl rfl rfl, gallery_admitted rfl rfl rfl, ?_⟩
  · decide +kernel
  · refine ⟨?_, ?_, ?_, ?_, ?_, ?_, ?_, ?_, ?_, ?_, ?_, ?_⟩ <;> decide +kernel

/-- A line that holds sixteen actuators, a probe of a sensor in flight: an actuator kind cannot be taken. -/
def crowded : State :=
  { probing 20 with devices := (List.range' 1 16).map (active 1 · .dimmer) ++ [active 1 20 .lightSensor] }

theorem witness_LineTakesUpWork_full :
    (crowded.devices.filter fun y => y.line == 1 && y.kind.isActuator).length = 16 ∧ crowded.tablesAdmitted
      ∧ crowded.device? ⟨1, 20⟩ = some (active 1 20 .lightSensor) ∧ crowded.owner? ⟨1, 20⟩ = none
      ∧ ({ probing 17 with devices := crowded.devices }.device? ⟨1, 17⟩) = none := by
  refine ⟨by decide +kernel, ⟨⟨by decide +kernel, by unfold placeBefore; decide +kernel, ?_⟩, ?_, ?_⟩, ?_⟩
  · intro l
    by_cases h : l = 1
    · subst h; decide +kernel
    · have : (crowded.configuration.devices.filter fun d => d.line == l && d.kind.isActuator) = [] := by
        rw [List.filter_eq_nil_iff]
        intro d hd
        have : d.line = 1 := (by decide +kernel : ∀ d ∈ crowded.configuration.devices, d.line = 1) d hd
        simp [this, Ne.symm h]
      rw [this]; decide
  · intro c h; cases h
  · intro cp c h; cases h
  · decide +kernel

/-- R126, R127: the rows that change no entry, and the completion after address 126. -/
theorem test_probe_outcomes :
    let count (c : Instr) (s : State) : Option Enrolment := ((run c s).line? 1).bind (·.enrolment)
    count (.replyComplete 1 (replyPacket 20 0xD1 [4])) crowded = some ⟨21, 1, 0, 0, 1⟩
      ∧ count (.replyComplete 1 (replyPacket 17 0xD1 [4])) { probing 17 with devices := crowded.devices } = some ⟨18, 1, 0, 0, 1⟩
      ∧ count (.replyComplete 1 (replyPacket 14 0xD1 [8])) (probing 14) = some ⟨15, 0, 0, 0, 0⟩
      ∧ ((run (.replyTimeout 1 []) (probing 126)).line? 1).map (fun r => (r.state, r.enrolment, r.roundInProgress))
        = some (.active, none, true)
      ∧ (run (.replyTimeout 1 []) (probing 126)).notices.map (·.body) = [.enrolDone true 0 0 0 0] := by
  refine ⟨?_, ?_, ?_, ?_, ?_⟩ <;> decide +kernel

/-- A packet for each class of R134, with a byte after it: wrong parity, no stop bit, a payload of 13, a sum of 1, another
address, another kind, a value out of range, and one that passes. -/
def packets : List (List FieldByte) :=
  [(replyPacket 14 0xD0 [100]).set 0 ⟨14, false, true⟩, (replyPacket 14 0xD0 [100]).set 4 ⟨0xBA, true, false⟩,
   replyPacket 14 0xD0 (List.replicate 13 0), (replyPacket 14 0xD0 [100]).set 3 (fieldByte 101), replyPacket 15 0xD0 [100],
   replyPacket 14 0xD1 [100], replyPacket 14 0xD0 [101], replyPacket 14 0xD0 [100]]

theorem witness_ReplyPacketsAreRead_classes :
    packets.map (fun p => (classifyPacket .poll 14 (some (active 1 14 .dimmer)) p, completePacket (p ++ [fieldByte 0]) == some p))
      = [(.failed .garbled, true), (.failed .garbled, true), (.failed .garbled, true), (.failed .garbled, true),
         (.failed .wrongReply, true), (.failed .wrongReply, true), (.failed .wrongReply, true), (.ok [100], true)]
      ∧ ((replyPacket 14 0xD0 [100]).map (·.data)) = 14 :: 0xD0 :: 1 :: [100] ++ [0xBD] := by
  refine ⟨?_, ?_⟩ <;> decide +kernel

/-- Line 1 with a SET in flight for this device. -/
def setting (a v : Nat) (i : Issuer) (retries : Nat) : State :=
  withLine 1 fun r => { r with inFlight := some ⟨.set v i, a, retries, none, true⟩, hangCount := 2 }

/-- A success for each owner and for a plant's command, and a transaction whose entry has been retired. -/
theorem witness_PollSucceeds_outcomes :
    ([(14, 60, .governor 3), (22, 60, .bank 3), (30, 1, .arbiter 1)] : List (Nat × Nat × Issuer)).all (fun q =>
      let s := setting q.1 q.2.1 q.2.2 3
      s.running && (s.device? ⟨1, q.1⟩).isSome
        && contentSuits (s.device? ⟨1, q.1⟩) (be 1 q.2.1) (.set q.2.1 q.2.2) && s.issuerNames q.2.2 ⟨1, q.1⟩
        && (s.owner? ⟨1, q.1⟩).isSome) = true
      ∧ { polling 0 with devices := [] }.device? ⟨1, 20⟩ = none
      ∧ contentSuits none [0, 180, 0, 95, 0] .poll = true ∧ 1 = Duty.humidify.code
      ∧ (setting 22 60 (.bank 3) 3).issuerNames (.bank 3) ⟨1, 14⟩ = false := by decide +kernel

/-- R56, R94, R93: a bank that was FAULTED is ACTIVE again, and sends its closure since nothing is on the way for its device;
an acknowledged duty completes a changeover whose timer has expired. -/
theorem test_successes :
    let s : State := { (withLine 1 fun r => { r with inFlight := some ⟨.poll, 22, 0, none, true⟩ }).putBank 3
      { bank3 with state := .faulted, commanded := 70 } with
      devices := gallery.devices.map fun e => if e.address = 22 then { e with state := .faulted, failures := 3 } else e }
    let t := run (.replyComplete 1 (replyPacket 22 0xD0 [40])) s
    let u := run (.replyComplete 1 (replyPacket 30 0xD2 [1]))
      ((setting 30 1 (.arbiter 1) 0).putPlant 1 { changing false with changeDue := none, changeExpired := true })
    (t.bank? 3).map (·.state) = some .active ∧ (t.line? 1).map (·.queue) = some [⟨22, 70, .bank 3⟩]
      ∧ t.notices.map (·.body) = [.deviceRecovered 1 22] ∧ (u.plant? 1).map (·.state) = some .running := by
  refine ⟨?_, ?_, ?_, ?_⟩ <;> decide +kernel

/-- R117: a command acknowledged by an entry that a probe has made a sensor meanwhile leaves no report. -/
theorem test_no_report_of_a_sensor :
    let t := run (.replyComplete 1 (replyPacket 20 0xD2 [60])) (setting 20 60 (.bank 3) 0)
    (t.device? ⟨1, 20⟩).map (fun e => (e.state, e.acked, e.reported)) = some (.active, none, none)
      ∧ ((run (.replyComplete 1 (replyPacket 22 0xD2 [60])) (setting 22 60 (.bank 3) 0)).device? ⟨1, 22⟩).map (·.acked)
        = some (some 60) := by decide +kernel

theorem witness_AttemptTimesOut_outcomes :
    AttemptFails (.replyTimeout 1 []) (setting 14 60 (.governor 3) 3) 1 ⟨.set 60 (.governor 3), 14, 3, none, true⟩ .noReply
      ∧ AttemptFails (.replyTimeout 1 [fieldByte 14]) (setting 22 60 (.bank 3) 3) 1 ⟨.set 60 (.bank 3), 22, 3, none, true⟩ .garbled
      ∧ AttemptFails (.replyComplete 1 (replyPacket 30 0xD2 [2])) (setting 30 1 (.arbiter 1) 3) 1
          ⟨.set 1 (.arbiter 1), 30, 3, none, true⟩ .wrongReply
      ∧ ([(14, 60, .governor 3), (22, 60, .bank 3), (30, 1, .arbiter 1)] : List (Nat × Nat × Issuer)).all (fun q =>
        let s := setting q.1 q.2.1 q.2.2 3
        s.running && (s.line? 1).any (fun r => decide (r.retryLimit ≤ 3)) && (s.device? ⟨1, q.1⟩).any fun e => e.failures == 0) = true
      ∧ { setting 20 0 (.bank 3) 3 with devices := [] }.device? ⟨1, 20⟩ = none :=
  ⟨.inl ⟨rfl, rfl⟩, .inr (.inl ⟨_, _, rfl, rfl⟩), .inr (.inr ⟨_, replyPacket 30 0xD2 [2], rfl, by decide +kernel, by decide +kernel⟩),
   by decide +kernel, by decide +kernel⟩

/-- R142, R95, R124: the third final failure of a duty command makes device and plant FAULTED, the plant by its owner's report;
the first final failure of a dimmer command owes a refresh. -/
theorem test_final_failures_of_commands :
    let s : State := { (setting 30 1 (.arbiter 1) 3).putPlant 1 (changing false) with
      devices := gallery.devices.map fun e => { e with failures := 2 } }
    let t := run (.replyTimeout 1 []) s
    t.notices.map (·.body) = [.deviceFault 1 30 .noReply 3, .plantFault .deviceFaulted .humidify]
      ∧ (t.plant? 1).map (fun r => (r.state, r.service, r.waiting)) = some (.faulted, [], [demand3])
      ∧ ((run (.replyTimeout 1 []) (setting 14 60 (.governor 3) 3)).zone? 3).map (·.light.refreshOwed) = some true := by
  refine ⟨?_, ?_, ?_⟩ <;> decide +kernel

theorem witness_ReportSetAndPulse_refusals :
    ([[8, 1, 0], [0, 0, 0], [0, 8, 0], [0, 1, 2]] : List (List Byte)).map (fun b => answer (.reportSet 7 b) gallery)
      = List.replicate 4 (some [0x13])
      ∧ TakenUp (.reportSet 7 [8, 1, 0]) gallery ∧ TakenUp (.reportSet 7 [0, 0, 0]) gallery
      ∧ TakenUp (.reportSet 7 [0, 8, 0]) gallery ∧ TakenUp (.reportSet 7 [0, 1, 2]) gallery := by
  refine ⟨?_, ready ?_, ready ?_, ready ?_, ready ?_⟩ <;> decide +kernel

/-- The commands of a DoseDecreasesOnlyThrough that take up requests that wait: none of them is of either kind. -/
theorem witness_DoseDecreasesOnlyThrough_intake :
    (∀ f ∈ atHand (.outputFrameSent ⟨true, true⟩) busy, f.kind ≠ 0x0A ∧ f.kind ≠ 0x0D)
      ∧ (atHand (.outputFrameSent ⟨true, true⟩) busy).length = 2
      ∧ (∀ f ∈ atHand (.lightSample 3) busy, f.kind ≠ 0x0A ∧ f.kind ≠ 0x0D) := by decide +kernel

/-- RESTART meeting an enrolment on either line, with a probe in flight and with a poll in flight. -/
theorem witness_RestartRunsFullCheckpoint_enrolments :
    TakenUp (.restart 7 []) (probing 14) ∧ ((probing 14).line? 1).map (·.state) = some .enrolling
      ∧ TakenUp (.restart 7 []) (withLine 2 fun r => { r with
          enrolment := some ⟨1, 0, 0, 0, 0⟩, inFlight := some ⟨.poll, 65, 0, none, true⟩ })
      ∧ TakenUp (.restart 7 []) (withLine 2 fun r => { r with
          enrolment := some ⟨1, 0, 0, 0, 0⟩, roundInProgress := false, roundDue := none })
      ∧ TakenUp (.restart 7 []) { gallery with checkpoint := some writingZone3 } := by
  refine ⟨ready ?_, ?_, ready ?_, ready ?_, ready ?_⟩ <;> decide +kernel

/-- The gallery in a RESTART whose reply is being sent, with this many requests and replies that wait. -/
def restartingQueued (intake replies : Nat) : State :=
  { queued intake replies with
    restarting := some ⟨false, false, false⟩
    link := { (queued intake replies).link with output := some ⟨[0xA5], true⟩ } }

theorem witness_RestartRunsFullCheckpoint_until_start :
    (restartingQueued 3 8).running = true ∧ (restartingQueued 3 8).restarting = some ⟨false, false, false⟩
      ∧ Instr.request? (.identify 7 []) = some ⟨7, 1, []⟩ ∧ (restartingQueued 3 8).link.intake.length < 4
      ∧ 4 ≤ (restartingQueued 4 7).link.intake.length ∧ (restartingQueued 4 7).link.replies.length < 8
      ∧ 8 ≤ (restartingQueued 4 8).link.replies.length ∧ (restartingQueued 0 1).link.output = some ⟨[0xA5], true⟩
      ∧ (restartingQueued 0 1).link.replies = [⟨1, 0x81, [0]⟩]
      ∧ { restartingQueued 0 0 with notices := [⟨.lineRestored, .line 1, 5⟩] }.notices = [⟨.lineRestored, .line 1, 5⟩]
      ∧ (restartingQueued 0 0).link.replies = [] ∧ (restartingQueued 0 0).notices = []
      ∧ (restartingWith ⟨false, false, false⟩ (some ⟨true, .config record, 0, 0⟩)).checkpoint = some ⟨true, .config record, 0, 0⟩
      ∧ (restartingWith ⟨false, false, false⟩ (some fullZone16)).checkpoint = some fullZone16
      ∧ (restartingWith ⟨true, false, false⟩ (some { fullZone16 with full := false })).restarting = some ⟨true, false, false⟩
      ∧ (∀ k r, gallery.zone? k = some r → ¬ fullZone16.writing.number < k) := by
  refine ⟨?_, ?_, ?_, ?_, ?_, ?_, ?_, ?_, ?_, ?_, ?_, ?_, ?_, ?_, ?_, forZones ?_⟩ <;> decide +kernel

/-- R174, R161, R128: what waits during a RESTART; the enrolment and its probe are gone, the line starts a round; the last
write of the checkpoint that was waited for is followed by a full one. -/
theorem test_restart_meanwhile :
    (run (.identify 9 []) (restartingQueued 3 0)).link.intake.length = 4
      ∧ (run (.identify 9 []) (restartingQueued 4 7)).link.replies.getLast? = some ⟨9, 0x81, [0x10]⟩
      ∧ run (.identify 9 []) (restartingQueued 4 8) = restartingQueued 4 8
      ∧ ((run (.restart 7 []) (probing 14)).line? 1).map (fun r => (r.state, r.enrolment, r.inFlight, r.roundInProgress))
        = some (.active, none, none, true)
      ∧ ((run (.recordWriteEnd true ⟨true, true⟩)
          (restartingWith ⟨true, false, false⟩ (some { fullZone16 with full := false }))).checkpoint.map fun w => (w.full, w.writing.number))
        = some (true, 0) := by
  refine ⟨?_, ?_, ?_, ?_, ?_⟩ <;> decide +kernel

/-! ## Witnesses and tests of the clauses on shapes, ranges, resolution, hangs and empty checkpoints -/

/-- Bodies that no values of the fields spell: too short, a count that promises more, and a presence byte of 2. -/
theorem witness_RefusedBeforeOwningRule_shapes :
    TakenUp (.zoneDefine 7 [3]) gallery ∧ (∀ (z : Byte) (f : DefinitionFields), f.fits → [3] ≠ z :: f.bytes)
      ∧ TakenUp (.zoneBind 7 [3, 1]) gallery
      ∧ (∀ (z : Byte) (es : List (Byte × Byte × Byte × Byte)), es.length < 256 →
          [3, 1] ≠ z :: counted (fun e => [e.1, e.2.1, e.2.2.1, e.2.2.2]) es)
      ∧ TakenUp (.marksClear 7 [3, 1]) gallery
      ∧ (∀ z : Byte, ∀ names : List Byte, names.length < 256 → [3, 1] ≠ z :: counted (fun b => [b]) names)
      ∧ TakenUp (.climateBand 7 [3]) gallery
      ∧ (∀ (z : Byte) (b : Band), b.fits → [3] ≠ z :: b.sent ∧ [3] ≠ z :: b.sentWithout)
      ∧ TakenUp (.bankDefine 7 [3, 1, 22, 2]) gallery
      ∧ ∀ (b l a : Byte) (slew : Option Byte), [3, 1, 22, 2] ≠ [b, l, a] ++ optional (fun v => [v]) slew := by
  refine ⟨ready (by decide +kernel), ?_, ready (by decide +kernel), ?_, ready (by decide +kernel), ?_,
    ready (by decide +kernel), ?_, ready (by decide +kernel), ?_⟩
  · intro z f _ h
    simpa [DefinitionFields.bytes, be] using congrArg List.length h
  · intro z es _ h
    cases es with
    | nil => simp [counted, be] at h
    | cons e es => simpa [counted, be] using congrArg List.length h
  · intro z names _ h
    cases names with
    | nil => simp [counted, be] at h
    | cons e es => simpa [counted, be] using congrArg List.length h
  · intro z b _
    constructor <;> intro h <;> simpa [Band.sent, Band.sentWithout, be] using congrArg List.length h
  · intro b l a slew h
    cases slew <;> simp [Machine.optional, be] at h

/-- R162: each of these bodies is refused with SHAPE. -/
theorem test_shapes :
    ([.zoneDefine 7 [3], .zoneBind 7 [3, 1], .marksClear 7 [3, 1], .climateBand 7 [3], .bankDefine 7 [3, 1, 22, 2]] :
      List Instr).all (fun c => answer c gallery = some [0x12]) = true := by decide +kernel

theorem witness_ranges :
    TakenUp (.zoneRead 7 [0]) gallery ∧ TakenUp (.zoneRead 7 [17]) gallery ∧ TakenUp (.plantHold 7 [0, 4]) gallery
      ∧ TakenUp (.plantHold 7 [3, 0]) gallery ∧ TakenUp (.plantHold 7 [2, 5]) gallery
      ∧ TakenUp (.plantRelease 7 [0]) gallery ∧ TakenUp (.plantRelease 7 [3]) gallery
      ∧ TakenUp (.deviceRetire 7 [0, 1]) gallery ∧ TakenUp (.deviceRetire 7 [3, 126]) gallery
      ∧ TakenUp (.deviceRetire 7 [1, 0]) gallery ∧ TakenUp (.deviceRetire 7 [2, 127]) gallery := by
  refine ⟨ready ?_, ready ?_, ready ?_, ready ?_, ready ?_, ready ?_, ready ?_, ready ?_, ready ?_, ready ?_, ready ?_⟩ <;>
    decide +kernel

/-- R19, R99, R100, R130: each of these is refused with RANGE. -/
theorem test_ranges :
    ([.zoneRead 7 [0], .zoneRead 7 [17], .plantHold 7 [0, 4], .plantHold 7 [3, 0], .plantHold 7 [2, 5], .plantRelease 7 [0],
      .plantRelease 7 [3], .deviceRetire 7 [0, 1], .deviceRetire 7 [3, 126], .deviceRetire 7 [1, 0],
      .deviceRetire 7 [2, 127]] : List Instr).all (fun c => answer c gallery = some [0x13]) = true := by decide +kernel

theorem witness_FramesAreReceived_check :
    2 ≤ (2 : Byte).toNat ∧ ([7, 1] : List Byte).length = (2 : Byte).toNat ∧ ([0, 0] : List Byte).length = 2
      ∧ ([2, 7, 1, 0] : List Byte) ++ [0] = 2 :: [7, 1] ++ [0, 0]
      ∧ ([0, 0] : List Byte) ≠ be 2 (crc16 (2 :: [7, 1])).toNat := by decide +kernel

/-- R160: a frame whose check does not match is discarded, and no reply is queued. -/
theorem test_bad_check :
    run (.uartByteReceived 0 true) (assembling [2, 7, 1, 0]) = gallery := by decide +kernel

/-- A device of zone 16's set with a reading of this age in the gallery. -/
def reporting (a age : Nat) (lux : Int) : Device :=
  { active 1 a .lightSensor with
    reading := some { clock := 0, arrived := 1000 - age, illuminance := some ⟨lux, true⟩, uvRatio := some ⟨0, false⟩,
                      rh := none, temperature := none } }

theorem witness_ZoneBindReplaces_resolution :
    (⟨1, 20, 127, .light⟩ : Binding).binds (active 1 20 .lightSensor) = true
      ∧ active 1 20 .lightSensor ∈ gallery.boundTo [⟨1, 20, 127, .light⟩] .light
      ∧ freshMean [reporting 20 30 100, reporting 21 0 103] 1000 (·.illuminance) ≠ none
      ∧ freshMean [reporting 20 31 100] 1000 (·.illuminance) = none
      ∧ zone3.measure.light.lastFresh = 0 := by decide +kernel

/-- R107 to R110: a reading of age 30 s is used and one of 31 s is not, an invalid quantity is none, and the mean of 100 and 103
is 102; a channel without one is held at 29 s and BLIND at 30 s. -/
theorem test_resolution :
    freshMean [reporting 20 30 100, reporting 21 0 103, reporting 22 31 900] 1000 (·.illuminance) = some 102
      ∧ freshMean [reporting 20 30 100] 1000 (·.uvRatio) = none
      ∧ (zone3.measure.resolveLight 29 none none).light = ⟨false, 0⟩
      ∧ (zone3.measure.resolveLight 30 none none).light = ⟨true, 0⟩
      ∧ (zone3.measure.resolveClimate 30 none (some (-12))).climate = ⟨false, 30⟩
      ∧ (zone3.measure.resolveClimate 30 none (some (-12))).temperature = some (-12) := by decide +kernel

/-- The two sides of R = 0 and of the permitted level at the floor. -/
theorem witness_ReviewTargetRange_cases :
    let a (dose : Nat) : Account := ⟨dose, 0, 0, some ⟨1, 1, 0⟩, none, false⟩
    (a 3599).season = some ⟨1, 1, 0⟩ ∧ (0 : Int) < 1 * 3600 - 3599 ∧ ((1 : Int) * 3600 - 3600 ≤ 0)
      ∧ (⟨0, 0, 0, none, none, false⟩ : Account).season = none
      ∧ plain.policy = .visibility ∧ { plain with policy := .budget }.policy = .budget := by decide +kernel

/-- R42: at R = 1 the permitted level is 0: PRESSURE at the floor, DARK under BUDGET, and WITHIN at a floor of 0. -/
theorem test_budget_at_zero :
    let a : Account := ⟨3599, 0, 0, some ⟨1, 1, 0⟩, none, false⟩
    budget plain a = (25, 0, .pressure) ∧ budget { plain with policy := .budget } a = (0, 0, .dark)
      ∧ budget { plain with floor := 0 } a = (0, 0, .within) := by decide +kernel

/-- Line 2 enrolling, or about to enrol with a poll in flight, at this hang count. -/
def hangingEnrolment (state : LineState) (hangCount : Nat) : State :=
  withLine 2 fun r => { r with
    state, hangCount, enrolment := some ⟨40, 3, 1, 2, 0⟩
    inFlight := some (if state = .enrolling then ⟨.ident, 40, 0, none, true⟩ else ⟨.poll, 65, 1, none, true⟩) }

/-- Line 1 at the end of a recovery wait, its round over and due. -/
def roundDue : State :=
  withLine 1 fun r => { r with
    state := .recovering, hangCount := 1, recoveryDue := some 1000, roundInProgress := false, roundDue := none }

theorem witness_HangsAreRecovered_enrolment :
    ((hangingEnrolment .enrolling 0).line? 2).map (fun r => (r.state, r.hangCount, r.enrolment))
        = some (.enrolling, 0, some ⟨40, 3, 1, 2, 0⟩)
      ∧ ((hangingEnrolment .active 1).line? 2).map (fun r => (r.state, r.hangCount, r.enrolment))
        = some (.active, 1, some ⟨40, 3, 1, 2, 0⟩)
      ∧ (roundDue.line? 1).map (fun r => (r.state, r.recoveryDue, r.roundInProgress, r.roundDue, r.enrolment))
        = some (.recovering, some 1000, false, none, none)
      ∧ 1000 ≤ roundDue.now ∧ roundDue.running = true ∧ (hangingEnrolment .enrolling 0).running = true
      ∧ ((stepping 0 0 .disabled).line? 1).map (·.state) = some .disabled := by decide +kernel

/-- R144, R128: LINE HUNG names the probe, ENROL DONE ABANDONED follows, the probe is dropped; a poll in flight is kept; and
R145: a round that is due starts with the line. -/
theorem test_hang_of_enrolment :
    let t := run (.hangDetected 2) (hangingEnrolment .enrolling 0)
    let u := run (.hangDetected 2) (hangingEnrolment .active 1)
    t.notices.map (·.body) = [.lineHung 1 (some (40, 0x51)), .enrolDone false 3 1 2 0]
      ∧ (t.line? 2).map (fun r => (r.state, r.inFlight, r.enrolment)) = some (.recovering, none, none)
      ∧ (u.line? 2).map (fun r => (r.state, r.hangCount, r.inFlight))
        = some (.recovering, 2, some ⟨.poll, 65, 1, none, false⟩)
      ∧ ((run (.recoveryWaitExpiry 1) roundDue).line? 1).map (fun r => (r.state, r.roundInProgress, r.roundDue))
        = some (.active, true, some 1002) := by decide +kernel

theorem witness_ThirdHangDisables_enrolment :
    ((hangingEnrolment .enrolling 2).line? 2).map (fun r => (r.state, r.hangCount, r.queue, r.enrolment))
        = some (.enrolling, 2, [], some ⟨40, 3, 1, 2, 0⟩)
      ∧ ((hanging 2).line? 1).bind (·.inFlight) = some ⟨.set 60 (.bank 3), 22, 1, none, true⟩
      ∧ (hanging 2).report.mode = .level
      ∧ { hanging 2 with report := ⟨2, 6, .pulse⟩ }.report.mode = .pulse := by decide +kernel

/-- R146: with nothing to discard COMMANDS DISCARDED is not offered, and ENROL DONE stands before LINE DISABLED. -/
theorem test_third_hang_of_enrolment :
    (run (.hangDetected 2) (hangingEnrolment .enrolling 2)).notices.map (·.body)
      = [.lineHung 3 (some (40, 0x51)), .enrolDone false 3 1 2 0, .lineDisabled] := by decide +kernel

/-- Nothing to write: no zone is defined, and the flag is no. -/
def nothingToWrite : State := { State.reset with now := 900, configChanged := false }

theorem witness_CheckpointsBegin_empty :
    nothingToWrite.checkpoint = none ∧ nothingToWrite.configChanged = false ∧ (∀ z, nothingToWrite.zone? z = none)
      ∧ nothingToWrite.running = true ∧ nothingToWrite.checkpointDue ≤ nothingToWrite.now
      ∧ nothingToWrite.restarting = none ∧ TakenUp (.checkpointNow 7 []) nothingToWrite
      ∧ { nothingToWrite with now := 899 }.now < { nothingToWrite with now := 899 }.checkpointDue := by
  refine ⟨?_, ?_, ?_, ?_, ?_, ?_, ready ?_, ?_⟩
  pick_goal 3
  · intro z
    by_contra h
    obtain ⟨r, hr⟩ := Option.ne_none_iff_exists'.1 h
    exact forZones (P := fun _ _ => False) (by decide +kernel) z r hr
  all_goals decide +kernel

/-! ## Entering RUNNING, and plants on lines that take no command -/

/-- Zone 3 with a pulse in flight, its plant 1 about to run HUMIDIFY for it, its commanded duty NEUTRAL and line 1 in this state. -/
def aboutToRun (r : Plant) (state : LineState) : State :=
  ((withZone fun x => { x with climate := { x.climate with pulse := some ⟨.humidify, ⟨2, 40⟩, 1200⟩ } }).putPlant 1
    { r with commanded := .neutral }).modLine 1 fun l => { l with state }

def heldToRun (state : LineState) : State :=
  aboutToRun { plant1 with state := .held, target := .dry, physical := .humidify, waiting := [demand3], arrivals := 1 } state

theorem witness_PlantReleaseSelects_lines :
    ([heldToRun .active, heldToRun .disabled, heldPlant [] .neutral] : List State).all (fun s =>
        (s.plant? 1).any fun r => r.state == .held && r.service.isEmpty) = true
      ∧ ((heldToRun .active).plant? 1).map (fun r => (r.waiting, r.physical, r.commanded))
        = some ([demand3], .humidify, .neutral)
      ∧ ((heldToRun .active).line? 1).any (·.state.takesCommands) = true
      ∧ ((heldToRun .disabled).line? 1).any (·.state.takesCommands) = false
      ∧ TakenUp (.plantRelease 7 [1]) (heldToRun .active) ∧ TakenUp (.plantRelease 7 [1]) (heldToRun .disabled)
      ∧ ((heldPlant [] .dry).plant? 1).map (·.physical) = some .dry
      ∧ ((gallery.putPlant 1 { plant1 with state := .held, target := .neutral }).plant? 1).map
        (fun r => (r.waiting, r.physical, r.commanded)) = some ([], .neutral, .neutral) := by
  refine ⟨?_, ?_, ?_, ?_, ready ?_, ready ?_, ?_, ?_⟩ <;> decide +kernel

/-- R86, R75: the duty command, PLANT DUTY and the OFF by which service begins ends the pulse; on a DISABLED line the fault first. -/
theorem test_enter_running :
    let seen (s : State) : List NoticeBody × Option (List Command) × Option (List Command) × Bool :=
      (s.notices.map (·.body), (s.line? 1).map (·.queue), (s.line? 2).map (·.queue),
        (s.zone? 3).any fun x => x.climate.pulse.isNone)
    seen (run (.plantRelease 7 [1]) (heldToRun .active))
        = ([], some [⟨30, 1, .arbiter 1⟩], some [⟨40, 0, .tracker 3⟩], true)
      ∧ (run (.plantRelease 7 [1]) { heldToRun .active with report := ⟨0, 6, .level⟩ }).notices.map (·.body)
        = [.plantDuty .humidify 3 1]
      ∧ seen (run (.plantRelease 7 [1]) { heldToRun .disabled with report := ⟨0, 6, .level⟩ })
        = ([.plantFault .commandFailed .humidify, .plantDuty .humidify 3 1], some [], some [⟨40, 0, .tracker 3⟩], true) := by
  decide +kernel

def changingToRun : State := aboutToRun (changing true) .active

theorem witness_PlantTimersExpire_running :
    (changingToRun.plant? 1).map (fun r => (r.state, r.changeDue, r.changeAcked)) = some (.changeover, some 1000, true)
      ∧ (changingToRun.plant? 1).map (fun r => (r.service, r.commanded, r.target)) = some ([demand3], .neutral, .humidify)
      ∧ 1000 ≤ changingToRun.now ∧ changingToRun.running = true
      ∧ (∃ h, ({ running1 with waiting := [⟨16, .heat, 4, 2⟩] } : Plant).waiting.head? = some h ∧ running1.serviceLevel < h.level)
      ∧ ((runningPlant fun r => { r with arrivals := 4294967295 }).plant? 1).map (·.arrivals) = some 4294967295 :=
  ⟨by decide +kernel, by decide +kernel, by decide +kernel, by decide +kernel, ⟨_, rfl, by decide⟩, by decide +kernel⟩

/-- R93 with R86 and R75; and R83: with the counter at its end the demands are renumbered and the raise takes the next number. -/
theorem test_running_and_renumbering :
    let t := run (.changeoverTimerExpiry 1) changingToRun
    let full : State := runningPlant fun r => { r with
      arrivals := 4294967295, service := [⟨3, .humidify, 3, 4294967295⟩], waiting := [⟨5, .dry, 2, 9⟩, ⟨6, .dry, 2, 70⟩] }
    (t.line? 1).map (·.queue) = some [⟨30, 1, .arbiter 1⟩] ∧ (t.line? 2).map (·.queue) = some [⟨40, 0, .tracker 3⟩]
      ∧ ((full.raise 1 16 .heat 2).plant? 1).map (fun r => (r.service.map (·.arrival), r.waiting.map (·.arrival), r.arrivals))
        = some ([3], [1, 2, 4], 4) := by decide +kernel

/-! ## Further clauses: offers, the alarm line, lines that take no command -/

theorem witness_OffersMeetTheQueue_alarm :
    (noticed 0 .pulse).report.mode = .pulse ∧ (NoticeBody.lineRestored).level < (noticed 0 .pulse).report.alarmLevel
      ∧ (noticed 0 .level).report.mode = .level := by decide

theorem witness_SeasonsAndAdjustment_offers :
    let s (mode : AlarmMode) : State := { gallery with report := ⟨2, 6, mode⟩ }
    (s .pulse).zone? 3 = some zone3 ∧ (s .level).zone? 3 = some zone3 ∧ (s .pulse).report.mode = .pulse
      ∧ TakenUp (.accountAdjust 7 (be 1 3 ++ be 6 1099511627775 ++ be 4 0)) (s .pulse)
      ∧ TakenUp (.accountAdjust 7 (be 1 3 ++ be 6 1099511627774 ++ be 4 0)) (s .level) := by
  refine ⟨?_, ?_, ?_, ready ?_, ready ?_⟩ <;> decide +kernel

/-- R34, R156: SATURATED, of level 6, is offered and begins a pulse at alarm level 6. -/
theorem test_account_adjust_offers :
    let t := run (.accountAdjust 7 (be 1 3 ++ be 6 1099511627775 ++ be 4 0)) { gallery with report := ⟨2, 6, .pulse⟩ }
    t.notices.map (·.body) = [.markSet .saturated] ∧ t.alarm = true ∧ t.pulsing = true := by decide +kernel

/-- Line 1 DISABLED, in a part with this many notices and these settings. -/
def disabledWith (n : Nat) (mode : AlarmMode) : State := (noticed n mode).modLine 1 fun l => { l with state := .disabled }

theorem witness_LineRequests_offers :
    ([disabledWith 32 .level, disabledWith 0 .pulse, { disabledWith 0 .pulse with report := ⟨3, 2, .pulse⟩ }] : List State).all
        (fun s => (s.line? 1).any (·.state == .disabled)) = true
      ∧ (disabledWith 32 .level).report.mode = .level ∧ (disabledWith 0 .pulse).report.mode = .pulse
      ∧ TakenUp (.lineEnable 7 [1]) (disabledWith 32 .level) ∧ TakenUp (.lineEnable 7 [1]) (disabledWith 0 .pulse) := by
  refine ⟨?_, ?_, ?_, ready ?_, ready ?_⟩ <;> decide +kernel

/-- R147, R156: below the report floor LINE RESTORED is not queued, and at alarm level 2 it begins a pulse all the same. -/
theorem test_line_enable_offers :
    let t := run (.lineEnable 7 [1]) { disabledWith 0 .pulse with report := ⟨3, 2, .pulse⟩ }
    t.notices = [] ∧ t.alarm = true ∧ t.pulsing = true
      ∧ (run (.lineEnable 7 [1]) (disabledWith 0 .pulse)).alarm = false := by decide +kernel

theorem witness_ZoneOpenAndClose_lines :
    ((stepping 0 0 .disabled).zone? 3).map (fun r => (r.isOpen, r.defn.dimmer)) = some (true, some ⟨1, 14⟩)
      ∧ ((stepping 0 0 .disabled).line? 1).any (·.state.takesCommands) = false
      ∧ ((gallery.putZone 16 { zone16 with isOpen := true }).zone? 16).map (fun r => (r.isOpen, r.defn.dimmer))
        = some (true, none)
      ∧ TakenUp (.zoneClose 7 [3]) (stepping 0 0 .disabled)
      ∧ TakenUp (.zoneClose 7 [16]) (gallery.putZone 16 { zone16 with isOpen := true }) := by
  refine ⟨?_, ?_, ?_, ready ?_, ready ?_⟩ <;> decide +kernel

/-- The zone closed by its review on line 1 in this state, and zone 16, which has no dimmer, under review. -/
def reviewedOn (state : LineState) : State := (reviewed 56 40 30 true false .inBand).modLine 1 fun l => { l with state }

theorem witness_LightReviewGoverns_lines :
    ((reviewedOn .disabled).zone? 3).any (fun r => decide (r.reviewDue ≤ (reviewedOn .disabled).now)) = true
      ∧ ((reviewedOn .disabled).line? 1).any (·.state.takesCommands) = false
      ∧ (gallery.zone? 16).any (fun r => r.defn.dimmer == none && decide (r.reviewDue ≤ gallery.now)) = true := by
  decide +kernel

/-- R9, R48, R141: a command that fails at once leaves a refresh owed and the queue as it was; with no dimmer none is owed. -/
theorem test_refresh_owed :
    let seen (s : State) (z : Nat) : Option Bool × Option (List Command) :=
      ((s.zone? z).map (·.light.refreshOwed), (s.line? 1).map (·.queue))
    seen (run (.lightReview 3) (reviewedOn .disabled)) 3 = (some true, some [])
      ∧ seen (run (.lightReview 3) (reviewedOn .active)) 3 = (some false, some [⟨14, 30, .governor 3⟩])
      ∧ seen (run (.lightReview 16) gallery) 16 = (some false, some [])
      ∧ seen (run (.zoneClose 7 [3]) (reviewedOn .disabled)) 3 = (some true, some []) := by decide +kernel

theorem witness_RecordWriteEnds_account :
    (1 : Nat) ≤ 16 ∧ { gallery with checkpoint := some writingZone3 }.checkpoint = some writingZone3
      ∧ writingZone3.writing = .account 3 zone3.accountRecord ∧ gallery.zone? 16 = some zone16
      ∧ (∀ k r, gallery.zone? k = some r → ¬ (3 < k ∧ k < 16)) :=
  ⟨by decide, rfl, rfl, by decide +kernel, forZones (by decide +kernel)⟩

/-! ## What the reads carry -/

theorem witness_PartAndZoneReads_demand :
    (engaged.zone? 3).any (fun r => r.climate.demand.any fun d => (engaged.plant? d.plant).any fun p =>
        (p.service ++ p.waiting).any fun x => x.zone == 3) = true
      ∧ gallery.zone? 3 = some zone3 ∧ zone3.climate.demand = none
      ∧ TakenUp (.zoneRead 7 [3]) engaged ∧ TakenUp (.zoneRead 7 [3]) gallery := by
  refine ⟨?_, ?_, ?_, ready ?_, ready ?_⟩ <;> decide +kernel

/-- R19: ZONE READ of zone 3, its bytes written out from the list of R19 and the forms of R159 (log entries 5, 7). -/
theorem test_zone_read :
    answer (.zoneRead 7 [3]) gallery = some
      ([0, 2] ++ [0, 50, 0, 25, 0, 0, 75, 1, 100, 60, 1, 1, 1, 14, 1, 2, 40, 1, 3, 1, 0, 30, 0]
        ++ [1, 0x01, 0xF4, 50, 15, 0, 80, 0, 200, 20, 5, 4]
        ++ [0, 0, 0, 0, 0, 0, 0, 0, 100, 100]
        ++ [0, 1, 0, 1, 0, 1, 0, 1, 0, 0] ++ [0, 0, 0, 1, 4, 0] ++ [0] ++ [0, 0, 1] ++ [0]) := by decide +kernel

/-! ## What the output takes up, the bytes of a notice, a reading, and what fails at once -/

/-- The gallery with its output idle, and these replies and notices waiting. -/
def idling (replies : List Frame) (notices : List Notice) : State :=
  { gallery with notices, link := { gallery.link with replies, output := none } }

/-- LINE HUNG of line 2 for the first time, a poll of address 14 abandoned. -/
def hungNotice : Notice := ⟨.lineHung 1 (some (14, 0x50)), .line 2, 7200⟩

theorem witness_OutputChoosesNext_idle :
    (idling [⟨7, 0x9F, [0]⟩] [hungNotice]).link.output = none
      ∧ (idling [⟨7, 0x9F, [0]⟩] [hungNotice]).link.replies = [⟨7, 0x9F, [0]⟩]
      ∧ (idling [⟨7, 0x9F, [0]⟩] [hungNotice]).notices = [hungNotice]
      ∧ (idling [⟨7, 0x9F, [0]⟩] []).notices = [] ∧ (idling [] [hungNotice]).link.replies = []
      ∧ { gallery with link := { gallery.link with output := some ⟨[], false⟩ } }.link.output ≠ none :=
  ⟨rfl, rfl, rfl, rfl, rfl, nofun⟩

/-- R164, R150: the bodies of two notice frames, written out from the tables; the clock is 1C20 hex. -/
theorem test_notice_frame :
    hungNotice.frame = ⟨0, 0xF0, [4, 4, 3, 0, 2, 0, 0, 0x1C, 0x20, 4, 1, 1, 14, 0x50]⟩
      ∧ (Notice.frame ⟨.deviceFault 1 20 .garbled 3, .device 1 20, 7200⟩).body
        = [2, 4, 2, 1, 20, 0, 0, 0x1C, 0x20, 4, 1, 20, 1, 3] := by decide +kernel

theorem witness_PollSucceeds_reading :
    (⟨wordOf 0 180, !(2 : Byte).getLsbD 0⟩ : Quantity) = ⟨180, true⟩
      ∧ (⟨(if wordOf 0x13 0x89 ≤ 5000 then wordOf 0x13 0x89 else 5000 : Nat), !(2 : Byte).getLsbD 1⟩ : Quantity) = ⟨5000, false⟩
      ∧ (⟨(if wordOf 0x03 0xE8 ≤ 1000 then wordOf 0x03 0xE8 else 1000 : Nat), !(2 : Byte).getLsbD 2⟩ : Quantity) = ⟨1000, true⟩
      ∧ (⟨signedOf 0xFE 0x6F, !(2 : Byte).getLsbD 3 && decide (-400 ≤ signedOf 0xFE 0x6F ∧ signedOf 0xFE 0x6F ≤ 850)⟩ : Quantity)
        = ⟨-401, false⟩ := by decide +kernel

/-- The gallery with line `l` DISABLED. -/
def disabledOn (l : Nat) : State := withLine l fun r => { r with state := .disabled }

theorem witness_BankDefineCloses_lines :
    ((disabledOn 2).line? 2).map (·.state) = some .disabled ∧ ((disabledOn 1).line? 1).map (·.state) = some .disabled
      ∧ LineState.disabled.takesCommands = false ∧ (disabledOn 2).bank? 1 = none
      ∧ ((disabledOn 1).bank? 3).map (·.louvre) = some ⟨1, 22⟩
      ∧ ((disabledOn 2).device? ⟨2, 126⟩).map (·.kind) = some .louvre
      ∧ ((disabledOn 1).device? ⟨1, 22⟩).map (·.kind) = some .louvre
      ∧ TakenUp (.bankDefine 7 (be 1 1 ++ be 1 2 ++ be 1 126 ++ Machine.optional (be 1) none)) (disabledOn 2)
      ∧ TakenUp (.bankDefine 7 (be 1 3 ++ be 1 1 ++ be 1 22 ++ Machine.optional (be 1) none)) (disabledOn 1) := by
  refine ⟨?_, ?_, ?_, ?_, ?_, ?_, ?_, ready ?_, ready ?_⟩ <;> decide +kernel

/-- R55: a louvre command that fails at once because its line is DISABLED makes the bank FAULTED. -/
theorem test_bank_define_fails :
    ((run (.bankDefine 7 [1, 2, 126, 0]) (disabledOn 2)).bank? 1).map (fun r => (r.state, r.commanded)) = some (.faulted, 100)
      ∧ ((run (.bankDefine 7 [1, 2, 126, 0]) gallery).bank? 1).map (fun r => (r.state, r.commanded)) = some (.active, 100) := by
  decide +kernel

theorem witness_AlarmFollowsConditions_conditions :
    (disabledWith 0 .level).report.alarmLevel ≤ 6 ∧ ((disabledWith 0 .level).line? 1).map (·.state) = some .disabled
      ∧ (disabledWith 0 .level).alarmCondition = true
      ∧ (gallery.putZone 16 { zone16 with marks := [.accountLost] }).alarmCondition = true
      ∧ { gallery with report := ⟨0, 7, .level⟩ }.alarmCondition = false := by decide +kernel

/-- Zone 16 with EXHAUSTED set: an allowance of 1 lux-hour and this dose, what the last review found of it, and its next review due
at this moment. -/
def spending (dose : Nat) (spent : Bool) (due : Nat) : State :=
  gallery.putZone 16 { zone16 with
    marks := [.exhausted], reviewDue := due, light := { zone16.light with spent }
    account := { zone16.account with dose, season := some ⟨1, 1, 0⟩ } }

theorem witness_MarksClearTests_exhausted :
    (spending 3600 false 1000).running = true ∧ (((spending 3600 false 1000).zone? 16).any fun r => decide (r.reviewDue ≤ (spending 3600 false 1000).now)) = true
      ∧ (((spending 3600 false 1001).zone? 16).any fun r => decide ((spending 3600 false 1001).now < r.reviewDue)) = true
      ∧ TakenUp (.marksClear 7 (be 1 16 ++ counted (fun (m : Mark) => be 1 m.code) [.exhausted])) (spending 3600 false 1000)
      ∧ TakenUp (.marksClear 7 (be 1 16 ++ counted (fun (m : Mark) => be 1 m.code) [.exhausted])) (spending 3600 false 1001) := by
  refine ⟨?_, ?_, ?_, ready ?_, ready ?_⟩ <;> decide +kernel

/-- R17, R18, R49, at moment 1000: with the review to come at 1001 the account as it stands decides, and with the review due the
previous review's finding. A review then sets the mark again; SEASON END ends the condition at once (R32), due or not. -/
theorem test_marks_clear_exhausted :
    let marks (s : State) : Option (List Mark) := (s.zone? 16).map (·.marks)
    let clear : Instr := .marksClear 7 [16, 1, 4]
    marks (run clear (spending 3600 false 1001)) = some [.exhausted] ∧ marks (run clear (spending 3599 true 1001)) = some []
      ∧ marks (run clear (spending 3600 false 1000)) = some [] ∧ marks (run clear (spending 3599 true 1000)) = some [.exhausted]
      ∧ marks (run (.lightReview 16) (run clear (spending 3600 false 1000))) = some [.exhausted]
      ∧ marks (run clear (run (.lightReview 16) (spending 3600 false 1000))) = some [.exhausted]
      ∧ marks (run clear (run (.seasonEnd 7 [16]) (spending 3600 true 1000))) = some [] := by decide +kernel

end Sys2Proof.Tests
end

section
/-! PROOFS. The device clock: what moving the clock does to the zones and to the rest of the part, and TIME SET. -/

namespace Sys2Proof.Machine

/-! ## The clock moves (R13, R14) -/

@[simp] theorem State.moveClock_clock (s : State) (count : Nat) : (s.moveClock count).clock = count := by
  unfold State.moveClock
  dsimp only
  split <;> rfl

/-- Frame: a move of the clock writes the clock and the zones. -/
theorem State.moveClock_frame (s : State) (count : Nat) :
    s.moveClock count = { s with clock := count, zones := (s.moveClock count).zones } := by
  unfold State.moveClock
  dsimp only
  split <;> rfl

theorem State.moveClock_same_hour {s : State} {count : Nat} (h : s.clock / 3600 = count / 3600) :
    s.moveClock count = { s with clock := count } := if_pos h

theorem State.moveClock_new_hour {s : State} {count : Nat} (h : s.clock / 3600 ≠ count / 3600) :
    s.moveClock count = { s with
      clock := count
      zones := tableOf 16 fun z => (s.zone? z).map fun r =>
        { r with rollovers := r.rollovers ++ [⟨s.clock / 3600, count / 3600⟩] } } := if_neg h

/-- A table of zones made from the records of `s` has the changed record at every number; outside the table there is none. -/
theorem State.zone?_of_zones_tableOf {s t : State} {f : Zone → Zone}
    (h : t.zones = tableOf 16 fun z => (s.zone? z).map f) (z : Nat) : t.zone? z = (s.zone? z).map f := by
  rw [State.zone?, h, slot?_tableOf]
  split
  · rfl
  · next hz =>
    have hnone : s.zone? z = none := Option.eq_none_iff_forall_ne_some.2 fun r hr => hz (State.zone?_valid hr)
    rw [hnone]
    rfl

/-- R14: each defined zone has one more rollover to take where the hour changes, and is left as it is where it does not. -/
theorem State.moveClock_zone? (s : State) (count z : Nat) :
    (s.moveClock count).zone? z = (s.zone? z).map fun r =>
      if s.clock / 3600 = count / 3600 then r
      else { r with rollovers := r.rollovers ++ [⟨s.clock / 3600, count / 3600⟩] } := by
  by_cases hour : s.clock / 3600 = count / 3600
  · simp only [State.moveClock_same_hour hour, if_pos hour, Option.map_id']
    rfl
  · simp only [State.moveClock_new_hour hour, if_neg hour]
    exact State.zone?_of_zones_tableOf rfl z

/-! ## TIME SET (R13) -/

/-- A TIME SET that is taken up is answered with the old count, and the clock it moves is SYNCED. -/
theorem answers_timeSet {s : State} {tag : Byte} {v : Nat} (hv : v < 4294967296)
    (h : TakenUp (.timeSet tag (be 4 v)) s) :
    Answers (.timeSet tag (be 4 v)) s .done (be 4 s.clock) { s.moveClock v with synced := true } := by
  have body : readBody (readNat 4) (be 4 v) = some v := readBody_nat (by simpa using hv)
  have work : answerTo ⟨tag, 0x02, be 4 v⟩ s = .reply .done (be 4 s.clock) { s.moveClock v with synced := true } := by
    rw [answerTo_timeSet, withBody_some body]
    rfl
  exact answers_reply rfl rfl h work

end Sys2Proof.Machine

namespace Sys2Proof.Proofs

open Sys2Proof Sys2Proof.Machine

/-- Settles O9: the state that answers TIME SET is that of the moved clock, whose zones and frame are known. -/
theorem timeSetMovesClock : Obligations.TimeSetMovesClock := by
  intro s tag v hv taken
  refine ⟨_, answers_timeSet hv taken, State.moveClock_clock s v, rfl, State.moveClock_zone? s v, ?_⟩
  conv_lhs => rw [State.moveClock_frame]
  simp only [State.moveClock_clock]

end Sys2Proof.Proofs
end

section
/-! PROOFS. The light sample: what writing a zone and evaluating its marks comes to, what a sample charges, and the sample of a
zone whose timer has expired (R15, R20 to R28). -/

namespace Sys2Proof.Machine

/-! ## A zone written and its marks evaluated (R15) -/

/-- A mark evaluated before others of other kinds: the marks newly set are its own, and those of the others beside it. -/
theorem newMarks_cons (had : List Mark) {m : Mark} (holds : Bool) {cs : List (Mark × Bool)} (h : m ∉ cs.map (·.1)) :
    newMarks had ((m, holds) :: cs)
      = newMarks had [(m, holds)] ++ newMarks (had ++ newMarks had [(m, holds)]) cs := by
  have others : newMarks (had ++ newMarks had [(m, holds)]) cs = newMarks had cs := by
    refine congrArg (List.map Prod.fst) (List.filter_congr fun c hc => ?_)
    have hne : c.1 ≠ m := fun e => h (e ▸ List.mem_map_of_mem hc)
    have hnew : c.1 ∉ newMarks had [(m, holds)] := by simp [newMarks, hne]
    simp [hnew]
  rw [others, newMarks, newMarks, newMarks, ← List.map_append, ← List.filter_append, List.singleton_append]

/-- The zone's record after these conditions have been evaluated: those of the marks that are newly set are added. -/
def Zone.marked (r : Zone) (conditions : List (Mark × Bool)) : Zone :=
  { r with marks := r.marks ++ newMarks r.marks conditions }

theorem Zone.marked_marked (r : Zone) {m : Mark} (holds : Bool) {cs : List (Mark × Bool)} (h : m ∉ cs.map (·.1)) :
    (r.marked [(m, holds)]).marked cs = r.marked ((m, holds) :: cs) := by
  simp only [Zone.marked, newMarks_cons r.marks holds h, List.append_assoc]

/-- From `s` to `t` zone `z` has come to the record `r`, and the marks `new` of it have been newly set with what R15 has follow;
nothing else has changed. -/
structure ZoneEvaluated (s t : State) (z : Nat) (r : Zone) (new : List Mark) : Prop where
  record : t.zone? z = some r
  offered : MarkSetsOffered s t z new
  others : ∀ k, k ≠ z → t.zone? k = s.zone? k
  frame : t = { s with zones := t.zones, notices := t.notices, alarm := t.alarm, pulsing := t.pulsing }

/-- What the zone's record was before does not matter. -/
theorem ZoneEvaluated.of_putZone {s t : State} {z : Nat} {r r' : Zone} {new : List Mark}
    (h : ZoneEvaluated (s.putZone z r') t z r new) : ZoneEvaluated s t z r new where
  record := h.record
  offered := h.offered
  others k hk := (h.others k hk).trans (s.zone?_putZone_ne r' hk)
  frame := h.frame

/-- A record written to a defined zone, and then one mark evaluated. -/
theorem State.putZone_evalMark_evaluated {s : State} {z : Nat} {r : Zone} (r' : Zone) (m : Mark) (holds : Bool)
    (hr : s.zone? z = some r) :
    ZoneEvaluated s ((s.putZone z r').evalMark z m holds) z (r'.marked [(m, holds)]) (newMarks r'.marks [(m, holds)]) := by
  obtain ⟨record, offered, others, frame⟩ :=
    State.evalMarks_spec z [(m, holds)] (List.nodup_singleton m) (State.zone?_putZone r' hr) _ rfl
  exact .of_putZone ⟨record, offered, others, frame⟩

/-- Nothing but zone `z` bears on the alarm condition of the later state, and of that zone its marks alone. -/
theorem ZoneEvaluated.alarmCondition {s t : State} {z : Nat} {r r' : Zone} {new : List Mark} (h : ZoneEvaluated s t z r' new)
    (hr : s.zone? z = some r) (marks : r'.marks = r.marks) : t.alarmCondition = s.alarmCondition := by
  refine State.alarmCondition_congr (by rw [h.frame]) (fun l => by rw [State.line?, h.frame]; rfl)
    (fun p => by rw [State.plant?, h.frame]; rfl) fun k => ?_
  by_cases hk : k = z
  · rw [hk, h.record, hr, Option.map_some, Option.map_some, marks]
  · rw [h.others k hk]

/-- One evaluation after another; the later one changes the marks only by those it newly sets. -/
theorem ZoneEvaluated.trans {s t u : State} {z : Nat} {r r' : Zone} {a b : List Mark} (h : ZoneEvaluated s t z r a)
    (k : ZoneEvaluated t u z r' b) (marks : r'.marks = r.marks ++ b) : ZoneEvaluated s u z r' (a ++ b) where
  record := k.record
  offered := h.offered.trans k.offered (by rw [h.frame]) (by rw [h.frame]) fun empty =>
    k.alarmCondition h.record (by rw [marks, empty, List.append_nil])
  others j hj := (k.others j hj).trans (h.others j hj)
  frame := by rw [k.frame, h.frame]

/-! ## What a sample charges (R22 to R24) -/

theorem elapsed_none (clock : Nat) : elapsed none clock = 10 := rfl

theorem elapsed_ahead {v clock : Nat} (h : clock < v) : elapsed (some v) clock = 10 := if_pos h

theorem elapsed_behind {v clock : Nat} (h : v ≤ clock) : elapsed (some v) clock = min (clock - v) 60 :=
  if_neg (Nat.not_lt.2 h)

/-- A valid LIGHT channel with an illuminance: the resolved values, the reference standing in for a UV ratio never read. -/
theorem Zone.charged_resolved {r : Zone} {v : Nat} (valid : r.measure.light.blind = false)
    (lux : r.measure.illuminance = some v) :
    r.chargedLux = v ∧ r.chargedUv = r.measure.uvRatio.getD r.defn.uvRef := by
  simp only [Zone.chargedLux, Zone.chargedUv, valid, lux, and_self]

/-- A BLIND LIGHT channel, or one that never had an illuminance: the ceiling of an OPEN zone, at the reference. -/
theorem Zone.charged_ceiling {r : Zone} (h : r.measure.light.blind = true ∨ r.measure.illuminance = none) :
    r.chargedLux = (if r.isOpen then r.defn.ceiling else 0) ∧ r.chargedUv = r.defn.uvRef := by
  unfold Zone.chargedLux Zone.chargedUv
  rcases h with blind | never
  · simp only [blind, and_self]
  · cases r.measure.light.blind <;> simp only [never, and_self]

theorem uvWeight_eq (u uvRef : Nat) : uvWeight u uvRef = min 4096 (1024 + (u - uvRef) * 1024 / uvRef) := Nat.min_comm _ _

/-- The account after a sample, field by field (R22, R25 to R27). -/
theorem Account.sampled_eq (a : Account) (clock e w : Nat) (isOpen : Bool) :
    a.sampled clock e w isOpen =
      { dose := min 1099511627775 (a.dose + (e * elapsed a.lastSample clock * w + a.residue) / 1024)
        residue := (e * elapsed a.lastSample clock * w + a.residue) % 1024
        openSeconds := if isOpen then min 4294967295 (a.openSeconds + elapsed a.lastSample clock) else a.openSeconds
        season := a.season, lastSample := some clock
        saturated := a.saturated
          || decide (1099511627775 < a.dose + (e * elapsed a.lastSample clock * w + a.residue) / 1024) } := by
  rw [Nat.min_comm 1099511627775, Nat.min_comm 4294967295]
  rfl

/-! ## The sample of a zone (R21) -/

/-- What the measurement record of a zone comes to when its LIGHT channel is resolved (R107, R108). -/
def State.lightMeasure (s : State) (m : Measurement) : Measurement :=
  m.resolveLight s.now (freshMean (s.boundTo m.bindings .light) s.now (·.illuminance))
    (freshMean (s.boundTo m.bindings .light) s.now (·.uvRatio))

/-- The zone's record with its LIGHT channel resolved. -/
def Zone.lit (r : Zone) (s : State) : Zone := { r with measure := s.lightMeasure r.measure }

/-- The zone's record with its account charged for what its LIGHT channel has been resolved to (R22 to R27). -/
def Zone.charged (r : Zone) (clock : Nat) : Zone :=
  { r with account := r.account.sampled clock r.chargedLux (uvWeight r.chargedUv r.defn.uvRef) r.isOpen }

/-- The marks a light sample evaluates, in their order, on a record that has been resolved and charged. -/
def Zone.sampleConditions (r : Zone) : List (Mark × Bool) :=
  [(.blindLight, r.measure.light.blind), (.saturated, r.account.atLimit)]

/-- The zone's record after a light sample: resolved, charged, and its marks evaluated. -/
def Zone.afterSample (r : Zone) (s : State) : Zone :=
  ((r.lit s).charged s.clock).marked ((r.lit s).charged s.clock).sampleConditions

/-- Resolution of the LIGHT channel, with the evaluation of BLIND_LIGHT (R108, R111). -/
theorem State.resolveLight_evaluated {s : State} {z : Nat} {r : Zone} (hr : s.zone? z = some r) :
    ZoneEvaluated s (s.resolveLight z) z ((r.lit s).marked [(.blindLight, (r.lit s).measure.light.blind)])
      (newMarks r.marks [(.blindLight, (r.lit s).measure.light.blind)]) := by
  rw [State.resolveLight, hr]
  exact State.putZone_evalMark_evaluated (r.lit s) .blindLight _ hr

/-- The sample is the resolution, and then the charge with the evaluation of SATURATED. -/
theorem State.sampleLight_eq {s : State} {z : Nat} {r : Zone} (hr : (s.resolveLight z).zone? z = some r) :
    s.sampleLight z = ((s.resolveLight z).putZone z (r.charged (s.resolveLight z).clock)).evalMark z .saturated
      (r.charged (s.resolveLight z).clock).account.atLimit := by
  rw [State.sampleLight, hr]
  rfl

/-- The sample of a defined zone. -/
theorem State.sampleLight_evaluated {s : State} {z : Nat} {r : Zone} (hr : s.zone? z = some r) :
    ZoneEvaluated s (s.sampleLight z) z (r.afterSample s) (newMarks r.marks (r.afterSample s).sampleConditions) := by
  have resolved := State.resolveLight_evaluated hr
  have clock : (s.resolveLight z).clock = s.clock := by rw [resolved.frame]
  have charged := State.putZone_evalMark_evaluated
    (((r.lit s).charged s.clock).marked [(.blindLight, (r.lit s).measure.light.blind)]) .saturated
    ((r.lit s).charged s.clock).account.atLimit resolved.record
  have both := resolved.trans charged rfl
  have apart : Mark.blindLight ∉ [(Mark.saturated, ((r.lit s).charged s.clock).account.atLimit)].map (·.1) := by simp
  rw [Zone.marked_marked _ _ apart] at both
  rw [State.sampleLight_eq resolved.record, clock]
  exact (newMarks_cons r.marks _ apart).symm ▸ both

/-- The zone's record with its sample timer restarted for one more period (R10). -/
def Zone.sampleRestarted (r : Zone) : Zone := { r with sampleDue := r.sampleDue + 10 }

/-- The expiry of the timer of a defined zone restarts it and takes the sample (R10, R21). -/
theorem State.lightSample_evaluated {s : State} {z : Nat} {r : Zone} (hr : s.zone? z = some r) (due : r.sampleDue ≤ s.now) :
    ZoneEvaluated s (s.lightSample z) z (r.sampleRestarted.afterSample s)
      (newMarks r.marks (r.sampleRestarted.afterSample s).sampleConditions) := by
  have reached : s.reached r.sampleDue = true := decide_eq_true due
  rw [State.lightSample, hr]
  simp only [reached, if_true]
  exact .of_putZone (State.sampleLight_evaluated (State.zone?_putZone r.sampleRestarted hr))

end Sys2Proof.Machine

namespace Sys2Proof.Proofs

open Sys2Proof Sys2Proof.Machine

/-- Settles O25: the state after the timer's expiry is known as a whole (`State.lightSample_evaluated`), and
each clause reads its account, its measurement or its marks. -/
theorem lightSampleIntegrates : Obligations.LightSampleIntegrates := by
  intro s z r running hr due
  have sample := State.lightSample_evaluated hr due
  have happens : Happens (.lightSample z) s (s.lightSample z) := happens_event (work := (·.lightSample z)) rfl running rfl
  refine ⟨s.lightSample z, r.sampleRestarted.afterSample s, s.lightMeasure r.measure, (r.lit s).chargedLux,
    (r.lit s).chargedUv, elapsed r.account.lastSample s.clock, uvWeight (r.lit s).chargedUv r.defn.uvRef, happens,
    sample.record, rfl, ?_, ?_, ?_, ?_, fun _ valid lux => Zone.charged_resolved (r := r.lit s) valid lux,
    Zone.charged_ceiling (r := r.lit s), uvWeight_eq _ _, Account.sampled_eq _ _ _ _ _, rfl, rfl, sample.offered, rfl,
    sample.others, sample.frame⟩
  · intro never
    rw [never, elapsed_none]
  · intro v last ahead
    rw [last, elapsed_ahead ahead]
  · intro v last behind within
    rw [last, elapsed_behind behind, Nat.min_eq_left within]
  · intro v last beyond
    rw [last, elapsed_behind (by omega), Nat.min_eq_right beyond.le]

end Sys2Proof.Proofs
end

section
/-! PROOFS. Commands that a block places for a device it names: the lines as they stand after it, and the failure at once on a
line that takes none (R48, R55, R141, R142). -/

namespace Sys2Proof.Machine

/-- The device's line exists and takes no command, so that a command placed for the device fails at once (R141). -/
def refusesFor (lines : Vector Line 2) (d : DeviceAddr) : Bool := (slot? lines d.line).any fun l => !l.state.takesCommands

/-- The lines after a command has been placed for the device, if there is one to place a command for. -/
def placedFor (lines : Vector Line 2) (target : Option DeviceAddr) (v : Nat) (i : Issuer) : Vector Line 2 :=
  target.elim lines fun d => placedOn lines d v i

theorem refusesFor_eq {lines : Vector Line 2} {d : DeviceAddr} {l : Line} (hl : slot? lines d.line = some l) :
    refusesFor lines d = !l.state.takesCommands := by simp [refusesFor, hl]

theorem placedOn_takes {lines : Vector Line 2} {d : DeviceAddr} {l : Line} (v : Nat) (i : Issuer)
    (hl : slot? lines d.line = some l) (takes : l.state.takesCommands = true) :
    placedOn lines d v i = slotSet lines d.line { l with queue := enqueueCommand ⟨d.address, v, i⟩ l.queue } := by
  simp [placedOn, hl, takes]

theorem placedOn_refuses {lines : Vector Line 2} {d : DeviceAddr} {l : Line} (v : Nat) (i : Issuer)
    (hl : slot? lines d.line = some l) (refuses : l.state.takesCommands = false) : placedOn lines d v i = lines := by
  simp [placedOn, hl, refuses]

theorem placedOn_no_line {lines : Vector Line 2} {d : DeviceAddr} (v : Nat) (i : Issuer) (hl : slot? lines d.line = none) :
    placedOn lines d v i = lines := by simp [placedOn, hl]

/-- A placement leaves the state of every line as it is. -/
theorem placedOn_states (lines : Vector Line 2) (d : DeviceAddr) (v : Nat) (i : Issuer) (k : Nat) :
    (slot? (placedOn lines d v i) k).map (·.state) = (slot? lines k).map (·.state) := by
  cases hl : slot? lines d.line with
  | none => rw [placedOn_no_line v i hl]
  | some l =>
    cases takes : l.state.takesCommands with
    | false => rw [placedOn_refuses v i hl takes]
    | true =>
      rw [placedOn_takes v i hl takes]
      by_cases hk : k = d.line
      · have valid := (slot?_isSome lines d.line).1 (by rw [hl]; rfl)
        rw [hk, slot?_slotSet_same _ _ valid.1 valid.2, hl]
        rfl
      · rw [slot?_slotSet_ne _ _ hk]

theorem placedFor_states (lines : Vector Line 2) (target : Option DeviceAddr) (v : Nat) (i : Issuer) (k : Nat) :
    (slot? (placedFor lines target v i) k).map (·.state) = (slot? lines k).map (·.state) := by
  cases target with
  | none => rfl
  | some d => exact placedOn_states lines d v i k

theorem State.modZone_lines (s : State) (z : Nat) (f : Zone → Zone) : (s.modZone z f).lines = s.lines := by
  unfold State.modZone
  split <;> rfl

theorem State.modBank_lines (s : State) (b : Nat) (f : Bank → Bank) : (s.modBank b f).lines = s.lines := by
  unfold State.modBank
  split <;> rfl

theorem State.plantFault_lines (s : State) (p : Nat) (reason : PlantFaultReason) : (s.plantFault p reason).lines = s.lines := by
  unfold State.plantFault
  split
  · split
    · rfl
    · rw [State.offer_lines, State.followAlarm_lines, State.putPlant_lines]
  · rfl

/-- A failure is returned to the blocks, and leaves the lines as they are. -/
theorem State.commandFailed_lines (s : State) (i : Issuer) (d : DeviceAddr) : (s.commandFailed i d).lines = s.lines := by
  unfold State.commandFailed
  split
  · cases i with
    | governor z => exact s.modZone_lines z _
    | bank b => exact s.modBank_lines b _
    | tracker z => exact s.modZone_lines z _
    | arbiter p => exact s.plantFault_lines p _
  · rfl

/-- A placement writes the lines, and returns the failure to the issuer where the line takes no command. -/
theorem State.place_eq (s : State) (d : DeviceAddr) (v : Nat) (i : Issuer) :
    s.place d v i = { (if refusesFor s.lines d then s.commandFailed i d else s) with lines := placedOn s.lines d v i } := by
  rcases s.place_cases d v i with ⟨l, hl, takes, placed⟩ | ⟨l, hl, refuses, failed⟩ | ⟨hl, nothing⟩
  · rw [placed, placedOn_takes v i hl takes, refusesFor_eq hl, takes]
    rfl
  · rw [failed, placedOn_refuses v i hl refuses, refusesFor_eq hl, refuses, ← s.commandFailed_lines i d]
    rfl
  · have : refusesFor s.lines d = false := by rw [refusesFor, show slot? s.lines d.line = none from hl]; rfl
    rw [nothing, placedOn_no_line v i hl, this]
    rfl

/-! ## A zone's dimmer device -/

/-- The zone's record with a refresh owed, or with none owed. -/
def Zone.owing (r : Zone) (owed : Bool) : Zone := { r with light := { r.light with refreshOwed := owed } }

/-- The zone's dimmer device, or no device, is sent a level by the governor (R48): a refresh is owed afterwards where it was owed
before or the command has failed at once. -/
theorem State.placeDimmer_eq {s : State} {z : Nat} {r : Zone} {target : Option DeviceAddr} (v : Nat) (hr : s.zone? z = some r)
    (names : ∀ d, target = some d → r.defn.dimmer = some d) :
    s.placeDimmer z target v = { s.putZone z (r.owing (r.light.refreshOwed || target.any (refusesFor s.lines))) with
      lines := placedFor s.lines target v (.governor z) } := by
  have unowed : s.putZone z (r.owing r.light.refreshOwed) = s := State.putZone_self hr
  cases target with
  | none => rw [Option.any_none, Bool.or_false, unowed]; rfl
  | some d =>
    have named : s.issuerNames (.governor z) d = true := by simp [State.issuerNames, hr, names d rfl]
    have fails : s.commandFailed (.governor z) d = s.putZone z (r.owing true) := (s.commandFailed_spec _ d).2 named r hr
    rw [State.placeDimmer, State.place_eq, fails, Option.any_some]
    cases refusesFor s.lines d with
    | true => rw [Bool.or_true]; rfl
    | false => rw [Bool.or_false, unowed]; rfl

/-! ## A bank's louvre device -/

/-- The bank's record after a command for its device: FAULTED where the command has failed at once (R55). -/
def Bank.faultedIf (r : Bank) (failed : Bool) : Bank := { r with state := if failed then .faulted else r.state }

/-- The bank's louvre device, or no device, is sent the bank's commanded closure (R54, R55). -/
theorem State.placeClosure_eq {s : State} {b : Nat} {r : Bank} (hr : s.bank? b = some r) :
    s.placeClosure b = { s.putBank b (r.faultedIf (refusesFor s.lines r.louvre)) with
      lines := placedOn s.lines r.louvre r.commanded (.bank b) } := by
  have unfaulted : s.putBank b (r.faultedIf false) = s := State.putBank_same hr
  have named : s.issuerNames (.bank b) r.louvre = true := by simp [State.issuerNames, hr]
  have fails : s.commandFailed (.bank b) r.louvre = s.putBank b (r.faultedIf true) :=
    (s.commandFailed_spec _ r.louvre).2 named r hr
  rw [State.placeClosure, hr]
  dsimp only
  rw [State.place_eq, fails]
  cases refusesFor s.lines r.louvre with
  | true => rfl
  | false => rw [unfaulted]; rfl

end Sys2Proof.Machine
end

section
/-! PROOFS. The bank step: the largest demand, the movement toward it, and the part after the step of a bank whose timer has
expired (R53, R54). -/

namespace Sys2Proof.Machine

/-! ## The target (R53) -/

theorem State.mem_servedZones (s : State) (b z : Nat) (r : Zone) :
    (z, r) ∈ s.servedZones b ↔ s.zone? z = some r ∧ b ∈ r.defn.banks := by
  rw [State.servedZones, List.mem_filter, State.mem_definedZones, List.contains_iff_mem]

/-- The largest of some demands: none of them is above it, and it is one of them, or 0. -/
theorem foldr_max_spec {α : Type} (f : α → Nat) (l : List α) :
    (∀ x ∈ l, f x ≤ l.foldr (fun x m => max (f x) m) 0)
      ∧ (l.foldr (fun x m => max (f x) m) 0 = 0 ∨ ∃ x ∈ l, f x = l.foldr (fun x m => max (f x) m) 0) := by
  induction l with
  | nil => simp
  | cons a l ih =>
    obtain ⟨above, attained⟩ := ih
    simp only [List.foldr_cons, List.mem_cons, forall_eq_or_imp, exists_eq_or_imp]
    generalize l.foldr (fun x m => max (f x) m) 0 = m at above attained ⊢
    refine ⟨⟨le_max_left _ _, fun x hx => (above x hx).trans (le_max_right _ _)⟩, ?_⟩
    rcases le_total m (f a) with h | h
    · exact .inr (.inl (max_eq_left h).symm)
    · rw [max_eq_right h]
      exact attained.imp_right .inr

theorem State.louvre_le_largestDemand {s : State} {b z : Nat} {x : Zone} (hx : s.zone? z = some x) (named : b ∈ x.defn.banks) :
    x.light.louvre ≤ s.largestDemand b :=
  (foldr_max_spec (fun zr : Nat × Zone => zr.2.light.louvre) (s.servedZones b)).1 (z, x)
    ((s.mem_servedZones b z x).2 ⟨hx, named⟩)

theorem State.largestDemand_attained (s : State) (b : Nat) :
    s.largestDemand b = 0 ∨ ∃ z x, s.zone? z = some x ∧ b ∈ x.defn.banks ∧ x.light.louvre = s.largestDemand b := by
  refine (foldr_max_spec (fun zr : Nat × Zone => zr.2.light.louvre) (s.servedZones b)).2.imp_right ?_
  rintro ⟨⟨z, x⟩, served, attained⟩
  obtain ⟨hx, named⟩ := (s.mem_servedZones b z x).1 served
  exact ⟨z, x, hx, named, attained⟩

/-! ## The movement (R54) -/

theorem Bank.stepped_down {r : Bank} {target : Nat} (h : target < r.commanded) :
    r.stepped target = max target (r.commanded - r.slew) := if_pos h

theorem Bank.stepped_up {r : Bank} {target : Nat} (h : r.commanded < target) :
    r.stepped target = min target (r.commanded + r.slew) := by rw [Bank.stepped, if_neg h.not_gt, if_pos h]

theorem Bank.stepped_still {r : Bank} {target : Nat} (h : r.commanded = target) : r.stepped target = r.commanded := by
  rw [Bank.stepped, if_neg h.not_gt, if_neg h.not_lt]

/-- A step moves the bank by at most its slew, either way. -/
theorem Bank.stepped_within_slew (r : Bank) (target : Nat) :
    r.stepped target ≤ r.commanded + r.slew ∧ r.commanded ≤ r.stepped target + r.slew := by
  rcases Nat.lt_trichotomy target r.commanded with h | h | h
  · rw [Bank.stepped_down h]
    omega
  · rw [Bank.stepped_still h.symm]
    omega
  · rw [Bank.stepped_up h]
    omega

/-! ## The step -/

/-- The bank's record after a step toward the target, as long as no command has failed: its timer restarted, its closure moved. -/
def Bank.afterStep (r : Bank) (target : Nat) : Bank :=
  { r with stepDue := r.stepDue + 30, target, commanded := r.stepped target }

/-- A bank that does not move sends nothing. -/
theorem State.bankStep_still {s : State} {b : Nat} {r : Bank} (hr : s.bank? b = some r) (due : r.stepDue ≤ s.now)
    (still : r.stepped (s.largestDemand b) = r.commanded) :
    s.bankStep b = s.putBank b (r.afterStep (s.largestDemand b)) := by
  have reached : s.reached r.stepDue = true := decide_eq_true due
  simp only [State.bankStep, hr, reached, still, if_true]
  rw [Bank.afterStep, still]
  rfl

/-- A bank that moves sends its closure, and is FAULTED where that fails at once. -/
theorem State.bankStep_moved {s : State} {b : Nat} {r : Bank} (hr : s.bank? b = some r) (due : r.stepDue ≤ s.now)
    (moved : r.stepped (s.largestDemand b) ≠ r.commanded) :
    s.bankStep b = { s.putBank b ((r.afterStep (s.largestDemand b)).faultedIf (refusesFor s.lines r.louvre)) with
      lines := placedOn s.lines r.louvre (r.stepped (s.largestDemand b)) (.bank b) } := by
  have reached : s.reached r.stepDue = true := decide_eq_true due
  have sent : s.bankStep b = (s.putBank b (r.afterStep (s.largestDemand b))).placeClosure b := by
    simp only [State.bankStep, hr, reached, if_neg moved, if_true]
    rfl
  rw [sent, State.placeClosure_eq (State.bank?_putBank _ hr), State.putBank_putBank]
  rfl

end Sys2Proof.Machine

namespace Sys2Proof.Proofs

open Sys2Proof Sys2Proof.Machine

/-- Settles O32: the part after the step is known as a whole, both where the bank moves and where it does not; target and movement
have their own lemmas. -/
theorem bankStepFollowsDemands : Obligations.BankStepFollowsDemands := by
  intro s b r running hr due
  have happens : Happens (.bankStep b) s (s.bankStep b) := happens_event (work := (·.bankStep b)) rfl running rfl
  have slewed := r.stepped_within_slew (s.largestDemand b)
  by_cases still : r.stepped (s.largestDemand b) = r.commanded
  · rw [State.bankStep_still hr due still] at happens
    exact ⟨_, r.afterStep (s.largestDemand b), happens, State.bank?_putBank _ hr, fun _ _ => State.louvre_le_largestDemand,
      s.largestDemand_attained b, Bank.stepped_down, Bank.stepped_up, Bank.stepped_still, slewed.1, slewed.2, rfl, rfl, rfl,
      fun _ => State.bank?_putBank_ne s _, rfl, fun _ => ⟨rfl, rfl⟩, fun _ moved => absurd still moved⟩
  · rw [State.bankStep_moved hr due still] at happens
    refine ⟨_, (r.afterStep (s.largestDemand b)).faultedIf (refusesFor s.lines r.louvre), happens, State.bank?_putBank _ hr,
      fun _ _ => State.louvre_le_largestDemand, s.largestDemand_attained b, Bank.stepped_down, Bank.stepped_up,
      Bank.stepped_still, slewed.1, slewed.2, rfl, rfl, rfl, fun _ => State.bank?_putBank_ne s _, rfl,
      fun unmoved => absurd unmoved still, fun l _ hl => ⟨fun takes => ⟨?_, placedOn_takes _ _ hl takes⟩,
        fun refuses => ⟨placedOn_refuses _ _ hl refuses, ?_⟩⟩⟩
    · rw [refusesFor_eq hl, takes]
      rfl
    · rw [refusesFor_eq hl, refuses]
      rfl

end Sys2Proof.Proofs
end

section
/-! PROOFS. The light review: its conditions, the limit and the steps on the zone's record, and the part after the review of a zone
whose timer has expired (R15, R37 to R48). -/

namespace Sys2Proof.Machine

/-! ## Conditions of the marks (R17, R41) -/

theorem Condition.isPressed_eq (c : Condition) : c.isPressed = decide (c = .pressure ∨ c = .restricted) := by
  cases c <;> rfl

theorem Account.isExhausted_eq (a : Account) :
    a.isExhausted = a.season.any fun x => decide ((x.allowance * 3600 : Int) - a.dose ≤ 0) := by
  simp only [Account.isExhausted, Account.remaining, Nat.cast_mul, Nat.cast_ofNat]

/-! ## A step by the error (R46, R47) -/

section
variable {em target deadBand : Nat}

theorem lt_of_error_above (h : (em : Int) - target > deadBand) : target + deadBand < em := by omega
theorem le_of_error_not_above (h : (em : Int) - target ≤ deadBand) : em ≤ target + deadBand := by omega
theorem le_of_error_not_below (h : -(deadBand : Int) ≤ (em : Int) - target) : target ≤ em + deadBand := by omega
theorem lt_of_error_below (h : (em : Int) - target < -(deadBand : Int)) : em + deadBand < target := by omega

end

section
variable {r : Zone} {em : Nat}

/-- Above the dead band electric light goes out first. -/
theorem Zone.step_bright_lit (bright : r.light.target + max 5 (r.light.target / 10) < em) (lit : 0 < r.light.dimmer) :
    r.step em = (r.light.dimmer - 10, r.light.louvre) := by simp [Zone.step, bright, lit]

/-- Above the dead band with electric light out, daylight goes out, in a zone with banks. -/
theorem Zone.step_bright_unlit (bright : r.light.target + max 5 (r.light.target / 10) < em) (unlit : r.light.dimmer = 0) :
    r.step em = (0, if r.defn.banks = [] then r.light.louvre else min 100 (r.light.louvre + 10)) := by
  cases h : r.defn.banks <;> simp [Zone.step, bright, unlit, h]

/-- Within the dead band nothing moves. -/
theorem Zone.step_within (notBright : em ≤ r.light.target + max 5 (r.light.target / 10))
    (notDim : r.light.target ≤ em + max 5 (r.light.target / 10)) : r.step em = (r.light.dimmer, r.light.louvre) := by
  rw [Zone.step, if_neg notBright.not_gt, if_neg notDim.not_gt]

/-- Below the dead band daylight comes in first, within the UV gate. -/
theorem Zone.step_dim_daylight (dim : em + max 5 (r.light.target / 10) < r.light.target) (banks : r.defn.banks ≠ [])
    (closed : 0 < r.light.louvre) (gate : r.measure.uvRatio.getD r.defn.uvRef ≤ r.defn.uvRef) :
    r.step em = (r.light.dimmer, r.light.louvre - 10) := by
  have daylight : (!r.defn.banks.isEmpty && decide (0 < r.light.louvre)
      && decide (r.measure.uvRatio.getD r.defn.uvRef ≤ r.defn.uvRef)) = true := by simp [banks, closed, gate]
  rw [Zone.step, if_neg (by omega), if_pos dim, if_pos daylight]

/-- Below the dead band, with no daylight to let in, electric light comes in up to the limit. -/
theorem Zone.step_dim_electric (dim : em + max 5 (r.light.target / 10) < r.light.target)
    (shut : r.defn.banks = [] ∨ r.light.louvre = 0 ∨ r.defn.uvRef < r.measure.uvRatio.getD r.defn.uvRef) :
    r.step em = (if r.light.dimmer < r.light.electricLimit then min r.light.electricLimit (r.light.dimmer + 10)
      else r.light.dimmer, r.light.louvre) := by
  have noDaylight : ¬ (!r.defn.banks.isEmpty && decide (0 < r.light.louvre)
      && decide (r.measure.uvRatio.getD r.defn.uvRef ≤ r.defn.uvRef)) = true := by
    simp only [Bool.and_eq_true, Bool.not_eq_true', decide_eq_true_eq]
    rintro ⟨⟨banks, closed⟩, gate⟩
    rcases shut with none | open' | gated
    · simp [none] at banks
    · omega
    · omega
  rw [Zone.step, if_neg (by omega), if_pos dim, if_neg noDaylight]
  split <;> rfl

end

/-! ## Forced, held and stepped levels (R45) -/

theorem Zone.stepLight_forced {r : Zone} (h : r.isOpen = false ∨ r.light.condition = .dark) :
    r.stepLight.light.dimmer = 0 ∧ r.stepLight.light.louvre = 100 := by
  have forced : (!r.isOpen || r.light.condition == .dark) = true := by simpa using h
  simp [Zone.stepLight, forced]

section
variable {r : Zone} (isOpen : r.isOpen = true) (lit : r.light.condition ≠ .dark)
include isOpen lit

theorem Zone.stepLight_held (unknown : r.measure.light.blind = true ∨ r.measure.illuminance = none) :
    r.stepLight.light.dimmer = r.light.dimmer
      ∧ r.stepLight.light.louvre = (if r.defn.banks = [] then 100 else r.light.louvre) := by
  rcases unknown with blind | never
  · simp [Zone.stepLight, isOpen, lit, blind]
  · cases r.measure.light.blind <;> simp [Zone.stepLight, isOpen, lit, never]

section
variable {em : Nat} (valid : r.measure.light.blind = false) (lux : r.measure.illuminance = some em)
include valid lux

theorem Zone.stepLight_stepped :
    r.stepLight.light.dimmer = (r.step em).1
      ∧ r.stepLight.light.louvre = (if r.defn.banks = [] then 100 else (r.step em).2) := by
  simp [Zone.stepLight, isOpen, lit, valid, lux]

/-- The levels after a step that comes to `dimmer` and `louvre`. -/
theorem Zone.stepLight_of_step {dimmer louvre : Nat} (step : r.step em = (dimmer, louvre)) :
    r.stepLight.light.dimmer = dimmer ∧ (r.defn.banks ≠ [] → r.stepLight.light.louvre = louvre) := by
  obtain ⟨dimmerStepped, louvreStepped⟩ := Zone.stepLight_stepped isOpen lit valid lux
  rw [step] at dimmerStepped louvreStepped
  exact ⟨dimmerStepped, fun banks => louvreStepped.trans (if_neg banks)⟩

theorem Zone.stepLight_no_banks (none : r.defn.banks = []) : r.stepLight.light.louvre = 100 :=
  (Zone.stepLight_stepped isOpen lit valid lux).2.trans (if_pos none)

end

end

/-! ## The marks and the levels of a review (R38) -/

/-- Several marks, of which no two are the same, evaluated on a record that has been written to a defined zone. -/
theorem State.putZone_evalMarks_evaluated {s : State} {z : Nat} {r : Zone} (r' : Zone) {cs : List (Mark × Bool)}
    (apart : (cs.map (·.1)).Nodup) (hr : s.zone? z = some r) :
    ZoneEvaluated s (cs.foldl (fun s c => s.evalMark z c.1 c.2) (s.putZone z r')) z (r'.marked cs) (newMarks r'.marks cs) := by
  obtain ⟨record, offered, others, frame⟩ := State.evalMarks_spec z cs apart (State.zone?_putZone r' hr) _ rfl
  exact .of_putZone ⟨record, offered, others, frame⟩

/-- The zone's record with its review timer restarted for one more period (R10). -/
def Zone.reviewRestarted (r : Zone) : Zone := { r with reviewDue := r.reviewDue + 60 }

/-- The marks a light review evaluates, in their order, on a record whose target has been fixed (R41, R43). -/
def Zone.reviewConditions (r : Zone) : List (Mark × Bool) :=
  [(.lightPressure, r.light.condition.isPressed), (.exhausted, r.light.spent)]

/-- The zone's record with its target fixed, its marks evaluated and its dimmer level clamped: steps 1 to 3 of the review. -/
def Zone.limited (r : Zone) : Zone := (r.fixTarget.marked r.fixTarget.reviewConditions).limitDimmer

/-- The zone's record with its levels forced, held or stepped: steps 1 to 4 of the review. -/
def Zone.governed (r : Zone) : Zone := r.limited.stepLight

/-- The part after steps 1 and 2 of the review: the target is fixed and the marks are evaluated. -/
def State.budgetedAndMarked (s : State) (z : Nat) (r : Zone) : State :=
  r.fixTarget.reviewConditions.foldl (fun s c => s.evalMark z c.1 c.2) (s.putZone z r.fixTarget)

theorem State.budgetedAndMarked_evaluated {s : State} {z : Nat} {r : Zone} (r' : Zone) (hr : s.zone? z = some r) :
    ZoneEvaluated s (s.budgetedAndMarked z r') z (r'.fixTarget.marked r'.fixTarget.reviewConditions)
      (newMarks r'.marks r'.fixTarget.reviewConditions) :=
  State.putZone_evalMarks_evaluated r'.fixTarget (by simp [Zone.reviewConditions]) hr

theorem State.budgetedAndMarked_lines {s : State} {z : Nat} {r : Zone} (r' : Zone) (hr : s.zone? z = some r) :
    (s.budgetedAndMarked z r').lines = s.lines := by rw [(State.budgetedAndMarked_evaluated r' hr).frame]

/-- The device for which a review places a command: the zone's dimmer device where the level has changed or a refresh is owed
(R48). -/
def Zone.dimmerTarget (r : Zone) : Option DeviceAddr :=
  if r.governed.light.commandNeeded r.light.dimmer then r.defn.dimmer else none

/-- Steps 3 to 5 of the review: the levels are written with no refresh owed, and the command is placed. -/
theorem State.reviewLight_eq {s : State} {z : Nat} {r : Zone} (hr : s.zone? z = some r) :
    s.reviewLight z = ((s.budgetedAndMarked z r).putZone z (r.governed.owing false)).placeDimmer z r.dimmerTarget
      r.governed.light.dimmer := by
  have marked : ((s.putZone z r.fixTarget).evalMark z .lightPressure r.fixTarget.light.condition.isPressed).evalMark z
      .exhausted r.fixTarget.light.spent = s.budgetedAndMarked z r := rfl
  simp only [State.reviewLight, hr, marked, (State.budgetedAndMarked_evaluated r hr).record]
  by_cases needed : r.governed.light.commandNeeded r.light.dimmer = true
  · rw [Zone.dimmerTarget, if_pos needed]
    exact if_pos needed
  · rw [Zone.dimmerTarget, if_neg needed]
    exact if_neg needed

/-- Whether a refresh is owed after the review: its command has failed at once (R48, R141). -/
def Zone.owedAfter (r : Zone) (lines : Vector Line 2) : Bool := r.dimmerTarget.any (refusesFor lines)

/-- The zone's record after a review, with these lines of the part. -/
def Zone.reviewed (r : Zone) (lines : Vector Line 2) : Zone := r.governed.owing (r.owedAfter lines)

/-- The part after a review of the zone with the record `r`. -/
def State.afterReview (s : State) (z : Nat) (r : Zone) : State :=
  { (s.budgetedAndMarked z r).putZone z (r.reviewed s.lines) with
    lines := placedFor s.lines r.dimmerTarget r.governed.light.dimmer (.governor z) }

/-- The expiry of the timer of a defined zone restarts it and reviews the zone (R10, R38). -/
theorem State.lightReview_eq {s : State} {z : Nat} {r : Zone} (hr : s.zone? z = some r) (due : r.reviewDue ≤ s.now) :
    s.lightReview z = s.afterReview z r.reviewRestarted := by
  have reached : s.reached r.reviewDue = true := decide_eq_true due
  have expired : s.lightReview z = (s.putZone z r.reviewRestarted).reviewLight z := by
    simp only [State.lightReview, hr, reached, if_true]
    rfl
  have restarted : (s.putZone z r.reviewRestarted).budgetedAndMarked z r.reviewRestarted
      = s.budgetedAndMarked z r.reviewRestarted := by
    rw [State.budgetedAndMarked, State.putZone_putZone]
    rfl
  have written := State.zone?_putZone (r.reviewRestarted.governed.owing false)
    (State.budgetedAndMarked_evaluated r.reviewRestarted hr).record
  have names : ∀ d, r.reviewRestarted.dimmerTarget = some d → r.defn.dimmer = some d := by
    intro d target
    rw [Zone.dimmerTarget] at target
    split at target
    · exact target
    · cases target
  rw [expired, State.reviewLight_eq (State.zone?_putZone _ hr), restarted, State.placeDimmer_eq _ written names,
    State.putZone_putZone, State.putZone_lines, State.budgetedAndMarked_lines _ hr]
  rfl

section
variable {s : State} {z : Nat} {r : Zone} (hr : s.zone? z = some r) (r' : Zone)
include hr

theorem State.afterReview_zone? : (s.afterReview z r').zone? z = some (r'.reviewed s.lines) :=
  State.zone?_putZone _ (State.budgetedAndMarked_evaluated r' hr).record

theorem State.afterReview_zone?_ne {k : Nat} (hk : k ≠ z) : (s.afterReview z r').zone? k = s.zone? k :=
  (State.zone?_putZone_ne _ _ hk).trans ((State.budgetedAndMarked_evaluated r' hr).others k hk)

/-- Frame: a review writes the zone and the lines, and with the marks the notices and the alarm line. -/
theorem State.afterReview_frame : s.afterReview z r' = { s with
    zones := (s.afterReview z r').zones, lines := (s.afterReview z r').lines, notices := (s.afterReview z r').notices
    alarm := (s.afterReview z r').alarm, pulsing := (s.afterReview z r').pulsing } := by
  conv_lhs => rw [State.afterReview, (State.budgetedAndMarked_evaluated r' hr).frame]
  rfl

/-- What step 2 offers stands at the end of the review, since levels and commands do not bear on the alarm condition. -/
theorem State.afterReview_offered :
    MarkSetsOffered s (s.afterReview z r') z (newMarks r'.marks r'.fixTarget.reviewConditions) := by
  have evaluated := State.budgetedAndMarked_evaluated r' hr
  refine evaluated.offered.keep rfl rfl rfl (State.alarmCondition_congr rfl (fun l => ?_) (fun _ => rfl) fun k => ?_)
  · rw [State.line?, State.line?, State.budgetedAndMarked_lines r' hr]
    exact placedFor_states _ _ _ _ l
  · by_cases hk : k = z
    · rw [hk, State.afterReview_zone? hr, evaluated.record]
      rfl
    · rw [State.afterReview_zone?_ne hr r' hk, evaluated.others k hk]

end

/-! ## The command (R48) -/

theorem Light.commandNeeded_iff (l : Light) (before : Nat) :
    l.commandNeeded before = true ↔ l.dimmer ≠ before ∨ l.refreshOwed = true := by simp [Light.commandNeeded]

theorem Zone.dimmerTarget_none {r : Zone}
    (h : r.defn.dimmer = none ∨ (r.governed.light.dimmer = r.light.dimmer ∧ r.light.refreshOwed = false)) :
    r.dimmerTarget = none := by
  rcases h with noDevice | ⟨unchanged, unowed⟩
  · rw [Zone.dimmerTarget, noDevice, ite_self]
  · refine if_neg ?_
    rw [Light.commandNeeded_iff]
    rintro (changed | owed)
    · exact changed unchanged
    · exact Bool.false_ne_true (unowed.symm.trans owed)

theorem Zone.dimmerTarget_some {r : Zone} {d : DeviceAddr} (device : r.defn.dimmer = some d)
    (h : r.governed.light.dimmer ≠ r.light.dimmer ∨ r.light.refreshOwed = true) : r.dimmerTarget = some d :=
  (if_pos ((Light.commandNeeded_iff _ _).2 h)).trans device

end Sys2Proof.Machine

namespace Sys2Proof.Proofs

open Sys2Proof Sys2Proof.Machine

/-- Settles O30: the part after the review is known as a whole (`State.lightReview_eq`), and its levels are those of
a step of the record whose dimmer level has been clamped. -/
theorem lightReviewGoverns : Obligations.LightReviewGoverns := by
  intro s z r running hr due
  have happens : Happens (.lightReview z) s (s.afterReview z r.reviewRestarted) :=
    happens_event (work := (·.lightReview z)) rfl running (State.lightReview_eq hr due)
  refine ⟨s.afterReview z r.reviewRestarted, r.reviewRestarted.reviewed s.lines, r.effectiveLimit,
    min r.light.dimmer r.effectiveLimit, happens, State.afterReview_zone? hr _, rfl, rfl, rfl, rfl,
    fun forced => Zone.stepLight_forced (r := r.reviewRestarted.limited) forced,
    fun isOpen lit unknown => Zone.stepLight_held (r := r.reviewRestarted.limited) isOpen lit unknown, ?_, rfl,
    ⟨_, ?_, rfl, State.afterReview_offered hr _⟩, rfl, fun k hk => State.afterReview_zone?_ne hr _ hk,
    State.afterReview_frame hr _, ?_, ?_⟩
  · rintro em _ isOpen lit valid lux rfl
    have levels {dimmer louvre : Nat} (step : r.reviewRestarted.limited.step em = (dimmer, louvre)) :=
      Zone.stepLight_of_step (r := r.reviewRestarted.limited) isOpen lit valid lux step
    refine ⟨fun bright => ⟨fun on => ?_, fun off => ?_⟩, fun notBright notDim => ?_,
      fun dim => ⟨fun banks closed gate => ?_, fun shut => ?_⟩,
      Zone.stepLight_no_banks (r := r.reviewRestarted.limited) isOpen lit valid lux⟩
    · exact levels (Zone.step_bright_lit (lt_of_error_above bright) on)
    · obtain ⟨dimmer, louvre⟩ := levels (Zone.step_bright_unlit (lt_of_error_above bright) off)
      exact ⟨dimmer, fun banks => (louvre banks).trans (if_neg banks)⟩
    · exact levels (Zone.step_within (le_of_error_not_above notBright) (le_of_error_not_below notDim))
    · obtain ⟨dimmer, louvre⟩ := levels (Zone.step_dim_daylight (lt_of_error_below dim) banks closed gate)
      exact ⟨dimmer, louvre banks⟩
    · exact levels (Zone.step_dim_electric (lt_of_error_below dim) shut)
  · rw [← Condition.isPressed_eq, ← Account.isExhausted_eq]
    rfl
  · intro idle
    have target : r.reviewRestarted.dimmerTarget = none := Zone.dimmerTarget_none idle
    have owed : r.reviewRestarted.owedAfter s.lines = false := by rw [Zone.owedAfter, target, Option.any_none]
    exact ⟨by rw [State.afterReview, target]; rfl, owed⟩
  · intro d l device needed hl
    have target : r.reviewRestarted.dimmerTarget = some d := Zone.dimmerTarget_some device needed
    have owed : r.reviewRestarted.owedAfter s.lines = !l.state.takesCommands := by
      rw [Zone.owedAfter, target, Option.any_some, refusesFor_eq hl]
    have lines : (s.afterReview z r.reviewRestarted).lines
        = placedOn s.lines d r.reviewRestarted.governed.light.dimmer (.governor z) := by
      rw [State.afterReview, target]
      rfl
    exact ⟨fun takes => ⟨owed.trans (by rw [takes]; rfl), lines.trans (placedOn_takes _ _ hl takes)⟩,
      fun refuses => ⟨owed.trans (by rw [refuses]; rfl), lines.trans (placedOn_refuses _ _ hl refuses)⟩⟩

end Sys2Proof.Proofs
end

section
/-! PROOFS. The hour rollover: the history a rollover leaves, forward and backward, and the part after the delivery of the oldest
one of a zone (R14, R67, R68). -/

namespace Sys2Proof.Machine

/-! ## The history after a rollover (R67, R68) -/

/-- R67: the current bucket closes where it holds a sample, and closed buckets that are too old go. -/
theorem Climate.rolledHistory_forward (c : Climate) {o : Rollover} (forward : o.oldHour < o.newHour) :
    c.rolledHistory o =
      (if 0 < c.current.samples then c.history ++ [c.current] else c.history).filter
        fun b => (o.newHour : Int) - 23 ≤ b.hour := by
  have closed : (if c.current.samples = 0 then c.history else c.history ++ [c.current])
      = if 0 < c.current.samples then c.history ++ [c.current] else c.history := by
    simp only [Nat.pos_iff_ne_zero, ite_not]
  have kept (b : Bucket) : o.newHour ≤ b.hour + 23 ↔ (o.newHour : Int) - 23 ≤ b.hour := by omega
  rw [Climate.rolledHistory, if_pos forward, closed]
  exact List.filter_congr fun b _ => decide_eq_decide.2 (kept b)

/-- R68: the current bucket is discarded, and closed buckets that now lie in the future go. -/
theorem Climate.rolledHistory_backward (c : Climate) {o : Rollover} (backward : o.newHour < o.oldHour) :
    c.rolledHistory o = c.history.filter fun b => b.hour < o.newHour := if_neg backward.not_gt

/-! ## The delivery of a rollover (R14) -/

/-- A zone takes the oldest rollover that waits for it. -/
theorem State.hourRollover_eq {s : State} {z : Nat} {r : Zone} {o : Rollover} {rest : List Rollover}
    (hr : s.zone? z = some r) (waiting : r.rollovers = o :: rest) :
    s.hourRollover z = s.putZone z { r with
      climate := r.climate.rolled (trimAllowance r.band) o, rollovers := rest } := by
  rw [State.hourRollover, State.modZone_some _ hr, waiting]

end Sys2Proof.Machine

namespace Sys2Proof.Proofs

open Sys2Proof Sys2Proof.Machine

/-- Settles O10: the part after the delivery is known as a whole, and its history is that of a forward or of a backward
rollover. -/
theorem hourRolloverActs : Obligations.HourRolloverActs := by
  intro s z r o rest running hr waiting
  exact ⟨r.climate.rolledHistory o,
    happens_event (work := (·.hourRollover z)) rfl running (State.hourRollover_eq hr waiting),
    r.climate.rolledHistory_forward, r.climate.rolledHistory_backward⟩

end Sys2Proof.Proofs
end

section
/-! PROOFS. The requests that set, enrol and enable a line: what each is answered in each state of the line, and the line, the
notice queue and the alarm line after a DISABLED line is enabled (R125, R138, R147). -/

namespace Sys2Proof.Machine

/-! ## A request's line number -/

theorem onLine_invalid {l : Nat} {s : State} (work : Line → Answer) (h : validLine l = false) :
    onLine l s work = .refuse .range := by
  cases hl : s.line? l with
  | none => simp only [onLine, hl]
  | some r =>
    have valid : validLine l = true := (validLine_iff l).2 (State.line?_valid hl)
    exact absurd valid (Bool.eq_false_iff.1 h)

theorem answerTo_lineSet_bytes (tag n v : Byte) (s : State) :
    answerTo ⟨tag, 0x17, [n, v]⟩ s = answerLineSet (n.toNat, v.toNat) s := by
  rw [answerTo_lineSet, withBody_some (readBody_pair n v)]

theorem answerTo_lineEnrol_byte (tag n : Byte) (s : State) :
    answerTo ⟨tag, 0x18, [n]⟩ s = answerLineEnrol n.toNat s := by
  rw [answerTo_lineEnrol, withBody_some (readBody_one n)]

theorem answerTo_lineEnable_byte (tag n : Byte) (s : State) :
    answerTo ⟨tag, 0x19, [n]⟩ s = answerLineEnable n.toNat s := by
  rw [answerTo_lineEnable, withBody_some (readBody_one n)]

/-! ## LINE SET (R138) -/

/-- Of a line's record the configuration holds the retry limit alone (R168). -/
theorem State.configuration_putLine_iff {s : State} {l : Nat} {r r' : Line} (hr : s.line? l = some r) :
    (s.putLine l r').configuration ≠ s.configuration ↔ r.retryLimit ≠ r'.retryLimit := by
  refine not_congr ⟨fun same => ?_, fun same => ?_⟩
  · have limits := congrArg (fun c => slot? c.retryLimits l) same
    have valid := State.line?_valid hr
    simpa [State.configuration, valid, hr, State.line?_putLine r' hr, eq_comm] using limits
  · have limits (k : Nat) : ((s.putLine l r').line? k).map (·.retryLimit) = (s.line? k).map (·.retryLimit) := by
      by_cases hk : k = l
      · rw [hk, State.line?_putLine r' hr, hr, Option.map_some, Option.map_some, same]
      · rw [State.line?_putLine_ne s r' hk]
    simp only [State.configuration, limits]
    rfl

theorem answerLineSet_accepted {s : State} {l v : Nat} {r : Line} (hr : s.line? l = some r) (limit : v ≤ 7) :
    answerLineSet (l, v) s = .reply .done [] { s with
      lines := slotSet s.lines l { r with retryLimit := v }
      configChanged := s.configChanged || decide (r.retryLimit ≠ v) } := by
  have changed := State.configuration_putLine_iff (r' := { r with retryLimit := v }) hr
  rw [answerLineSet, onLine_some _ hr, if_neg limit.not_gt, State.noteConfiguration, decide_eq_decide.2 changed]
  rfl

theorem answerLineSet_range {s : State} {l v : Nat} (h : validLine l = false ∨ 7 < v) :
    answerLineSet (l, v) s = .refuse .range := by
  cases valid : validLine l with
  | false => exact onLine_invalid _ valid
  | true =>
    have above : 7 < v := h.resolve_left (by rw [valid]; exact Bool.noConfusion)
    obtain ⟨r, hr⟩ := State.line?_of_validLine valid
    rw [answerLineSet, onLine_some _ hr]
    exact if_pos above

/-! ## LINE ENROL (R125) -/

section
variable {s : State} {l : Nat} {r : Line} (hr : s.line? l = some r)
include hr

theorem answerLineEnrol_state (h : r.state = .off ∨ r.state = .disabled ∨ r.state = .recovering) :
    answerLineEnrol l s = .refuse .state := by
  rw [answerLineEnrol, onLine_some _ hr]
  rcases h with h | h | h <;> rw [h]

theorem answerLineEnrol_busy (h : r.state = .enrolling ∨ (r.state = .active ∧ r.enrolment ≠ none)) :
    answerLineEnrol l s = .refuse .busy := by
  rw [answerLineEnrol, onLine_some _ hr]
  rcases h with enrolling | ⟨active, progress⟩
  · rw [enrolling]
  · rw [active]
    exact if_pos (Option.isSome_iff_ne_none.2 progress)

/-- The enrolment begins with no address probed; an ACTIVE line with nothing in flight enters ENROLLING at once. -/
theorem State.beginEnrolment_active (active : r.state = .active) :
    s.beginEnrolment l = s.putLine l (if r.inFlight = none then
        { r with enrolment := some ⟨1, 0, 0, 0, 0⟩, state := .enrolling, roundInProgress := false }
      else { r with enrolment := some ⟨1, 0, 0, 0, 0⟩ }) := by
  rw [State.beginEnrolment, State.enterEnrolling, State.modLine_some _ hr,
    State.modLine_some _ (State.line?_putLine _ hr), State.putLine_putLine]
  simp only [active, beq_self_eq_true, Option.isSome_some, Bool.and_self, Bool.true_and, Option.isNone_iff_eq_none]

theorem answerLineEnrol_accepted (active : r.state = .active) (idle : r.enrolment = none) :
    answerLineEnrol l s = .reply .accepted [] (s.beginEnrolment l) := by
  rw [answerLineEnrol, onLine_some _ hr, active, idle]
  rfl

end

/-! ## LINE ENABLE (R147) -/

/-- A notice at or above the floor joins a queue that has room behind the notices that wait (R151). -/
theorem State.afterOffers_room {s : State} {b : NoticeBody} (x : Subject) (floor : s.report.floor ≤ b.level)
    (room : s.notices.length < 32) : s.afterOffers [(b, x)] = s.notices ++ [⟨b, x, s.clock⟩] := by
  have joins : enqueue ⟨b, x, s.clock⟩ s.notices = s.notices ++ [⟨b, x, s.clock⟩] := if_pos room
  rw [State.afterOffers, List.foldl_cons, List.foldl_nil, if_neg floor.not_gt, joins]

/-- The record of a DISABLED line as it becomes ACTIVE. -/
def Line.enabled (r : Line) : Line := { r with state := .active, hangCount := 0 }

/-- The record of a line whose round starts at this moment. -/
def Line.inRound (r : Line) (now : Nat) : Line :=
  { r with roundCounter := (r.roundCounter + 1) % 10, pollPos := 0, roundInProgress := true, roundDue := some (now + 2) }

section
variable {s : State} {l : Nat} {r : Line} (hr : s.line? l = some r)
include hr

theorem answerLineEnable_off (off : r.state = .off) : answerLineEnable l s = .refuse .state := by
  rw [answerLineEnable, onLine_some _ hr, off]
  rfl

theorem answerLineEnable_done (notOff : r.state ≠ .off) :
    answerLineEnable l s = .reply .done [] (s.enableLine l) := by
  rw [answerLineEnable, onLine_some _ hr]
  exact if_neg (mt beq_iff_eq.1 notOff)

theorem State.enableLine_not_disabled (h : r.state ≠ .disabled) : s.enableLine l = s := by
  rw [State.enableLine, hr]
  exact if_neg (mt beq_iff_eq.1 h)

section
variable (disabled : r.state = .disabled)
include disabled

/-- The part with the line ACTIVE follows the alarm conditions and offers LINE RESTORED, and then the round starts. -/
theorem State.enableLine_disabled :
    s.enableLine l = (((s.putLine l r.enabled).followAlarm).offer .lineRestored (.line l)).putLine l
      (r.enabled.inRound s.now) := by
  have kept : (((s.putLine l r.enabled).followAlarm).offer .lineRestored (.line l)).line? l = some r.enabled := by
    rw [State.line?, State.offer_lines, State.followAlarm_lines]
    exact State.line?_putLine _ hr
  have starts := State.modLine_some (·.inRound s.now) kept
  rw [State.enableLine, hr]
  simp only [disabled, beq_self_eq_true, if_true]
  rw [← starts, State.startRound, State.offer_now, State.followAlarm_now]
  rfl

theorem State.enableLine_lines : (s.enableLine l).lines = slotSet s.lines l (r.enabled.inRound s.now) := by
  rw [State.enableLine_disabled hr disabled, State.putLine_lines, State.offer_lines, State.followAlarm_lines,
    State.putLine_lines, slotSet_slotSet]

/-- Enabling a DISABLED line writes the lines, the notice queue and the alarm line alone. -/
theorem State.enableLine_frame :
    s.enableLine l = { s with
      lines := (s.enableLine l).lines, notices := (s.enableLine l).notices
      alarm := (s.enableLine l).alarm, pulsing := (s.enableLine l).pulsing } := by
  rw [State.enableLine_disabled hr disabled, State.offer_frame, State.followAlarm_frame]
  rfl

theorem State.enableLine_notices : (s.enableLine l).notices = s.afterOffers [(.lineRestored, .line l)] := by
  rw [State.enableLine_disabled hr disabled, State.putLine_notices, State.offer_notices, State.followAlarm_report,
    State.followAlarm_notices, State.followAlarm_clock]
  rfl

/-- The alarm conditions of the part with the line ACTIVE do not change as its round starts (R155). -/
theorem State.enableLine_alarmCondition : (s.enableLine l).alarmCondition = (s.putLine l r.enabled).alarmCondition := by
  have frame := State.enableLine_frame hr disabled
  refine State.alarmCondition_congr (by rw [frame]; rfl) (fun k => ?_) (fun k => by rw [frame]; rfl)
    (fun k => by rw [frame]; rfl)
  have lines : (s.enableLine l).line? k = (s.putLine l (r.enabled.inRound s.now)).line? k :=
    congrArg (slot? · k) (State.enableLine_lines hr disabled)
  rw [lines]
  by_cases hk : k = l
  · rw [hk, State.line?_putLine _ hr, State.line?_putLine _ hr]
    rfl
  · rw [State.line?_putLine_ne _ _ hk, State.line?_putLine_ne _ _ hk]

theorem State.enableLine_level (mode : s.report.mode = .level) :
    (s.enableLine l).alarm = (s.enableLine l).alarmCondition ∧ (s.enableLine l).pulsing = s.pulsing := by
  have mode' : (s.putLine l r.enabled).followAlarm.report.mode = .level := by rw [State.followAlarm_report]; exact mode
  obtain ⟨alarm, pulsing⟩ := State.offer_level .lineRestored (.line l) mode'
  have followed := State.followAlarm_level (s := s.putLine l r.enabled) mode
  rw [State.enableLine_alarmCondition hr disabled, State.enableLine_disabled hr disabled, State.putLine_alarm,
    State.putLine_pulsing, alarm, pulsing, followed]
  exact ⟨rfl, rfl⟩

theorem State.enableLine_pulse (mode : s.report.mode = .pulse) :
    (s.enableLine l).alarm = (s.alarm || decide (s.report.alarmLevel ≤ 2))
      ∧ (s.enableLine l).pulsing = (s.pulsing || decide (s.report.alarmLevel ≤ 2)) := by
  have followed := State.followAlarm_pulse (s := s.putLine l r.enabled) mode
  rw [State.enableLine_disabled hr disabled, followed]
  exact State.offer_pulse (s := s.putLine l r.enabled) .lineRestored (.line l) mode

end

end

end Sys2Proof.Machine

namespace Sys2Proof.Proofs

open Sys2Proof Sys2Proof.Machine

/-- Settles O51: on a line that exists each request is answered by its state; any other number is refused before that. -/
theorem lineRequests : Obligations.LineRequests := by
  refine ⟨fun s tag n r hr => ⟨?lineSet, ?lineEnrol, ?lineEnable⟩, fun s tag n v => ⟨?setRange, ?enrolRange, ?enableRange⟩⟩
  case lineSet =>
    intro v limit taken
    exact answers_reply rfl rfl taken ((answerTo_lineSet_bytes tag n v s).trans (answerLineSet_accepted hr limit))
  case lineEnrol =>
    intro taken
    have work := answerTo_lineEnrol_byte tag n s
    refine ⟨fun h => ?_, fun h => ?_, fun active idle => ?_⟩
    · exact answers_refuse rfl rfl taken (work.trans (answerLineEnrol_state hr h))
    · exact answers_refuse rfl rfl taken (work.trans (answerLineEnrol_busy hr h))
    · rw [← State.beginEnrolment_active hr active]
      exact answers_reply rfl rfl taken (work.trans (answerLineEnrol_accepted hr active idle))
  case lineEnable =>
    intro taken
    have work := answerTo_lineEnable_byte tag n s
    have done (notOff : r.state ≠ .off) : Answers (.lineEnable tag [n]) s .done [] (s.enableLine n.toNat) :=
      answers_reply rfl rfl taken (work.trans (answerLineEnable_done hr notOff))
    refine ⟨fun off => ?_, fun h => ?_, fun disabled => ?_⟩
    · exact answers_refuse rfl rfl taken (work.trans (answerLineEnable_off hr off))
    · have notOff : r.state ≠ .off := fun is => by simp [is] at h
      have notDisabled : r.state ≠ .disabled := fun is => by simp [is] at h
      have answered := done notOff
      rwa [State.enableLine_not_disabled hr notDisabled] at answered
    · have notices := State.enableLine_notices hr disabled
      exact ⟨s.enableLine n.toNat, done (by rw [disabled]; decide), State.enableLine_lines hr disabled,
        State.enableLine_frame hr disabled, notices,
        fun floor room => notices.trans (State.afterOffers_room _ floor room),
        State.enableLine_level hr disabled, State.enableLine_pulse hr disabled⟩
  case setRange =>
    intro h taken
    exact answers_refuse rfl rfl taken ((answerTo_lineSet_bytes tag n v s).trans (answerLineSet_range h))
  case enrolRange =>
    intro invalid taken
    exact answers_refuse rfl rfl taken ((answerTo_lineEnrol_byte tag n s).trans (onLine_invalid _ invalid))
  case enableRange =>
    intro invalid taken
    exact answers_refuse rfl rfl taken ((answerTo_lineEnable_byte tag n s).trans (onLine_invalid _ invalid))

end Sys2Proof.Proofs
end

section
/-! PROOFS. A notice offered to the queue: below the report floor, with room, to a full queue with and without a lower notice,
and what the offer does to the alarm line (R151, R152, R156). -/

namespace Sys2Proof.Machine

/-! ## The levels of notices (R150) -/

theorem Mark.level_le_six (m : Mark) : m.level ≤ 6 := by cases m <;> decide

theorem NoticeBody.level_le_seven (b : NoticeBody) : b.level ≤ 7 := by
  cases b with
  | markSet m => exact m.level_le_six.trans (by decide)
  | enrolDone complete => cases complete <;> simp [NoticeBody.level]
  | _ => simp [NoticeBody.level]

/-- 8, the lowest level of an empty queue, lies above every level (R150). -/
theorem Notice.level_le_eight (n : Notice) : n.level ≤ 8 := n.body.level_le_seven.trans (by decide)

/-! ## The lowest level present (R152) -/

theorem le_lowestLevel_iff {k : Nat} {q : List Notice} : k ≤ lowestLevel q ↔ k ≤ 8 ∧ ∀ n ∈ q, k ≤ n.level := by
  induction q with
  | nil => simp [lowestLevel]
  | cons n q ih => rw [lowestLevel, le_min_iff, ih, List.forall_mem_cons, and_left_comm]

/-- The level of a notice of the queue that none is below is the lowest level present. -/
theorem lowestLevel_eq {n : Notice} {q : List Notice} (present : n ∈ q) (lowest : ∀ x ∈ q, n.level ≤ x.level) :
    lowestLevel q = n.level :=
  le_antisymm ((le_lowestLevel_iff.1 le_rfl).2 n present) (le_lowestLevel_iff.2 ⟨n.level_le_eight, lowest⟩)

/-! ## The newest notice of a level (R152) -/

/-- The last notice of its level is the one removed, and the others keep their order. -/
theorem removeNewest_append_cons {n : Notice} {post : List Notice} (newest : ∀ x ∈ post, x.level ≠ n.level)
    (pre : List Notice) : removeNewest n.level (pre ++ n :: post) = pre ++ post := by
  induction pre with
  | nil =>
    have none_later : ¬ post.any (·.level == n.level) := by simpa using newest
    rw [List.nil_append, removeNewest, if_neg none_later, if_pos (beq_self_eq_true _), List.nil_append]
  | cons m pre ih =>
    have n_later : (pre ++ n :: post).any (·.level == n.level) := List.any_eq_true.2 ⟨n, by simp, beq_self_eq_true _⟩
    rw [List.cons_append, removeNewest, if_pos n_later, ih, List.cons_append]

/-! ## A notice meets the queue (R151, R152) -/

theorem enqueue_room {n : Notice} {q : List Notice} (room : q.length < 32) : enqueue n q = q ++ [n] := if_pos room

theorem enqueue_full {n : Notice} {q : List Notice} (full : 32 ≤ q.length) :
    enqueue n q = if lowestLevel q < n.level then removeNewest (lowestLevel q) q ++ [n] else q := if_neg full.not_gt

/-- A full queue with nothing below the new notice discards it. -/
theorem enqueue_discards {n : Notice} {q : List Notice} (full : 32 ≤ q.length) (noneLower : ∀ x ∈ q, n.level ≤ x.level) :
    enqueue n q = q := by
  have bound : n.level ≤ lowestLevel q := le_lowestLevel_iff.2 ⟨n.level_le_eight, noneLower⟩
  rw [enqueue_full full, if_neg bound.not_gt]

/-- A full queue gives up the newest notice `m` of its lowest level for one above that level. -/
theorem enqueue_evicts {n m : Notice} {pre post : List Notice} (full : 32 ≤ (pre ++ m :: post).length)
    (lowest : ∀ x ∈ pre ++ m :: post, m.level ≤ x.level) (newest : ∀ x ∈ post, x.level ≠ m.level)
    (lower : m.level < n.level) : enqueue n (pre ++ m :: post) = pre ++ post ++ [n] := by
  have level : lowestLevel (pre ++ m :: post) = m.level := lowestLevel_eq (by simp) lowest
  rw [enqueue_full full, level, if_pos lower, removeNewest_append_cons newest]

/-! ## An offer (R151, R156) -/

section
variable {s : State} {b : NoticeBody} (x : Subject)

theorem State.offer_notices_dropped (below : b.level < s.report.floor) : (s.offer b x).notices = s.notices := by
  rw [State.offer_notices, if_pos below]

theorem State.offer_notices_passed (passes : s.report.floor ≤ b.level) :
    (s.offer b x).notices = enqueue ⟨b, x, s.clock⟩ s.notices := by
  rw [State.offer_notices, if_neg passes.not_gt]

theorem State.offer_pulse_asserts (mode : s.report.mode = .pulse) (reaches : s.report.alarmLevel ≤ b.level) :
    (s.offer b x).alarm = true ∧ (s.offer b x).pulsing = true := by
  simpa only [reaches, decide_true, Bool.or_true] using State.offer_pulse b x mode

theorem State.offer_pulse_below (mode : s.report.mode = .pulse) (below : b.level < s.report.alarmLevel) :
    (s.offer b x).alarm = s.alarm ∧ (s.offer b x).pulsing = s.pulsing := by
  simpa only [below.not_ge, decide_false, Bool.or_false] using State.offer_pulse b x mode

end

end Sys2Proof.Machine

namespace Sys2Proof.Proofs

open Sys2Proof Sys2Proof.Machine

/-- Settles O54: the floor decides whether the queue is met, the queue's length and lowest level decide how, and the mode and
the alarm level decide what the line does. -/
theorem offersMeetTheQueue : Obligations.OffersMeetTheQueue := by
  intro s b x
  refine ⟨State.offer_notices_dropped x, ?room, ?discarded, ?evicting, State.offer_level b x,
    State.offer_pulse_asserts x, State.offer_pulse_below x, State.offer_frame s b x⟩
  case room =>
    intro passes room
    rw [State.offer_notices_passed x passes, enqueue_room room]
  case discarded =>
    intro passes full noneLower
    rw [State.offer_notices_passed x passes, enqueue_discards (n := ⟨b, x, s.clock⟩) full noneLower]
  case evicting =>
    intro pre n post passes full queue lowest newest lower
    rw [State.offer_notices_passed x passes]
    rw [queue] at full lowest ⊢
    exact enqueue_evicts full lowest newest lower

end Sys2Proof.Proofs
end

section
/-! PROOFS. What the operations of the blocks write, said once: each is a chain of single writes, and each single write is
described by the facts about a record that the invariants of the part are made of. An invariant that every single write keeps is
kept by every operation. -/

namespace Sys2Proof.Machine

/-! ## What a single write does to a record -/

/-- What the writes of a chain are watched for, besides what is always known of them: where DISABLED lines have nothing in flight,
that lines become or cease to be DISABLED only with the alarm line following (`idle`); that what the zones and the plants hold of
the demands stays (`asks`); that no used dose decreases (`doses`); that what is right of the plants stays right (`right`). -/
structure Watch where
  idle : Prop
  asks : Prop
  doses : Prop
  right : Prop

/-- What is right of a plant: its service set, the order of its pending list, and that no preemption is due. -/
def Plant.Right (r : Plant) : Prop := r.serviceRight ∧ r.settled

/-- What a demand asks of its plant, and for which zone. -/
def Demand.asked (d : Demand) : Nat × Duty × Nat := (d.zone, d.duty, d.level)

/-- What the demands that a plant holds ask. -/
def Plant.asked (r : Plant) : List (Nat × Duty × Nat) := r.demands.map Demand.asked

/-- What the store keeps of a device table (R168). -/
def storedDevices (ds : List Device) : List StoredDevice := ds.map fun e => ⟨e.line, e.address, e.kind⟩

/-- The record keeps its marks, the ranges of its account and what is right of its history; and what is watched for. -/
structure Zone.Steady (w : Watch) (r r' : Zone) : Prop where
  marks : r'.marks = r.marks
  account : r.account.inRange → r'.account.inRange
  doses : w.doses → r.account.inRange → r.account.dose ≤ r'.account.dose
  history : ∀ clock, r.historyRight clock → r'.historyRight clock
  asks : w.asks → r'.defn.plant = r.defn.plant ∧ r'.climate.demand = r.climate.demand

/-- The plant is FAULTED as before, holds the demands it held, and stays right; as far as that is watched for. -/
structure Plant.Steady (w : Watch) (r r' : Plant) : Prop where
  faulted : r'.state = .faulted ↔ r.state = .faulted
  asked : w.asks → r'.asked.Perm r.asked
  right : w.right → r.Right → r'.Right

/-- The line keeps its queue coalesced, and has nothing in flight while it is DISABLED. -/
structure Line.Tidy (r r' : Line) : Prop where
  queue : (r.queue.map (·.address)).Nodup → (r'.queue.map (·.address)).Nodup
  idle : (r.state = .disabled → r.inFlight = none) → r'.state = .disabled → r'.inFlight = none

/-- A tidy write that leaves a line DISABLED, or not DISABLED. -/
structure Line.Steady (w : Watch) (r r' : Line) : Prop extends r.Tidy r' where
  disabled : w.idle → (r'.state = .disabled ↔ r.state = .disabled)

/-- A chain of single writes of the operations of the blocks leads from one state to the other. -/
inductive Writes : Watch → State → State → Prop
  | refl {w : Watch} (s : State) : Writes w s s
  | trans {w : Watch} {s t u : State} : Writes w s t → Writes w t u → Writes w s u
  /-- A chain after which the plants are right again, though within it they may not be. -/
  | whole {w : Watch} {s t : State} : Writes { w with right := False } s t → (w.right → s.plantsRight → t.plantsRight) →
      Writes w s t
  | zone {w : Watch} {s : State} {z : Nat} {r r' : Zone} : s.zone? z = some r → r.Steady w r' → Writes w s (s.putZone z r')
  | newZone {w : Watch} {s : State} {z : Nat} {r : Zone} : s.zone? z = none → r.marks = [] → r.account.inRange →
      r.historyRight s.clock → r.climate.demand = none → Writes w s (s.putZone z r)
  | marks {w : Watch} {s : State} {z : Nat} {r : Zone} (ms : List Mark) : s.zone? z = some r →
      Writes w s (s.putZone z { r with marks := ms }).followAlarm
  | bank {w : Watch} (s : State) (b : Nat) (r : Bank) : Writes w s (s.putBank b r)
  | plant {w : Watch} {s : State} {p : Nat} {r r' : Plant} : s.plant? p = some r → r.Steady w r' → Writes w s (s.putPlant p r')
  | plantFollowed {w : Watch} {s : State} {p : Nat} {r r' : Plant} : s.plant? p = some r → (w.asks → r'.asked.Perm r.asked) →
      (w.right → r.Right → r'.Right) → Writes w s (s.putPlant p r').followAlarm
  | newPlant {w : Watch} {s : State} {p : Nat} {r : Plant} : s.plant? p = none → r.state ≠ .faulted → r.demands = [] →
      r.Right → Writes w s (s.putPlant p r)
  | line {w : Watch} {s : State} {l : Nat} {r r' : Line} : s.line? l = some r → r.Steady w r' → Writes w s (s.putLine l r')
  | lineFollowed {w : Watch} {s : State} {l : Nat} {r r' : Line} : s.line? l = some r → r.Tidy r' →
      Writes w s (s.putLine l r').followAlarm
  | devices {w : Watch} {s : State} {ds : List Device} : (TableAdmitted (storedDevices s.devices) → TableAdmitted (storedDevices ds)) →
      Writes w s { s with devices := ds }
  | offer {w : Watch} (s : State) (b : NoticeBody) (x : Subject) : Writes w s (s.offer b x)
  | followAlarm {w : Watch} (s : State) : Writes w s s.followAlarm
  | configChanged {w : Watch} (s : State) (b : Bool) : Writes w s { s with configChanged := b }

/-- A chain of writes leaves all but the records of the blocks and the configuration changed flag alone. -/
theorem Writes.frame {w : Watch} {s t : State} (h : Writes w s t) : BlocksOnly s { t with configChanged := s.configChanged } := by
  induction h with
  | refl s => exact .refl s
  | whole _ _ h => exact h
  | trans _ _ h k => exact {
      powered := k.powered.trans h.powered, resetLow := k.resetLow.trans h.resetLow,
      restarting := k.restarting.trans h.restarting, now := k.now.trans h.now, clock := k.clock.trans h.clock,
      synced := k.synced.trans h.synced, report := k.report.trans h.report, link := k.link.trans h.link,
      store := k.store.trans h.store, checkpoint := k.checkpoint.trans h.checkpoint,
      checkpointDue := k.checkpointDue.trans h.checkpointDue, freeIx := k.freeIx.trans h.freeIx,
      pending := k.pending.trans h.pending, configChanged := rfl }
  | zone | newZone | bank | plant | newPlant | line | devices | configChanged => constructor <;> rfl
  | marks | plantFollowed | lineFollowed | followAlarm => rw [State.followAlarm_frame]; constructor <;> rfl
  | offer => rw [State.offer_frame]; constructor <;> rfl

section
variable {w : Watch} {s t : State}

theorem Writes.clock (h : Writes w s t) : t.clock = s.clock := h.frame.clock
theorem Writes.report (h : Writes w s t) : t.report = s.report := h.frame.report
theorem Writes.link (h : Writes w s t) : t.link = s.link := h.frame.link
theorem Writes.store (h : Writes w s t) : t.store = s.store := h.frame.store
theorem Writes.checkpoint (h : Writes w s t) : t.checkpoint = s.checkpoint := h.frame.checkpoint
theorem Writes.restarting (h : Writes w s t) : t.restarting = s.restarting := h.frame.restarting
theorem Writes.pending (h : Writes w s t) : t.pending = s.pending := h.frame.pending
theorem Writes.running (h : Writes w s t) : t.running = s.running := h.frame.running

theorem Writes.foldl {α : Type} {f : State → α → State} (hf : ∀ s a, Writes w s (f s a)) (l : List α) (s : State) :
    Writes w s (l.foldl f s) := by
  induction l generalizing s with
  | nil => exact .refl s
  | cons a l ih => exact (hf s a).trans (ih _)

end

/-! ## Writes of one record -/

/-- The record keeps what the invariants of the part read of it. -/
structure Zone.Still (r r' : Zone) : Prop where
  marks : r'.marks = r.marks
  account : r'.account = r.account
  plant : r'.defn.plant = r.defn.plant
  band : r'.band = r.band
  rollovers : r'.rollovers = r.rollovers
  history : r'.climate.history = r.climate.history
  hour : r'.climate.current.hour = r.climate.current.hour
  trim : r'.climate.trimCount ≤ r.climate.trimCount
  demand : r'.climate.demand = r.climate.demand

/-- What is right of a history depends on the band, the trim count, the buckets and the rollovers alone. -/
theorem Zone.historyRight_congr {r r' : Zone} {clock : Nat} (band : r'.band = r.band) (rollovers : r'.rollovers = r.rollovers)
    (history : r'.climate.history = r.climate.history) (hour : r'.climate.current.hour = r.climate.current.hour)
    (trim : r'.climate.trimCount ≤ r.climate.trimCount) (h : r.historyRight clock) : r'.historyRight clock := by
  unfold Zone.historyRight at h ⊢
  rw [band, rollovers, history, hour]
  exact ⟨trim.trans h.1, h.2⟩

theorem Zone.Still.steady {w : Watch} {r r' : Zone} (h : r.Still r') : r.Steady w r' where
  marks := h.marks
  account := by rw [h.account]; exact id
  doses _ _ := by rw [h.account]
  history _ := Zone.historyRight_congr h.band h.rollovers h.history h.hour h.trim
  asks _ := ⟨h.plant, h.demand⟩

section
variable {w : Watch} {s : State}

theorem Writes.zoneStill {z : Nat} {r r' : Zone} (hr : s.zone? z = some r) (h : r.Still r') : Writes w s (s.putZone z r') :=
  .zone hr h.steady

theorem Writes.modZone {z : Nat} {f : Zone → Zone} (h : ∀ r, s.zone? z = some r → r.Steady w (f r)) :
    Writes w s (s.modZone z f) := by
  unfold State.modZone
  split
  case h_1 r hr => exact .zone hr (h r hr)
  case h_2 => exact .refl s

theorem Writes.modBank (b : Nat) (f : Bank → Bank) : Writes w s (s.modBank b f) := by
  unfold State.modBank
  split
  · exact .bank _ _ _
  · exact .refl s

theorem Writes.modLine {l : Nat} {f : Line → Line} (h : ∀ r, s.line? l = some r → r.Steady w (f r)) :
    Writes w s (s.modLine l f) := by
  unfold State.modLine
  split
  case h_1 r hr => exact .line hr (h r hr)
  case h_2 => exact .refl s

theorem nodup_addresses_of_sublist {q q' : List Command} (h : q'.Sublist q) (nodup : (q.map (·.address)).Nodup) :
    (q'.map (·.address)).Nodup := nodup.sublist (h.map _)

/-- A line that keeps its state and takes nothing new into its queue or in flight. -/
theorem Line.Steady.of_same {r r' : Line} (queue : r'.queue.Sublist r.queue) (state : r'.state = r.state)
    (idle : r'.inFlight = none ∨ r'.inFlight = r.inFlight) : r.Steady w r' where
  queue := nodup_addresses_of_sublist queue
  idle h disabled := idle.elim id fun same => same.trans (h (state ▸ disabled))
  disabled _ := by rw [state]

/-- A line that is not DISABLED before or after. -/
theorem Line.Steady.of_ne {r r' : Line} (queue : (r.queue.map (·.address)).Nodup → (r'.queue.map (·.address)).Nodup)
    (before : w.idle → r.state ≠ .disabled) (after : r'.state ≠ .disabled) : r.Steady w r' where
  queue := queue
  idle _ disabled := absurd disabled after
  disabled h := iff_of_false after (before h)

end

end Sys2Proof.Machine
end

section
/-! PROOFS. The operations of the blocks as chains of single writes: commands, plants, devices, lines, measurement, light, climate,
zones and banks, in the order of the model. -/

namespace Sys2Proof.Machine

/-! ## Notices, marks -/

section
variable {w : Watch} {s : State}

theorem State.evalMark_writes (z : Nat) (m : Mark) (holds : Bool) : Writes w s (s.evalMark z m holds) := by
  rcases State.evalMark_cases s z m holds with ⟨same, -⟩ | ⟨r, hr, -, -, sets⟩
  · rw [same]; exact .refl s
  · rw [sets]; exact (Writes.marks _ hr).trans (.offer _ _ _)

theorem State.clearMarks_writes (z : Nat) (named : List Mark) : Writes w s (s.clearMarks z named) := by
  unfold State.clearMarks State.modZone
  split
  case h_1 r hr => exact .marks _ hr
  case h_2 => exact .followAlarm s

/-! ## The order of demands -/

theorem Demand.precedes_iff (a b : Demand) :
    a.precedes b = true ↔ b.level < a.level ∨ (a.level = b.level ∧ a.arrival < b.arrival) := by
  simp [Demand.precedes]

/-- The pending list stands in its order (R83). -/
def inOrder (q : List Demand) : Prop := q.Pairwise fun a b => b.precedes a = false

theorem Demand.not_precedes_iff (a b : Demand) :
    a.precedes b = false ↔ a.level ≤ b.level ∧ (a.level = b.level → b.arrival ≤ a.arrival) := by
  rw [← Bool.not_eq_true, Demand.precedes_iff]
  omega

theorem insertDemand_inOrder (d : Demand) {q : List Demand} (h : inOrder q) : inOrder (insertDemand d q) := by
  induction q with
  | nil => exact List.pairwise_singleton _ _
  | cons x q ih =>
    obtain ⟨head, tail⟩ := List.pairwise_cons.mp h
    unfold insertDemand
    split
    · next before =>
      refine List.pairwise_cons.mpr ⟨fun y hy => ?_, h⟩
      have last : y.precedes x = false := (List.mem_cons.mp hy).elim (fun same => by simp [same, Demand.precedes]) (head y)
      rw [Demand.precedes_iff] at before
      rw [Demand.not_precedes_iff] at last ⊢
      omega
    · next after =>
      refine List.pairwise_cons.mpr ⟨fun y hy => ?_, ih tail⟩
      rcases (mem_insertDemand y d q).mp hy with rfl | old
      · exact Bool.not_eq_true _ ▸ after
      · exact head y old

theorem insertDemands_inOrder (ds : List Demand) {q : List Demand} (h : inOrder q) : inOrder (insertDemands ds q) := by
  induction ds with
  | nil => exact h
  | cons d ds ih => exact insertDemand_inOrder d ih

theorem topLevel_perm {ds ds' : List Demand} (h : ds.Perm ds') : topLevel ds = topLevel ds' := by
  have : LeftCommutative fun (d : Demand) (m : Nat) => max d.level m := ⟨fun a b m => Nat.max_left_comm _ _ _⟩
  exact h.foldr_eq 0

theorem topLevel_map {f : Demand → Demand} (level : ∀ d, (f d).level = d.level) (ds : List Demand) :
    topLevel (ds.map f) = topLevel ds := by
  unfold topLevel
  rw [List.foldr_map]
  simp only [level]

/-! ## What a list of demands and a queue of commands hold -/

theorem insertDemand_perm (d : Demand) (q : List Demand) : (insertDemand d q).Perm (d :: q) := by
  induction q with
  | nil => exact .refl _
  | cons x q ih =>
    rw [insertDemand]
    split
    · exact .refl _
    · exact (ih.cons x).trans (.swap d x q)

theorem insertDemands_perm (ds q : List Demand) : (insertDemands ds q).Perm (ds ++ q) := by
  induction ds with
  | nil => exact .refl _
  | cons d ds ih => exact (insertDemand_perm d _).trans (ih.cons d)

theorem Plant.asked_perm {r r' : Plant} (h : r'.demands.Perm r.demands) : r'.asked.Perm r.asked := h.map _

theorem Plant.returnService_demands (r : Plant) : r.returnService.demands.Perm r.demands := insertDemands_perm _ _

/-- A command that joins a queue takes the place of one for the same actuator, so that none is there twice (R141). -/
theorem enqueueCommand_nodup {c : Command} {q : List Command} (h : (q.map (·.address)).Nodup) :
    ((enqueueCommand c q).map (·.address)).Nodup := by
  unfold enqueueCommand
  split
  · have same : (q.map fun x => if x.address == c.address then c else x).map (·.address) = q.map (·.address) := by
      rw [List.map_map]
      refine List.map_congr_left fun x _ => ?_
      by_cases at_c : x.address = c.address <;> simp [at_c]
    rwa [same]
  · next absent =>
    have new : c.address ∉ q.map (·.address) := by simpa using absent
    rw [List.map_append, List.map_singleton]
    exact List.nodup_append.2 ⟨h, List.nodup_singleton _, by simpa [List.mem_map] using new⟩

/-! ## What is right of a plant (R82 to R84, R90) -/

theorem Plant.preempted_running {r : Plant} (h : r.preempted = true) : r.state = .running ∧ r.minRunElapsed = true := by
  simp only [Plant.preempted, Bool.and_eq_true, beq_iff_eq] at h
  exact h.1

theorem Plant.settled_of {r : Plant} (order : inOrder r.waiting) (h : r.state ≠ .running ∨ r.minRunElapsed = false) :
    r.settled := by
  refine ⟨order, Bool.eq_false_iff.mpr fun preempted => ?_⟩
  obtain ⟨running, elapsed⟩ := Plant.preempted_running preempted
  rcases h with other | fresh
  · exact other running
  · exact nomatch fresh.symm.trans elapsed

theorem Plant.Right.congr {r r' : Plant} (h : r.Right) (state : r'.state = r.state) (service : r'.service = r.service)
    (waiting : r'.waiting = r.waiting) (target : r'.target = r.target) (level : r'.serviceLevel = r.serviceLevel)
    (elapsed : r'.minRunElapsed = r.minRunElapsed) : r'.Right := by
  unfold Plant.Right Plant.serviceRight Plant.settled Plant.preempted at h ⊢
  rw [state, service, waiting, target, level, elapsed]
  exact h

/-- The service set holds demands of the target duty alone and sets the service level, no demand of that duty waits, and those that
wait stand in order (R85). -/
structure Plant.Serves (r : Plant) : Prop where
  duty : ∀ d ∈ r.service, d.duty = r.target
  level : r.serviceLevel = topLevel r.service
  others : ∀ d ∈ r.waiting, d.duty ≠ r.target
  order : inOrder r.waiting

/-- The plant serves nothing, and what waits stands in order. -/
structure Plant.Free (r : Plant) : Prop where
  service : r.service = []
  order : inOrder r.waiting

section
variable {r : Plant}

theorem Plant.Right.serves (h : r.Right) (moves : r.state = .changeover ∨ r.state = .running) : r.Serves := by
  obtain ⟨⟨-, -, -, duty, level, others⟩, order, -⟩ := h
  exact ⟨duty, level, others moves, order⟩

theorem Plant.Right.free (h : r.Right) (rests : r.state = .idle ∨ r.state = .held ∨ r.state = .faulted) : r.Free :=
  ⟨h.1.1 rests, h.2.1⟩

theorem Plant.Right.order (h : r.Right) : inOrder r.waiting := h.2.1

theorem Plant.Serves.moving (h : r.Serves) (state : r.state = .changeover) : r.Right :=
  ⟨⟨by simp [state], by simp [state], by simp [state], h.duty, h.level, fun _ => h.others⟩,
    Plant.settled_of h.order (.inl (by simp [state]))⟩

theorem Plant.Serves.running (h : r.Serves) (state : r.state = .running) (some : r.service ≠ [])
    (settled : r.preempted = false) : r.Right :=
  ⟨⟨by simp [state], by simp [state], fun _ => some, h.duty, h.level, fun _ => h.others⟩, h.order, settled⟩

theorem Plant.Free.resting (h : r.Free) (state : r.state = .held ∨ r.state = .faulted) (level : r.serviceLevel = 0) : r.Right := by
  have idle : r.state ≠ .idle := by rintro same; simp [same] at state
  have running : r.state ≠ .running := by rintro same; simp [same] at state
  have changes : r.state ≠ .changeover := by rintro same; simp [same] at state
  refine ⟨⟨fun _ => h.service, fun is => absurd is idle, fun is => absurd is running, ?_, ?_, ?_⟩,
    Plant.settled_of h.order (.inl running)⟩
  · rw [h.service]; rintro _ ⟨⟩
  · rw [h.service, level]; rfl
  · exact fun is => is.elim (absurd · changes) (absurd · running)

theorem Plant.right_of_idle (state : r.state = .idle) (service : r.service = []) (waiting : r.waiting = [])
    (level : r.serviceLevel = 0) : r.Right := by
  refine ⟨⟨fun _ => service, fun _ => waiting, by simp [state], ?_, by rw [service, level]; rfl, by simp [state]⟩,
    Plant.settled_of (by rw [waiting]; exact .nil) (.inl (by simp [state]))⟩
  rw [service]; rintro _ ⟨⟩

theorem Plant.fresh_right (d : DeviceAddr) : (Plant.fresh d).Right := Plant.right_of_idle rfl rfl rfl rfl

theorem Plant.returnService_free (order : inOrder r.waiting) : r.returnService.Free :=
  ⟨rfl, insertDemands_inOrder r.service order⟩

end

/-! ## Plants that are right but for one -/

/-- Every plant but `p` is right, and of `p` the property holds. -/
def State.rightBut (s : State) (p : Nat) (G : Plant → Prop) : Prop :=
  (∀ k r, s.plant? k = some r → k ≠ p → r.Right) ∧ ∀ r, s.plant? p = some r → G r

section
variable {s : State} {p : Nat}

theorem State.plantsRight_congr {s t : State} (h : t.plants = s.plants) (right : s.plantsRight) : t.plantsRight := by
  intro p r hr
  exact right p r (by rw [State.plant?, ← h]; exact hr)

theorem State.rightBut_right : s.rightBut p Plant.Right ↔ s.plantsRight := by
  refine ⟨fun h k r hr => ?_, fun h => ⟨fun k r hr _ => h k r hr, fun r => h p r⟩⟩
  by_cases same : k = p
  · subst same
    exact h.2 r hr
  · exact h.1 k r hr same

theorem State.rightBut.put {G G' : Plant → Prop} {r r' : Plant} (h : s.rightBut p G) (hr : s.plant? p = some r) (is : G' r') :
    (s.putPlant p r').rightBut p G' := by
  refine ⟨fun k x hx other => h.1 k x (by rwa [State.plant?_putPlant_ne s r' other] at hx) other, fun x hx => ?_⟩
  rw [State.plant?_putPlant r' hr] at hx
  cases hx
  exact is

theorem State.plantsRight.put {r r' : Plant} (h : s.plantsRight) (hr : s.plant? p = some r) {G : Plant → Prop} (is : G r') :
    (s.putPlant p r').rightBut p G := (State.rightBut_right.mpr h).put hr is

theorem State.plantsRight.putRight {r r' : Plant} (h : s.plantsRight) (hr : s.plant? p = some r) (is : r'.Right) :
    (s.putPlant p r').plantsRight := State.rightBut_right.mp (h.put hr is)

theorem State.rightBut.congr {t : State} {G : Plant → Prop} (h : s.rightBut p G) (same : t.plants = s.plants) :
    t.rightBut p G := by
  have at_ (k : Nat) : t.plant? k = s.plant? k := by rw [State.plant?, same, State.plant?]
  simpa only [State.rightBut, at_] using h

/-- Plants that are right stay so in a chain of writes that is watched for it. -/
theorem Writes.plantsRight {w : Watch} {s t : State} (h : Writes w s t) (watched : w.right) (right : s.plantsRight) :
    t.plantsRight := by
  induction h with
  | refl => exact right
  | trans _ _ ih ih' => exact ih' watched (ih watched right)
  | whole _ ends _ => exact ends watched right
  | zone | newZone | bank | line | devices | configChanged => exact right
  | plant hr steady => exact right.putRight hr (steady.right watched (right _ _ hr))
  | plantFollowed hr _ keeps =>
    exact State.plantsRight_congr (State.followAlarm_plants _) (right.putRight hr (keeps watched (right _ _ hr)))
  | @newPlant _ _ p _ unset _ _ new =>
    intro k x hx
    by_cases same : k = p
    · subst same
      have valid := State.plant?_valid hx
      rw [State.plant?_putPlant_same _ valid.1 valid.2] at hx
      cases hx
      exact new
    · rw [State.plant?_putPlant_ne _ _ same] at hx
      exact right k x hx
  | marks | lineFollowed | followAlarm => exact State.plantsRight_congr (State.followAlarm_plants _) right
  | offer => exact State.plantsRight_congr (State.offer_plants _ _ _) right

end

/-! ## Failures and placements (R141, R142) -/

theorem State.dimmerFailed_writes (z : Nat) : Writes w s (s.dimmerFailed z) :=
  .modZone fun _ _ => Zone.Still.steady (by constructor <;> rfl)

theorem State.trimFault_writes (z : Nat) : Writes w s (s.trimFault z) :=
  .modZone fun r _ => Zone.Still.steady (by dsimp only; split <;> constructor <;> rfl)

theorem State.plantFault_writes (p : Nat) (reason : PlantFaultReason) : Writes w s (s.plantFault p reason) := by
  unfold State.plantFault
  split
  case h_1 r hr =>
    split
    · exact .refl s
    · refine .trans ?_ (.offer _ _ _)
      refine .plantFollowed hr (fun _ => Plant.asked_perm r.returnService_demands) fun _ right => ?_
      exact Plant.Free.resting ⟨rfl, insertDemands_inOrder r.service right.order⟩ (.inr rfl) rfl
  case h_2 => exact .refl s

theorem State.commandFailed_writes (i : Issuer) (d : DeviceAddr) : Writes w s (s.commandFailed i d) := by
  unfold State.commandFailed
  split
  · cases i with
    | governor z => exact State.dimmerFailed_writes z
    | bank b => exact .modBank b _
    | tracker z => exact State.trimFault_writes z
    | arbiter p => exact State.plantFault_writes p _
  · exact .refl s

theorem State.place_writes (d : DeviceAddr) (v : Nat) (i : Issuer) : Writes w s (s.place d v i) := by
  rcases s.place_cases d v i with ⟨l, hl, takes, placed⟩ | ⟨l, -, -, failed⟩ | ⟨-, nothing⟩
  · have up : l.state ≠ .disabled := fun down => by simp [down, LineState.takesCommands] at takes
    rw [placed]
    exact .line hl (.of_ne enqueueCommand_nodup (fun _ => up) up)
  · rw [failed]; exact State.commandFailed_writes i d
  · rw [nothing]; exact .refl s

theorem State.placeDimmer_writes (z : Nat) (d : Option DeviceAddr) (v : Nat) : Writes w s (s.placeDimmer z d v) := by
  cases d with
  | none => exact .refl s
  | some d => exact State.place_writes d v _

theorem State.endPulse_writes (z : Nat) : Writes w s (s.endPulse z) := by
  unfold State.endPulse
  split
  case h_1 r hr =>
    split
    · exact (Writes.zoneStill hr (by constructor <;> rfl)).trans (State.place_writes _ _ _)
    · exact .refl s
  case h_2 => exact .refl s

theorem State.trimAvailable_writes (z : Nat) : Writes w s (s.trimAvailable z) := by
  unfold State.trimAvailable
  split
  case h_1 r hr =>
    split
    · have available : Writes w s
          (s.putZone z { r with climate := { r.climate with trimUnavailable := false, offOwed := false } }) :=
        .zoneStill hr (by constructor <;> rfl)
      dsimp only
      split
      · exact available.trans (State.place_writes _ _ _)
      · exact available
    · exact .refl s
  case h_2 => exact .refl s

theorem State.placeClosure_writes (b : Nat) : Writes w s (s.placeClosure b) := by
  unfold State.placeClosure
  split
  · exact State.place_writes _ _ _
  · exact .refl s

theorem State.bankRecover_writes (b : Nat) : Writes w s (s.bankRecover b) := by
  unfold State.bankRecover
  split
  · split
    · dsimp only
      split
      · exact .bank _ _ _
      · exact (Writes.bank _ _ _).trans (State.placeClosure_writes _)
    · exact .refl s
  · exact .refl s

theorem State.placeDuty_writes (p : Nat) (duty : Duty) : Writes w s (s.placeDuty p duty) := by
  unfold State.placeDuty
  split
  case h_1 r hr =>
    refine .trans ?_ (State.place_writes _ _ _)
    exact .plant hr ⟨.rfl, fun _ => .refl _, fun _ right => right.congr rfl rfl rfl rfl rfl rfl⟩
  case h_2 => exact .refl s

/-! ## Plants: single writes -/

/-- Within a chain that is not watched for the plants: a plant that is not FAULTED before or after, and holds the same demands. -/
theorem Plant.Steady.of_ne {r r' : Plant} (loose : ¬ w.right) (before : r.state ≠ .faulted) (after : r'.state ≠ .faulted)
    (asked : w.asks → r'.demands.Perm r.demands) : r.Steady w r' :=
  ⟨iff_of_false after before, fun h => Plant.asked_perm (asked h), fun watched => absurd watched loose⟩

/-- A plant that keeps its state and its lists of demands. -/
theorem Plant.Steady.of_same {r r' : Plant} (loose : ¬ w.right) (state : r'.state = r.state) (demands : r'.demands = r.demands) :
    r.Steady w r' :=
  ⟨by rw [state], fun _ => by rw [Plant.asked, demands, Plant.asked], fun watched => absurd watched loose⟩

/-- The plant `p` of the part, if there is one, is not FAULTED. -/
def State.plantUp (s : State) (p : Nat) : Prop := ∀ r, s.plant? p = some r → r.state ≠ .faulted

theorem State.plantUp_putPlant {p : Nat} {r r' : Plant} (hr : s.plant? p = some r) (up : r'.state ≠ .faulted) :
    (s.putPlant p r').plantUp p := by
  intro x hx
  rw [State.plant?_putPlant r' hr] at hx
  cases hx
  exact up

/-! ## Entering a state (R85, R86, R92) -/

theorem State.enterRunning_after (p : Nat) {r : Plant} (hr : s.plant? p = some r) :
    Writes w (s.putPlant p { r with state := .running, minRunDue := some (s.now + Config.minimumRun), minRunElapsed := false })
      (s.enterRunning p) := by
  rw [State.enterRunning, hr]
  refine .trans ?_ ((Writes.offer _ _ _).trans (.foldl (fun _ _ => State.endPulse_writes _) _ _))
  split
  · exact .refl _
  · exact State.placeDuty_writes _ _

theorem State.enterRunning_moves (loose : ¬ w.right) {p : Nat} (up : s.plantUp p) : Writes w s (s.enterRunning p) := by
  cases hr : s.plant? p with
  | none => rw [State.enterRunning, hr]; exact .refl s
  | some r =>
    refine .trans ?_ (State.enterRunning_after p hr)
    exact .plant hr (.of_ne loose (up r hr) (by simp) fun _ => .refl _)

theorem State.enterRunning_right {p : Nat} (h : s.rightBut p fun r => r.Serves ∧ r.service ≠ []) :
    (s.enterRunning p).plantsRight := by
  cases hr : s.plant? p with
  | none =>
    rw [State.enterRunning, hr]
    exact State.rightBut_right.mp ⟨h.1, fun r hx => nomatch hr.symm.trans hx⟩
  | some r =>
    obtain ⟨serves, some⟩ := h.2 r hr
    refine (State.enterRunning_after (w := ⟨False, False, False, True⟩) p hr).plantsRight trivial
      (State.rightBut_right.mp (h.put hr ?_))
    refine Plant.Serves.running ⟨serves.duty, serves.level, serves.others, serves.order⟩ rfl some ?_
    exact (Plant.settled_of (by exact serves.order) (.inr (by rfl))).2

theorem State.enterChangeover_after (p : Nat) {r : Plant} (hr : s.plant? p = some r) :
    Writes w (s.putPlant p { r with state := .changeover, changeDue := some (s.now + Config.changeoverSeconds),
                                    changeExpired := false, changeAcked := false }) (s.enterChangeover p) := by
  rw [State.enterChangeover, hr]
  exact State.placeDuty_writes _ _

theorem State.enterChangeover_moves (loose : ¬ w.right) {p : Nat} (up : s.plantUp p) : Writes w s (s.enterChangeover p) := by
  cases hr : s.plant? p with
  | none => rw [State.enterChangeover, hr]; exact .refl s
  | some r =>
    refine .trans ?_ (State.enterChangeover_after p hr)
    exact .plant hr (.of_ne loose (up r hr) (by simp) fun _ => .refl _)

theorem State.enterChangeover_right {p : Nat} (h : s.rightBut p Plant.Serves) : (s.enterChangeover p).plantsRight := by
  cases hr : s.plant? p with
  | none =>
    rw [State.enterChangeover, hr]
    exact State.rightBut_right.mp ⟨h.1, fun r hx => nomatch hr.symm.trans hx⟩
  | some r =>
    have serves := h.2 r hr
    refine (State.enterChangeover_after (w := ⟨False, False, False, True⟩) p hr).plantsRight trivial
      (State.rightBut_right.mp (h.put hr ?_))
    exact Plant.Serves.moving ⟨serves.duty, serves.level, serves.others, serves.order⟩ rfl

theorem State.enterIdle_after (p : Nat) {r : Plant} (hr : s.plant? p = some r) :
    Writes w (s.putPlant p { r with state := .idle, target := .neutral, serviceLevel := 0 }) (s.enterIdle p) := by
  rw [State.enterIdle, hr]
  dsimp only
  split
  · exact .refl _
  · exact State.placeDuty_writes _ _

theorem State.enterIdle_moves (loose : ¬ w.right) {p : Nat} (up : s.plantUp p) : Writes w s (s.enterIdle p) := by
  cases hr : s.plant? p with
  | none => rw [State.enterIdle, hr]; exact .refl s
  | some r =>
    refine .trans ?_ (State.enterIdle_after p hr)
    exact .plant hr (.of_ne loose (up r hr) (by simp) fun _ => .refl _)

theorem State.enterIdle_right {p : Nat} (h : s.rightBut p fun r => r.service = [] ∧ r.waiting = []) :
    (s.enterIdle p).plantsRight := by
  cases hr : s.plant? p with
  | none =>
    rw [State.enterIdle, hr]
    exact State.rightBut_right.mp ⟨h.1, fun r hx => nomatch hr.symm.trans hx⟩
  | some r =>
    obtain ⟨service, waiting⟩ := h.2 r hr
    exact (State.enterIdle_after (w := ⟨False, False, False, True⟩) p hr).plantsRight trivial
      (State.rightBut_right.mp (h.put hr (Plant.right_of_idle rfl service waiting rfl)))

/-! ## Selection (R85) and preemption (R90) -/

/-- The demands of the head's duty and the others are all that waits. -/
theorem filter_duty_perm (q : List Demand) (duty : Duty) :
    (q.filter (fun d => d.duty == duty) ++ q.filter fun d => d.duty != duty).Perm q := List.filter_append_perm _ _

/-- The plant as it takes up every waiting demand of a duty, before it enters RUNNING or CHANGEOVER (R85). -/
def Plant.serving (r : Plant) (duty : Duty) : Plant :=
  { r.stopTimers with
    service := r.waiting.filter fun d => d.duty == duty
    waiting := r.waiting.filter fun d => d.duty != duty
    target := duty, serviceLevel := topLevel (r.waiting.filter fun d => d.duty == duty) }

theorem Plant.serving_serves {r : Plant} (order : inOrder r.waiting) (duty : Duty) : (r.serving duty).Serves where
  duty d hd := by
    show d.duty = duty
    simpa using (List.mem_filter.mp hd).2
  level := rfl
  others d hd := by
    show d.duty ≠ duty
    simpa using (List.mem_filter.mp hd).2
  order := order.filter _

theorem State.select_none {p : Nat} (hn : s.plant? p = none) : s.select p = s := by
  rw [State.select, hn]

theorem State.select_idle {p : Nat} {r : Plant} (hr : s.plant? p = some r) (empty : r.waiting = []) :
    s.select p = (s.putPlant p r.stopTimers).enterIdle p := by
  have stopped : r.stopTimers.waiting = [] := empty
  rw [State.select, hr]
  simp only [stopped]

theorem State.select_serving {p : Nat} {r : Plant} {h : Demand} {rest : List Demand} (hr : s.plant? p = some r)
    (waiting : r.waiting = h :: rest) :
    s.select p = if r.physical = h.duty then (s.putPlant p (r.serving h.duty)).enterRunning p
      else (s.putPlant p (r.serving h.duty)).enterChangeover p := by
  have stopped : r.stopTimers.waiting = h :: rest := waiting
  have physical : r.stopTimers.physical = r.physical := rfl
  rw [State.select, hr, Plant.serving, waiting]
  simp only [stopped, physical, beq_iff_eq]

/-- A selection, of a plant that is not FAULTED and serves nothing. -/
theorem State.select_moves (loose : ¬ w.right) {p : Nat} (up : s.plantUp p)
    (free : w.asks → ∀ r, s.plant? p = some r → r.service = []) : Writes w s (s.select p) := by
  cases hr : s.plant? p with
  | none => rw [State.select_none hr]; exact .refl s
  | some r =>
    have upNow : r.state ≠ .faulted := up r hr
    cases waiting : r.waiting with
    | nil =>
      rw [State.select_idle hr waiting]
      refine .trans ?_ (State.enterIdle_moves loose (State.plantUp_putPlant hr upNow))
      exact .plant hr (.of_same loose rfl rfl)
    | cons h rest =>
      have serves : Writes w s (s.putPlant p (r.serving h.duty)) :=
        .plant hr (.of_ne loose upNow upNow fun asks => by
          rw [Plant.demands, Plant.demands, free asks r hr]; exact filter_duty_perm _ _)
      have up' := State.plantUp_putPlant (r' := r.serving h.duty) hr upNow
      rw [State.select_serving hr waiting]
      split
      · exact serves.trans (State.enterRunning_moves loose up')
      · exact serves.trans (State.enterChangeover_moves loose up')

/-- A selection leaves the plants right, where the plant serves nothing and its pending list stands in order. -/
theorem State.select_right {p : Nat} (h : s.rightBut p Plant.Free) : (s.select p).plantsRight := by
  cases hr : s.plant? p with
  | none =>
    rw [State.select_none hr]
    exact State.rightBut_right.mp ⟨h.1, fun r hx => nomatch hr.symm.trans hx⟩
  | some r =>
    have free := h.2 r hr
    cases waiting : r.waiting with
    | nil =>
      rw [State.select_idle hr waiting]
      exact State.enterIdle_right (h.put hr ⟨free.service, waiting⟩)
    | cons d rest =>
      have serves := Plant.serving_serves free.order d.duty
      have some : (r.serving d.duty).service ≠ [] := by simp [Plant.serving, waiting]
      rw [State.select_serving hr waiting]
      split
      · exact State.enterRunning_right (h.put hr ⟨serves, some⟩)
      · exact State.enterChangeover_right (h.put hr serves)

/-- A plant is written and a selection follows: the record written is not FAULTED and serves nothing. -/
theorem State.putPlant_select_moves (loose : ¬ w.right) {p : Nat} {r r' : Plant} (hr : s.plant? p = some r)
    (steady : r.Steady w r') (up : r'.state ≠ .faulted) (free : w.asks → r'.service = []) :
    Writes w s ((s.putPlant p r').select p) := by
  refine (Writes.plant hr steady).trans (State.select_moves loose (State.plantUp_putPlant hr up) fun asks x hx => ?_)
  rw [State.plant?_putPlant r' hr] at hx
  cases hx
  exact free asks

theorem State.preemptTest_moves (loose : ¬ w.right) (p : Nat) : Writes w s (s.preemptTest p) := by
  unfold State.preemptTest
  split
  case h_1 r hr =>
    split
    · next preempted =>
      have running := (Plant.preempted_running preempted).1
      have up : r.state ≠ .faulted := by simp [running]
      exact State.putPlant_select_moves loose hr (.of_ne loose up up fun _ => r.returnService_demands) up fun _ => rfl
    · exact .refl s
  case h_2 => exact .refl s

/-- The preemption test leaves the plants right, where all but that is right of the plant. -/
theorem State.preemptTest_right {p : Nat} (h : s.rightBut p fun r => r.serviceRight ∧ inOrder r.waiting) :
    (s.preemptTest p).plantsRight := by
  unfold State.preemptTest
  split
  case h_1 r hr =>
    obtain ⟨service, order⟩ := h.2 r hr
    split
    · exact State.select_right (h.put hr (Plant.returnService_free order))
    · next settled =>
      refine State.rightBut_right.mp ⟨h.1, fun x hx => ?_⟩
      cases hr.symm.trans hx
      exact ⟨service, order, by simpa using settled⟩
  case h_2 hr => exact State.rightBut_right.mp ⟨h.1, fun r hx => nomatch hr.symm.trans hx⟩

/-! ## Raise, update, withdraw (R87 to R89) -/

/-- The plant has given out an arrival number, and its state is what it was. -/
theorem Plant.accept_state (r : Plant) (z : Nat) (duty : Duty) (level : Nat) : (r.accept z duty level).state = r.state := by
  have numbered : r.numbered.state = r.state := by unfold Plant.numbered; split <;> rfl
  unfold Plant.accept
  dsimp only
  split <;> exact numbered

/-- The rank of a demand among some, by arrival (R83). -/
def Demand.ranked (all : List Demand) (d : Demand) : Demand :=
  { d with arrival := (all.filter fun e => e.arrival < d.arrival).length + 1 }

theorem Plant.renumber_eq (r : Plant) : r.renumber = { r with
    service := r.service.map (Demand.ranked r.demands), waiting := r.waiting.map (Demand.ranked r.demands)
    arrivals := r.demands.length } := rfl

theorem inOrder_ranked (all : List Demand) {q : List Demand} (h : inOrder q) : inOrder (q.map (Demand.ranked all)) := by
  refine List.pairwise_map.mpr (h.imp fun {a b} ordered => ?_)
  rw [Demand.not_precedes_iff] at ordered ⊢
  obtain ⟨level, arrival⟩ := ordered
  refine ⟨level, fun same => Nat.succ_le_succ ?_⟩
  have earlier := arrival same
  refine (List.monotone_filter_right all fun e he => ?_).length_le
  simp only [decide_eq_true_eq] at he ⊢
  omega

/-- A renumbering changes arrival numbers alone, and keeps their order. -/
theorem Plant.numbered_right {r : Plant} (h : r.Right) : r.numbered.Right := by
  unfold Plant.numbered
  split
  · obtain ⟨⟨rests, idle, running, duty, level, others⟩, order, settled⟩ := h
    rw [Plant.renumber_eq]
    refine ⟨⟨fun is => ?_, fun is => ?_, fun is none => ?_, fun d hd => ?_, ?_, fun is d hd => ?_⟩, inOrder_ranked _ order, ?_⟩
    · exact List.map_eq_nil_iff.mpr (rests is)
    · exact List.map_eq_nil_iff.mpr (idle is)
    · exact running is (List.map_eq_nil_iff.mp none)
    · obtain ⟨x, hx, rfl⟩ := List.mem_map.mp hd
      exact duty x hx
    · exact level.trans (topLevel_map (f := Demand.ranked r.demands) (fun _ => rfl) _).symm
    · obtain ⟨x, hx, rfl⟩ := List.mem_map.mp hd
      exact others is x hx
    · unfold Plant.preempted at settled ⊢
      rw [List.head?_map, Option.any_map]
      exact settled
  · exact h

theorem Plant.numbered_state (r : Plant) : r.numbered.state = r.state := by
  unfold Plant.numbered; split <;> rfl

theorem Plant.numbered_target (r : Plant) : r.numbered.target = r.target := by
  unfold Plant.numbered; split <;> rfl

/-- The demand that a raise makes. -/
def Plant.raised (r : Plant) (z : Nat) (duty : Duty) (level : Nat) : Demand :=
  { zone := z, duty, level, arrival := r.numbered.arrivals + 1 }

theorem Plant.accept_serves {r : Plant} (z level : Nat) (moves : r.state = .changeover ∨ r.state = .running) :
    r.accept z r.target level = { r.numbered with
      arrivals := r.numbered.arrivals + 1, service := insertDemand (r.raised z r.target level) r.numbered.service
      serviceLevel := topLevel (r.raised z r.target level :: r.numbered.service) } := by
  have : ((r.numbered.state == .changeover || r.numbered.state == .running) && r.target == r.numbered.target) = true := by
    rw [r.numbered_state, r.numbered_target]
    rcases moves with is | is <;> simp [is]
  rw [Plant.accept]
  exact if_pos this

theorem Plant.accept_waits {r : Plant} (z : Nat) {duty : Duty} (level : Nat)
    (waits : (r.state = .changeover ∨ r.state = .running) → duty ≠ r.target) :
    r.accept z duty level = { r.numbered with
      arrivals := r.numbered.arrivals + 1, waiting := insertDemand (r.raised z duty level) r.numbered.waiting } := by
  have : ¬ ((r.numbered.state == .changeover || r.numbered.state == .running) && duty == r.numbered.target) = true := by
    rw [r.numbered_state, r.numbered_target]
    simpa using waits
  rw [Plant.accept]
  exact if_neg this

/-- A demand of the target duty joins the service set. -/
theorem Plant.accept_serves_right {r : Plant} (h : r.Right) (z level : Nat) (moves : r.state = .changeover ∨ r.state = .running) :
    (r.accept z r.target level).Right := by
  have numbered := Plant.numbered_right h
  have state := r.numbered_state
  have serves := numbered.serves (state ▸ moves)
  rw [Plant.accept_serves z level moves]
  have joined : Plant.Serves { r.numbered with
      arrivals := r.numbered.arrivals + 1, service := insertDemand (r.raised z r.target level) r.numbered.service
      serviceLevel := topLevel (r.raised z r.target level :: r.numbered.service) } :=
    { duty := fun d hd =>
        ((mem_insertDemand _ _ _).mp hd).elim (fun same => by rw [same]; exact r.numbered_target.symm) (serves.duty d)
      level := topLevel_perm (insertDemand_perm _ _).symm
      others := serves.others, order := serves.order }
  rcases moves with is | is
  · exact joined.moving (state.trans is)
  · refine joined.running (state.trans is) ?_ ?_
    · intro none
      have := (mem_insertDemand (r.raised z r.target level) _ r.numbered.service).mpr (.inl rfl)
      rw [show insertDemand _ r.numbered.service = [] from none] at this
      cases this
    · have settled := numbered.2.2
      have level : r.numbered.serviceLevel ≤ topLevel (r.raised z r.target level :: r.numbered.service) := by
        rw [serves.level]
        exact Nat.le_max_right _ _
      unfold Plant.preempted at settled ⊢
      rw [Bool.and_eq_false_iff] at settled ⊢
      refine settled.imp id fun low => ?_
      rw [Option.any_eq_false] at low ⊢
      intro d hd
      have below : d.level ≤ r.numbered.serviceLevel := by simpa using low d hd
      simpa using below.trans level

/-- A demand that joins the pending list leaves all right of a plant that is not IDLE, but for a preemption. -/
theorem Plant.accept_waits_right {r : Plant} (h : r.Right) (z : Nat) {duty : Duty} (level : Nat) (busy : r.state ≠ .idle)
    (waits : (r.state = .changeover ∨ r.state = .running) → duty ≠ r.target) :
    (r.accept z duty level).serviceRight ∧ inOrder (r.accept z duty level).waiting := by
  have state := r.numbered_state
  obtain ⟨⟨rests, -, running, serves, top, others⟩, order, -⟩ := Plant.numbered_right h
  rw [Plant.accept_waits z level waits]
  refine ⟨⟨rests, fun is => absurd (state.symm.trans is) busy, running, serves, top, fun is d hd => ?_⟩,
    insertDemand_inOrder _ order⟩
  rcases (mem_insertDemand _ _ _).mp hd with rfl | old
  · exact r.numbered_target ▸ waits (state ▸ is)
  · exact others is d old

/-- Where the demands are not watched, a plant that keeps its state is steady. -/
theorem Plant.Steady.unwatched {r r' : Plant} (loose : ¬ w.right) (h : ¬ w.asks) (state : r'.state = r.state) : r.Steady w r' :=
  ⟨by rw [state], fun asks => absurd asks h, fun watched => absurd watched loose⟩

theorem State.raise_right (h : s.plantsRight) (p z : Nat) (duty : Duty) (level : Nat) : (s.raise p z duty level).plantsRight := by
  unfold State.raise
  split
  case h_1 r hr =>
    have right : r.Right := h p r hr
    have waits (busy : r.state ≠ .idle) (others : (r.state = .changeover ∨ r.state = .running) → duty ≠ r.target) :
        (s.putPlant p (r.accept z duty level)).rightBut p fun r => r.serviceRight ∧ inOrder r.waiting :=
      h.put hr (Plant.accept_waits_right right z level busy others)
    have rests (still : r.state = .held ∨ r.state = .faulted) : (s.putPlant p (r.accept z duty level)).plantsRight := by
      have still' : r.state ≠ .idle ∧ r.state ≠ .changeover ∧ r.state ≠ .running := by
        rcases still with is | is <;> simp [is]
      obtain ⟨service, order⟩ := Plant.accept_waits_right (duty := duty) right z level still'.1
        fun is => (is.elim still'.2.1 still'.2.2).elim
      exact h.putRight hr ⟨service, Plant.settled_of order (.inl (by rw [r.accept_state]; exact still'.2.2))⟩
    dsimp only
    split
    · next idle =>
      have free := (Plant.numbered_right right).free (r.numbered_state ▸ .inl idle)
      have waits : r.accept z duty level = _ := Plant.accept_waits z level (by simp [idle])
      refine State.select_right (h.put hr ?_)
      rw [waits]
      exact ⟨free.service, insertDemand_inOrder _ free.order⟩
    · next running =>
      split
      · next same =>
        rw [beq_iff_eq.mp same]
        exact (State.endPulse_writes (w := ⟨False, False, False, True⟩) _).plantsRight trivial
          (h.putRight hr (Plant.accept_serves_right right z level (.inr running)))
      · next other => exact State.preemptTest_right (waits (by simp [running]) fun _ => by simpa using other)
    · next changing =>
      by_cases same : duty = r.target
      · rw [same]
        exact h.putRight hr (Plant.accept_serves_right right z level (.inl changing))
      · obtain ⟨service, order⟩ := Plant.accept_waits_right right z level (by simp [changing]) fun _ => same
        exact h.putRight hr ⟨service, Plant.settled_of order (.inl (by rw [r.accept_state, changing]; simp))⟩
    · next held => exact rests (.inl held)
    · next faulted => exact rests (.inr faulted)
  case h_2 => exact h

/-- What a raise does once the plant has taken the demand. -/
theorem State.raise_after (loose : ¬ w.right) {p : Nat} {r : Plant} (hr : s.plant? p = some r) (right : w.asks → r.Right) (z : Nat)
    (duty : Duty) (level : Nat) : Writes w (s.putPlant p (r.accept z duty level)) (s.raise p z duty level) := by
  rw [State.raise, hr]
  dsimp only
  split
  · next idle =>
    refine State.select_moves loose (fun x hx => ?_) fun asks x hx => ?_
    all_goals
      rw [State.plant?_putPlant _ hr] at hx
      cases hx
    · simp [Plant.accept_state, idle]
    · rw [Plant.accept_waits z level (by simp [idle])]
      exact ((Plant.numbered_right (right asks)).free (r.numbered_state ▸ .inl idle)).service
  · split
    · exact State.endPulse_writes _
    · exact State.preemptTest_moves loose _
  all_goals exact .refl _

theorem State.raise_writes (h : ¬ w.asks) (p z : Nat) (duty : Duty) (level : Nat) : Writes w s (s.raise p z duty level) := by
  refine .whole ?_ fun _ right => State.raise_right right p z duty level
  cases hr : s.plant? p with
  | none => rw [State.raise, hr]; exact .refl s
  | some r =>
    refine .trans ?_ (State.raise_after (w := { w with right := False }) id hr (fun asks => absurd asks h) z duty level)
    exact .plant hr (.unwatched id h (r.accept_state z duty level))

/-- A demand at its new level. -/
theorem Plant.relevel_right {r : Plant} (h : r.Right) (z level : Nat) :
    (r.relevel z level).serviceRight ∧ inOrder (r.relevel z level).waiting := by
  obtain ⟨⟨rests, idle, running, duty, -, others⟩, order, -⟩ := h
  have served : (r.relevel z level).service.Perm (r.service.map fun d => if d.zone == z then { d with level } else d) := by
    have := insertDemands_perm (r.service.map fun d => if d.zone == z then { d with level } else d) []
    rwa [List.append_nil] at this
  have waiting {d : Demand} (hd : d ∈ (r.relevel z level).waiting) : ∃ x ∈ r.waiting, d.duty = x.duty := by
    rcases (mem_insertDemands _ _ _).mp hd with moved | kept
    · obtain ⟨x, hx, rfl⟩ := List.mem_map.mp moved
      exact ⟨x, (List.mem_filter.mp hx).1, rfl⟩
    · exact ⟨d, (List.mem_filter.mp kept).1, rfl⟩
  refine ⟨⟨fun is => ?_, fun is => ?_, fun is none => ?_, fun d hd => ?_, topLevel_perm served.symm, fun is d hd => ?_⟩,
    insertDemands_inOrder _ (order.filter _)⟩
  · rw [rests is] at served
    exact served.eq_nil
  · refine List.eq_nil_iff_forall_not_mem.mpr fun d hd => ?_
    obtain ⟨x, hx, -⟩ := waiting hd
    rw [idle is] at hx
    cases hx
  · rw [none] at served
    exact running is (List.map_eq_nil_iff.mp served.symm.eq_nil)
  · obtain ⟨x, hx, rfl⟩ := List.mem_map.mp (served.subset hd)
    have := duty x hx
    split <;> exact this
  · obtain ⟨x, hx, same⟩ := waiting hd
    rw [same]
    exact others is x hx

theorem State.update_right (h : s.plantsRight) (p z level : Nat) : (s.update p z level).plantsRight := by
  unfold State.update
  split
  case h_1 r hr => exact State.preemptTest_right (h.put hr (Plant.relevel_right (h p r hr) z level))
  case h_2 => exact h

theorem State.update_after (loose : ¬ w.right) {p : Nat} {r : Plant} (hr : s.plant? p = some r) (z level : Nat) :
    Writes w (s.putPlant p (r.relevel z level)) (s.update p z level) := by
  rw [State.update, hr]
  exact State.preemptTest_moves loose p

theorem State.update_writes (h : ¬ w.asks) (p z level : Nat) : Writes w s (s.update p z level) := by
  refine .whole ?_ fun _ right => State.update_right right p z level
  cases hr : s.plant? p with
  | none => rw [State.update, hr]; exact .refl s
  | some r =>
    refine .trans ?_ (State.update_after (w := { w with right := False }) id hr z level)
    exact .plant hr (.unwatched id h rfl)

/-- A plant without the demand of a zone serves as it did, and its pending list stands in order. -/
theorem Plant.drop_right {r : Plant} (h : r.Right) (z : Nat) (some : r.state = .running → (r.drop z).service ≠ []) :
    (r.drop z).serviceRight ∧ inOrder (r.drop z).waiting := by
  obtain ⟨⟨rests, idle, -, duty, -, others⟩, order, -⟩ := h
  refine ⟨⟨fun is => ?_, fun is => ?_, some, fun d hd => duty d (List.mem_filter.mp hd).1, rfl,
    fun is d hd => others is d (List.mem_filter.mp hd).1⟩, order.filter _⟩
  · show r.service.filter _ = []
    rw [rests is]
    rfl
  · show r.waiting.filter _ = []
    rw [idle is]
    rfl

theorem State.withdraw_right (h : s.plantsRight) (p z : Nat) : (s.withdraw p z).plantsRight := by
  unfold State.withdraw
  split
  case h_1 r hr =>
    have right : r.Right := h p r hr
    dsimp only
    split
    · split
      · next empty =>
        exact State.select_right (h.put hr ⟨List.isEmpty_iff.mp empty, right.order.filter _⟩)
      · next some =>
        exact State.preemptTest_right (h.put hr (Plant.drop_right right z fun _ => by simpa using some))
    · next unserved =>
      refine h.putRight hr ?_
      by_cases running : r.state = .running
      · have same : (r.drop z).service = r.service := by
          refine List.filter_eq_self.mpr fun d hd => ?_
          by_contra here
          exact unserved (by simpa [running] using ⟨d, hd, by simpa using here⟩)
        obtain ⟨service, order⟩ := Plant.drop_right right z fun is => same ▸ right.1.2.2.1 is
        refine ⟨service, order, ?_⟩
        have settled := right.2.2
        have level : (r.drop z).serviceLevel = r.serviceLevel := by
          rw [right.1.2.2.2.2.1, ← same]
          rfl
        unfold Plant.preempted at settled ⊢
        rw [Bool.and_eq_false_iff] at settled ⊢
        refine settled.imp id fun low => ?_
        rw [level, Option.any_eq_false]
        intro d hd
        have here : d ∈ r.waiting := (List.mem_filter.mp (List.mem_of_mem_head? hd)).1
        cases waiting : r.waiting with
        | nil => rw [waiting] at here; cases here
        | cons x rest =>
          have order := right.order
          rw [waiting] at low here order
          have top : x.level ≤ r.serviceLevel := by simpa using low
          have below : d.level ≤ x.level := by
            rcases List.mem_cons.mp here with rfl | later
            · exact le_rfl
            · exact ((Demand.not_precedes_iff _ _).mp ((List.pairwise_cons.mp order).1 d later)).1
          simpa using below.trans top
      · obtain ⟨service, order⟩ := Plant.drop_right right z fun is => absurd is running
        exact ⟨service, Plant.settled_of order (.inl running)⟩
  case h_2 => exact h

/-- What a withdrawal does once the plant has given up the demand. -/
theorem State.withdraw_after (loose : ¬ w.right) {p : Nat} {r : Plant} (hr : s.plant? p = some r) (z : Nat) :
    Writes w (s.putPlant p (r.drop z)) (s.withdraw p z) := by
  rw [State.withdraw, hr]
  dsimp only
  split
  · next served =>
    have running : r.state = .running := by
      simp only [Bool.and_eq_true, beq_iff_eq] at served
      exact served.1
    split
    · next empty =>
      refine State.select_moves loose (fun x hx => ?_) fun _ x hx => ?_
      all_goals
        rw [State.plant?_putPlant _ hr] at hx
        cases hx
      · simp [Plant.drop, running]
      · exact List.isEmpty_iff.mp empty
    · exact State.preemptTest_moves loose _
  · exact .refl _

theorem State.withdraw_writes (h : ¬ w.asks) (p z : Nat) : Writes w s (s.withdraw p z) := by
  refine .whole ?_ fun _ right => State.withdraw_right right p z
  cases hr : s.plant? p with
  | none => rw [State.withdraw, hr]; exact .refl s
  | some r =>
    refine .trans ?_ (State.withdraw_after (w := { w with right := False }) id hr z)
    exact .plant hr (.unwatched id h rfl)

/-! ## Changeover (R92, R93), duty commands (R94) and recovery (R96) -/

theorem State.completeChangeover_moves (loose : ¬ w.right) (p : Nat) : Writes w s (s.completeChangeover p) := by
  unfold State.completeChangeover
  split
  case h_1 r hr =>
    split
    · next complete =>
      have changing : r.state = .changeover := by
        simp only [Bool.and_eq_true, beq_iff_eq] at complete
        exact complete.1.1
      have up : r.state ≠ .faulted := by simp [changing]
      have stops : r.Steady w r.stopTimers := .of_same loose rfl rfl
      dsimp only
      split
      · next empty => exact State.putPlant_select_moves loose hr stops up fun _ => List.isEmpty_iff.1 empty
      · exact (Writes.plant hr stops).trans (State.enterRunning_moves loose (State.plantUp_putPlant hr up))
    · exact .refl s
  case h_2 => exact .refl s

theorem State.completeChangeover_right (h : s.plantsRight) (p : Nat) : (s.completeChangeover p).plantsRight := by
  unfold State.completeChangeover
  split
  case h_1 r hr =>
    have right : r.Right := h p r hr
    split
    · next complete =>
      have changing : r.state = .changeover := by
        simp only [Bool.and_eq_true, beq_iff_eq] at complete
        exact complete.1.1
      have serves := right.serves (.inl changing)
      dsimp only
      split
      · next empty => exact State.select_right (h.put hr ⟨List.isEmpty_iff.1 empty, right.order⟩)
      · next some =>
        refine State.enterRunning_right (h.put hr ⟨⟨serves.duty, serves.level, serves.others, serves.order⟩, ?_⟩)
        show r.service ≠ []
        simpa using some
    · exact h
  case h_2 => exact h

theorem State.completeChangeover_writes (p : Nat) : Writes w s (s.completeChangeover p) :=
  .whole (State.completeChangeover_moves id p) fun _ right => State.completeChangeover_right right p

theorem State.dutySucceeded_writes (p v : Nat) : Writes w s (s.dutySucceeded p v) := by
  unfold State.dutySucceeded
  split
  case h_1 r duty hr _ =>
    refine .trans ?_ (State.completeChangeover_writes p)
    exact .plant hr ⟨.rfl, fun _ => .refl _, fun _ right => right.congr rfl rfl rfl rfl rfl rfl⟩
  case h_2 => exact .refl s

/-- A plant of the part that has its alarm line follow and then selects. -/
theorem State.putPlant_followAlarm_select_moves (loose : ¬ w.right) {p : Nat} {r r' : Plant} (hr : s.plant? p = some r)
    (asked : w.asks → r'.asked.Perm r.asked) (up : r'.state ≠ .faulted) (free : w.asks → r'.service = []) :
    Writes w s ((s.putPlant p r').followAlarm.select p) := by
  have written : (s.putPlant p r').followAlarm.plant? p = some r' := by
    rw [State.plant?, State.followAlarm_plants]
    exact State.plant?_putPlant r' hr
  refine (Writes.plantFollowed hr asked fun watched => absurd watched loose).trans
    (State.select_moves loose (fun x hx => ?_) fun asks x hx => ?_)
  all_goals
    rw [written] at hx
    cases hx
  · exact up
  · exact free asks

theorem State.plantRecover_right (h : s.plantsRight) (p : Nat) (reported : Option Nat) :
    (s.plantRecover p reported).plantsRight := by
  unfold State.plantRecover
  split
  case h_1 r hr =>
    split
    · next faulted =>
      have free := Plant.Right.free (h p r hr) (.inr (.inr (by simpa using faulted)))
      refine State.select_right (State.rightBut.congr ?_ (State.followAlarm_plants _))
      exact h.put hr ⟨free.service, free.order⟩
    · exact h
  case h_2 => exact h

/-- A FAULTED plant serves nothing, which what is right of the plants says (R84). -/
theorem State.plantRecover_writes (right : w.asks → s.plantsRight) (p : Nat) (reported : Option Nat) :
    Writes w s (s.plantRecover p reported) := by
  refine .whole ?_ fun _ h => State.plantRecover_right h p reported
  unfold State.plantRecover
  split
  case h_1 r hr =>
    split
    · next faulted =>
      exact State.putPlant_followAlarm_select_moves id hr (fun _ => .refl _) (by simp) fun asks =>
        (right asks p r hr).1.1 (.inr (.inr (by simpa using faulted)))
    · exact .refl s
  case h_2 => exact .refl s

/-! ## Devices -/

section

theorem TableAdmitted.of_eq {ds ds' : List Device} (h : storedDevices ds' = storedDevices ds) :
    TableAdmitted (storedDevices ds) → TableAdmitted (storedDevices ds') := by rw [h]; exact id

/-- A change of some entry's state, readings and reports alone. -/
theorem State.modDevice_writes {d : DeviceAddr} {f : Device → Device}
    (h : ∀ x, (f x).line = x.line ∧ (f x).address = x.address ∧ (f x).kind = x.kind) : Writes w s (s.modDevice d f) := by
  refine .devices (TableAdmitted.of_eq ?_)
  rw [storedDevices, storedDevices, List.map_map]
  refine List.map_congr_left fun x _ => ?_
  obtain ⟨line, address, kind⟩ := h x
  by_cases at_d : x.at d <;> simp [at_d, line, address, kind]

theorem State.ownerFault_writes (o : Option Owner) : Writes w s (s.ownerFault o) := by
  unfold State.ownerFault
  split
  · exact State.trimFault_writes _
  · exact .modBank _ _
  · exact State.plantFault_writes _ _
  all_goals exact .refl s

theorem State.ownerSuccess_writes (right : w.asks → s.plantsRight) (value : Option Nat) (o : Option Owner) :
    Writes w s (s.ownerSuccess value o) := by
  unfold State.ownerSuccess
  split
  · exact State.trimAvailable_writes _
  · exact State.bankRecover_writes _
  · exact State.plantRecover_writes right _ _
  all_goals exact .refl s

/-- What is right of the plants depends on the plants alone. -/
theorem State.deviceSuccess_writes (right : w.asks → s.plantsRight) (e : Device) {upd : Device → Device}
    (keeps : ∀ x, (upd x).line = x.line ∧ (upd x).address = x.address ∧ (upd x).kind = x.kind) (value : Option Nat) :
    Writes w s (s.deviceSuccess e upd value) := by
  unfold State.deviceSuccess
  dsimp only
  have entry : Writes w s (s.modDevice e.addr fun x => upd { x with failures := 0, state := .active }) :=
    State.modDevice_writes fun x => keeps _
  split
  · refine (entry.trans (.offer _ _ _)).trans (State.ownerSuccess_writes (fun asks => ?_) _ _)
    exact State.plantsRight_congr (by rw [State.offer_plants]; rfl) (right asks)
  · refine entry.trans (State.ownerSuccess_writes (fun asks => ?_) _ _)
    exact State.plantsRight_congr rfl (right asks)

theorem State.deviceFailure_writes (e : Device) (reason : FaultReason) : Writes w s (s.deviceFailure e reason) := by
  unfold State.deviceFailure
  dsimp only
  have entry (n : Nat) (after : DeviceState) : Writes w s
      (s.modDevice e.addr fun x => { x with failures := n, state := after, fault := some ⟨reason, s.clock⟩ }) :=
    State.modDevice_writes fun _ => ⟨rfl, rfl, rfl⟩
  split
  · exact ((entry _ _).trans (.offer _ _ _)).trans (State.ownerFault_writes _)
  · exact entry _ _

theorem State.probeWrongKind_writes (e : Device) : Writes w s (s.probeWrongKind e) := by
  unfold State.probeWrongKind
  dsimp only
  have entry : Writes w s (s.modDevice e.addr fun x =>
      { x with state := .faulted, fault := some ⟨.wrongKind, s.clock⟩, mismatch := true }) :=
    State.modDevice_writes fun _ => ⟨rfl, rfl, rfl⟩
  split
  · exact entry
  · exact (entry.trans (.offer _ _ _)).trans (State.ownerFault_writes _)

theorem State.probeSilent_writes (l a : Nat) : Writes w s (s.probeSilent l a).1 := by
  unfold State.probeSilent
  split
  · exact State.modDevice_writes fun _ => ⟨rfl, rfl, rfl⟩
  · exact .refl s

end

end

end Sys2Proof.Machine
end

section
/-! PROOFS. The device table under enrolment and retirement, and the operations of the lines as chains of single writes. -/

namespace Sys2Proof.Machine

/-! ## The device table (R118) -/

/-- The place of an entry in the order of the table. -/
def Device.place (e : Device) : Nat × Nat := (e.line, e.address)

theorem places_storedDevices (ds : List Device) : places (storedDevices ds) = ds.map Device.place := by
  simp [places, storedDevices, Function.comp_def, Device.place]

/-- The entry is an actuator of this line. -/
def Device.actuates (e : Device) (l : Nat) : Bool := e.line == l && e.kind.isActuator

/-- R118 of a device table as the part holds it. -/
theorem tableAdmitted_iff (ds : List Device) :
    TableAdmitted (storedDevices ds) ↔ ds.length ≤ 64 ∧ (ds.map Device.place).Pairwise placeBefore
      ∧ ∀ l, (ds.filter (·.actuates l)).length ≤ 16 := by
  have count (l : Nat) : ((storedDevices ds).filter fun d => d.line == l && d.kind.isActuator).length
      = (ds.filter (·.actuates l)).length := by
    rw [storedDevices, List.filter_map, List.length_map]
    rfl
  simp only [TableAdmitted, count, places_storedDevices, Config.deviceCapacity, Config.actuatorsPerLine]
  rw [storedDevices, List.length_map]

theorem Device.before_iff (e x : Device) : e.before x = true ↔ placeBefore e.place x.place := by
  simp [Device.before, placeBefore, Device.place]

theorem Device.at_iff (e : Device) (d : DeviceAddr) : e.at d = true ↔ e.place = (d.line, d.address) := by
  simp [Device.at, Device.place]

theorem insertDevice_perm (e : Device) (ds : List Device) : (insertDevice e ds).Perm (e :: ds) := by
  induction ds with
  | nil => exact .refl _
  | cons x ds ih =>
    rw [insertDevice]
    split
    · exact .refl _
    · exact (ih.cons x).trans (.swap e x ds)

/-- An entry of a new place joins the table at its place. -/
theorem insertDevice_ordered {e : Device} {ds : List Device} (new : ∀ x ∈ ds, x.place ≠ e.place)
    (h : (ds.map Device.place).Pairwise placeBefore) : ((insertDevice e ds).map Device.place).Pairwise placeBefore := by
  induction ds with
  | nil => simp [insertDevice]
  | cons x ds ih =>
    rw [List.map_cons, List.pairwise_cons, List.forall_mem_map] at h
    obtain ⟨first, rest⟩ := h
    have apart := new x List.mem_cons_self
    rw [insertDevice]
    split
    · next before =>
      have before := (Device.before_iff e x).1 before
      rw [List.map_cons, List.pairwise_cons, List.map_cons, List.pairwise_cons, List.forall_mem_cons,
        List.forall_mem_map, List.forall_mem_map]
      refine ⟨⟨before, fun y hy => ?_⟩, first, rest⟩
      have after := first y hy
      simp only [placeBefore] at before after ⊢
      omega
    · next notBefore =>
      have notBefore := mt (Device.before_iff e x).2 notBefore
      rw [List.map_cons, List.pairwise_cons, List.forall_mem_map]
      refine ⟨fun y hy => ?_, ih (fun y hy => new y (List.mem_cons_of_mem x hy)) rest⟩
      rcases List.mem_cons.1 ((insertDevice_perm e ds).mem_iff.1 hy) with rfl | old
      · simp only [placeBefore, Device.place, ne_eq, Prod.mk.injEq] at notBefore apart ⊢
        omega
      · exact first y old

theorem State.lineActuators_eq (s : State) (l : Nat) : s.lineActuators l = s.devices.filter (·.actuates l) := by
  rw [State.lineActuators, State.lineDevices, List.filter_filter]
  exact List.filter_congr fun e _ => Bool.and_comm _ _

/-- A new actuator finds fewer than sixteen on its line, and any other new device is none. -/
theorem State.actuatorsFull_false {s : State} {l : Nat} {k : DeviceKind} (h : s.actuatorsFull l k = false) :
    k.isActuator = true → (s.devices.filter (·.actuates l)).length < 16 := by
  intro actuator
  rw [← State.lineActuators_eq]
  rw [State.actuatorsFull, actuator, Bool.true_and] at h
  exact Nat.not_le.1 (of_decide_eq_false h)

theorem Device.enrolled_actuates (l a : Nat) (k : DeviceKind) (n : Nat) :
    (Device.enrolled l a k).actuates n = (l == n && k.isActuator) := rfl

section
variable {w : Watch} {s : State}

/-- An enrolment adds an entry for an address without one (R126). -/
theorem State.addDevice_writes {l a : Nat} {k : DeviceKind} (new : s.device? ⟨l, a⟩ = none)
    (room : s.devices.length < 64) (notFull : s.actuatorsFull l k = false) :
    Writes w s (s.addDevice (Device.enrolled l a k)) := by
  refine .devices fun h => ?_
  obtain ⟨-, ordered, actuators⟩ := (tableAdmitted_iff _).1 h
  have perm := insertDevice_perm (Device.enrolled l a k) s.devices
  refine (tableAdmitted_iff _).2 ⟨?_, insertDevice_ordered (fun x hx same => ?_) ordered, fun n => ?_⟩
  · rw [perm.length_eq, List.length_cons]
    omega
  · exact List.find?_eq_none.1 new x hx ((Device.at_iff x _).2 same)
  · rw [(perm.filter _).length_eq, List.filter_cons, Device.enrolled_actuates]
    split
    · next here =>
      simp only [Bool.and_eq_true, beq_iff_eq] at here
      obtain ⟨rfl, actuator⟩ := here
      exact State.actuatorsFull_false notFull actuator
    · exact actuators n

/-- The entry at a device gives way to one newly enrolled as another kind. -/
def reenrol (d : DeviceAddr) (k : DeviceKind) (e : Device) : Device :=
  if e.at d then Device.enrolled d.line d.address k else e

theorem reenrol_place (d : DeviceAddr) (k : DeviceKind) (e : Device) : (reenrol d k e).place = e.place := by
  unfold reenrol
  split
  · next at_d => exact ((Device.at_iff e d).1 at_d).symm
  · rfl

/-- At most one entry stands at a place. -/
theorem filter_at_length {ds : List Device} (h : (ds.map Device.place).Pairwise placeBefore) (d : DeviceAddr) :
    (ds.filter (·.at d)).length ≤ 1 := by
  have unique : (ds.filter (·.at d)).Pairwise fun _ _ => False := by
    refine ((List.pairwise_map.1 h).filter _).imp_of_mem fun {x y} hx hy before => ?_
    rw [(Device.at_iff x d).1 (List.mem_filter.1 hx).2, (Device.at_iff y d).1 (List.mem_filter.1 hy).2] at before
    simp [placeBefore] at before
  generalize ds.filter (·.at d) = q at unique
  match q, unique with
  | [], _ => exact Nat.zero_le 1
  | [_], _ => exact le_rfl
  | _ :: y :: _, unique => exact absurd ((List.pairwise_cons.1 unique).1 y List.mem_cons_self) id

/-- A re-enrolment adds at most its own entry to the actuators of its line, and none to those of the other. -/
theorem reenrol_actuators (d : DeviceAddr) (k : DeviceKind) (n : Nat) (ds : List Device) :
    ((ds.map (reenrol d k)).filter (·.actuates n)).length
      ≤ (ds.filter (·.actuates n)).length
        + if d.line = n ∧ k.isActuator = true then (ds.filter (·.at d)).length else 0 := by
  induction ds with
  | nil => simp
  | cons e ds ih =>
    by_cases at_d : e.at d = true
    · have is : reenrol d k e = Device.enrolled d.line d.address k := if_pos at_d
      simp only [List.map_cons, List.filter_cons, is, at_d, Device.enrolled_actuates]
      by_cases here : d.line = n ∧ k.isActuator = true
      · simp only [here, and_self, if_true, beq_self_eq_true, Bool.and_self, List.length_cons] at ih ⊢
        cases e.actuates n <;> simp only [if_true, Bool.false_eq_true, if_false, List.length_cons] <;> omega
      · have not_here : (d.line == n && k.isActuator) = false := by simpa using here
        simp only [here, not_here, if_false, Bool.false_eq_true] at ih ⊢
        cases e.actuates n <;> simp only [if_true, Bool.false_eq_true, if_false, List.length_cons] <;> omega
    · have is : reenrol d k e = e := if_neg at_d
      simp only [List.map_cons, List.filter_cons, is, at_d]
      cases e.actuates n <;> simp only [if_true, Bool.false_eq_true, if_false, List.length_cons] <;> omega

theorem State.reenrol_writes {l a : Nat} {k : DeviceKind} (notFull : s.actuatorsFull l k = false) :
    Writes w s (s.modDevice ⟨l, a⟩ fun _ => Device.enrolled l a k) := by
  refine .devices fun h => ?_
  obtain ⟨length, ordered, actuators⟩ := (tableAdmitted_iff _).1 h
  have counted := reenrol_actuators ⟨l, a⟩ k
  have one := filter_at_length ordered ⟨l, a⟩
  show TableAdmitted (storedDevices (s.devices.map (reenrol ⟨l, a⟩ k)))
  refine (tableAdmitted_iff _).2 ⟨by rwa [List.length_map], ?_, fun n => (counted n s.devices).trans ?_⟩
  · rw [List.map_map, show Device.place ∘ reenrol ⟨l, a⟩ k = Device.place from funext (reenrol_place _ _)]
    exact ordered
  · have := actuators n
    split
    · next here =>
      obtain ⟨rfl, actuator⟩ := here
      have fewer := State.actuatorsFull_false notFull actuator
      dsimp only
      omega
    · omega

theorem State.removeDevice_writes (d : DeviceAddr) : Writes w s (s.removeDevice d) := by
  refine .devices fun h => ?_
  obtain ⟨length, ordered, actuators⟩ := (tableAdmitted_iff _).1 h
  refine (tableAdmitted_iff _).2 ⟨(List.length_filter_le _ _).trans length, ?_, fun n => ?_⟩
  · exact ordered.sublist (List.filter_sublist.map _)
  · exact ((List.filter_sublist.filter _).length_le).trans (actuators n)

theorem State.probeFound_writes (l a : Nat) (k : DeviceKind) : Writes w s (s.probeFound l a k).1 := by
  unfold State.probeFound
  split
  case h_1 e _ =>
    split
    · exact State.modDevice_writes fun x => by split <;> exact ⟨rfl, rfl, rfl⟩
    · split
      · exact State.probeWrongKind_writes e
      · split
        · exact State.probeWrongKind_writes e
        · next notFull => exact State.reenrol_writes (by simpa using notFull)
  case h_2 new =>
    have writes : Writes w s (s.probeNew l a k).1 := by
      unfold State.probeNew
      split
      · next room =>
        simp only [Bool.and_eq_true, decide_eq_true_eq, Bool.not_eq_true'] at room
        exact State.addDevice_writes new room.1 room.2
      · exact .refl s
    split <;> next probed => simpa only [probed] using writes

/-! ## What a probe leaves of the lines -/

theorem State.ownerFault_lines (s : State) (o : Option Owner) : (s.ownerFault o).lines = s.lines := by
  unfold State.ownerFault
  split
  · exact s.modZone_lines _ _
  · exact s.modBank_lines _ _
  · exact s.plantFault_lines _ _
  all_goals rfl

theorem State.probeWrongKind_lines (s : State) (e : Device) : (s.probeWrongKind e).lines = s.lines := by
  unfold State.probeWrongKind
  dsimp only
  split
  · rfl
  · rw [State.ownerFault_lines, State.offer_lines]
    rfl

theorem State.probeFound_lines (s : State) (l a : Nat) (k : DeviceKind) : (s.probeFound l a k).1.lines = s.lines := by
  unfold State.probeFound
  split
  · split
    · rfl
    · split
      · exact s.probeWrongKind_lines _
      · split
        · exact s.probeWrongKind_lines _
        · rfl
  · have kept : (s.probeNew l a k).1.lines = s.lines := by unfold State.probeNew; split <;> rfl
    split <;> next probed => simpa only [probed] using kept

theorem State.probeSilent_lines (s : State) (l a : Nat) : (s.probeSilent l a).1.lines = s.lines := by
  unfold State.probeSilent
  split <;> rfl

/-! ## Rounds, sending, enrolment -/

theorem State.startRound_writes (l : Nat) : Writes w s (s.startRound l) :=
  .modLine fun _ _ => .of_same (.refl _) rfl (.inr rfl)

theorem State.startRoundIfDue_writes (l : Nat) : Writes w s (s.startRoundIfDue l) := by
  unfold State.startRoundIfDue
  split
  · split
    · exact State.startRound_writes l
    · exact .refl s
  · exact .refl s

/-- A line that is sent on and stays in the state it is in, which is not DISABLED. -/
theorem Writes.lineUp {l : Nat} {r r' : Line} (hr : s.line? l = some r) (queue : r'.queue.Sublist r.queue)
    (up : r.state ≠ .disabled) (state : r'.state = r.state) : Writes w s (s.putLine l r') :=
  .line hr (.of_ne (nodup_addresses_of_sublist queue) (fun _ => up) (by rwa [state]))

theorem State.takeUp_writes (l : Nat) : Writes w s (s.takeUp l) := by
  unfold State.takeUp
  split
  case h_1 r hr =>
    split
    · next free =>
      have up : r.state ≠ .disabled := fun down => by simp [down] at free
      split
      case h_1 c rest queued => exact .lineUp hr (by rw [queued]; exact List.sublist_cons_self _ _) up rfl
      case h_2 =>
        split
        · split
          · exact .lineUp hr (.refl _) up rfl
          · refine .trans ?_ (State.startRoundIfDue_writes l)
            exact .lineUp hr (.refl _) up rfl
        · exact .refl s
    · exact .refl s
  case h_2 => exact .refl s

theorem State.resend_writes (l : Nat) : Writes w s (s.resend l) := by
  unfold State.resend
  split
  case h_1 r hr =>
    split
    · split
      · next free => exact .lineUp hr (.refl _) (fun down => by simp [down] at free) rfl
      · exact .refl s
    · exact .refl s
  case h_2 => exact .refl s

theorem State.sendProbe_writes (l : Nat) : Writes w s (s.sendProbe l) := by
  unfold State.sendProbe
  split
  case h_1 r hr =>
    split
    · split
      · next free => exact .lineUp hr (.refl _) (fun down => by simp [down] at free) rfl
      · exact .refl s
    · exact .refl s
  case h_2 => exact .refl s

theorem State.enterEnrolling_writes (l : Nat) : Writes w s (s.enterEnrolling l) := by
  refine .modLine fun r _ => ?_
  split
  · next free => exact .of_ne id (fun _ down => by simp [down] at free) (by simp)
  · exact .of_same (.refl _) rfl (.inr rfl)

/-- The line `l` of the part, if there is one, is not DISABLED. -/
def State.lineUp (s : State) (l : Nat) : Prop := ∀ r, s.line? l = some r → r.state ≠ .disabled

theorem State.lineUp_congr {t : State} {l : Nat} (h : t.lines = s.lines) (up : s.lineUp l) : t.lineUp l := by
  intro r hr
  exact up r (by rw [State.line?, ← h]; exact hr)

theorem State.completeEnrolment_writes {l : Nat} (up : w.idle → s.lineUp l) (e : Enrolment) :
    Writes w s (s.completeEnrolment l e) := by
  refine ((Writes.offer _ _ _).trans (.modLine fun r hr => ?_)).trans (State.startRound_writes l)
  exact .of_ne id (fun idle => State.lineUp_congr (State.offer_lines _ _ _) (up idle) r hr) (by simp)

theorem State.advanceEnrolment_writes {l : Nat} (up : w.idle → s.lineUp l) (a : Nat) (c : ProbeCount) :
    Writes w s (s.advanceEnrolment l a c) := by
  unfold State.advanceEnrolment
  split
  case h_1 r hr =>
    split
    · dsimp only
      split
      · exact State.completeEnrolment_writes up _
      · exact .line hr (.of_same (.refl _) rfl (.inr rfl))
    · exact .refl s
  case h_2 => exact .refl s

theorem State.noteProbe_writes (before : List Device) : Writes w s (s.noteProbe before) := .configChanged s _

/-- What a probe's outcome does to the table, and how it counts (R126). -/
def State.probeOutcome (s : State) (l a : Nat) : Attempt → State × ProbeCount
  | .ok payload => match DeviceKind.ofCode? (natOf payload) with
    | some k => s.probeFound l a k
    | none => (s, ⟨0, 0, 0, 0⟩)
  | .failed .noReply => s.probeSilent l a
  | .failed _ => (s, ⟨0, 0, 0, 0⟩)

theorem State.applyProbe_eq (s : State) (l a : Nat) (result : Attempt) : s.applyProbe l a result =
    ((((s.modLine l fun r => { r with inFlight := none }).probeOutcome l a result).1).noteProbe s.devices).advanceEnrolment l a
      ((s.modLine l fun r => { r with inFlight := none }).probeOutcome l a result).2 := by
  cases result with
  | ok payload =>
    unfold State.applyProbe State.probeOutcome
    cases DeviceKind.ofCode? (natOf payload) <;> rfl
  | failed reason => cases reason <;> rfl

theorem State.probeOutcome_writes (l a : Nat) (result : Attempt) : Writes w s (s.probeOutcome l a result).1 := by
  unfold State.probeOutcome
  split
  · split
    · exact State.probeFound_writes l a _
    · exact .refl s
  · exact State.probeSilent_writes l a
  · exact .refl s

theorem State.probeOutcome_lines (s : State) (l a : Nat) (result : Attempt) : (s.probeOutcome l a result).1.lines = s.lines := by
  unfold State.probeOutcome
  split
  · split
    · exact s.probeFound_lines l a _
    · rfl
  · exact s.probeSilent_lines l a
  · rfl

/-- A line whose transaction has gone is DISABLED where it was before. -/
theorem State.lineUp_modLine {l : Nat} {f : Line → Line} (state : ∀ r, (f r).state = r.state) (up : s.lineUp l) :
    (s.modLine l f).lineUp l := by
  intro x hx
  cases hr : s.line? l with
  | none =>
    rw [show s.modLine l f = s by rw [State.modLine, hr]] at hx
    exact up x hx
  | some r =>
    rw [State.modLine_some f hr, State.line?_putLine _ hr] at hx
    cases hx
    rw [state]
    exact up r hr

theorem State.applyProbe_writes {l : Nat} (up : w.idle → s.lineUp l) (a : Nat) (result : Attempt) :
    Writes w s (s.applyProbe l a result) := by
  have gone : Writes w s (s.modLine l fun r => { r with inFlight := none }) :=
    .modLine fun _ _ => .of_same (.refl _) rfl (.inl rfl)
  rw [State.applyProbe_eq]
  refine .trans ((gone.trans (State.probeOutcome_writes l a result)).trans (State.noteProbe_writes _))
    (State.advanceEnrolment_writes (fun idle => ?_) a _)
  refine State.lineUp_congr (State.probeOutcome_lines _ l a result) ?_
  exact State.lineUp_modLine (f := fun r => { r with inFlight := none }) (fun _ => rfl) (up idle)

theorem State.abandonEnrolment_writes (l : Nat) : Writes w s (s.abandonEnrolment l) := by
  unfold State.abandonEnrolment
  split
  · refine .trans (.modLine fun _ _ => ?_) (.offer _ _ _)
    exact .of_same (.refl _) rfl (.inr rfl)
  · exact .refl s

/-- The line's record as RESTART abandons its enrolment (R174). -/
def Line.unenrolled (r : Line) : Line :=
  { r with enrolment := none, inFlight := r.inFlight.filter fun t => !t.isProbe
           state := if r.state == .enrolling then .active else r.state }

theorem State.dropEnrolment_some {l : Nat} {r : Line} (hr : s.line? l = some r) (enrols : r.enrolment.isSome = true) :
    s.dropEnrolment l = if r.state = .enrolling then (s.putLine l r.unenrolled).startRound l
      else (s.putLine l r.unenrolled).startRoundIfDue l := by
  rw [State.dropEnrolment, hr]
  simp only [enrols, if_true, Line.unenrolled, beq_iff_eq]

theorem State.dropEnrolment_none {l : Nat} (h : ∀ r, s.line? l = some r → r.enrolment = none) : s.dropEnrolment l = s := by
  unfold State.dropEnrolment
  split
  · next r hr => simp [h r hr]
  · rfl

theorem Line.unenrolled_steady (r : Line) : r.Steady w r.unenrolled := by
  have state : r.unenrolled.state = .disabled ↔ r.state = .disabled := by
    cases h : r.state <;> simp [Line.unenrolled, h]
  refine ⟨⟨id, fun idle down => ?_⟩, fun _ => state⟩
  rw [Line.unenrolled, idle (state.1 down)]
  rfl

theorem State.dropEnrolment_writes (l : Nat) : Writes w s (s.dropEnrolment l) := by
  by_cases enrols : ∃ r, s.line? l = some r ∧ r.enrolment.isSome = true
  · obtain ⟨r, hr, enrols⟩ := enrols
    have drops : Writes w s (s.putLine l r.unenrolled) := .line hr r.unenrolled_steady
    rw [State.dropEnrolment_some hr enrols]
    split
    · exact drops.trans (State.startRound_writes l)
    · exact drops.trans (State.startRoundIfDue_writes l)
  · rw [State.dropEnrolment_none fun r hr => ?_]
    · exact .refl s
    · simpa using fun is => enrols ⟨r, hr, is⟩

/-! ## Outcomes of transactions (R137) -/

theorem State.endTransaction_writes (l : Nat) : Writes w s (s.endTransaction l) := by
  refine .trans ?_ (State.enterEnrolling_writes l)
  exact .modLine fun _ _ => .of_same (.refl _) rfl (.inl rfl)

theorem State.clearHangs_writes (l : Nat) : Writes w s (s.clearHangs l) :=
  .modLine fun _ _ => .of_same (.refl _) rfl (.inr rfl)

theorem State.commandSucceeded_writes (i : Issuer) (d : DeviceAddr) (v : Nat) : Writes w s (s.commandSucceeded i d v) := by
  unfold State.commandSucceeded
  split
  · cases i with
    | arbiter p => exact State.dutySucceeded_writes p v
    | governor | bank | tracker => exact .refl s
  · exact .refl s

theorem Device.polled_keeps (e : Device) (payload : List Byte) (clock now : Nat) :
    (e.polled payload clock now).line = e.line ∧ (e.polled payload clock now).address = e.address
      ∧ (e.polled payload clock now).kind = e.kind := by
  unfold Device.polled
  split <;> exact ⟨rfl, rfl, rfl⟩

theorem Device.acknowledged_keeps (e : Device) (v : Nat) :
    (e.acknowledged v).line = e.line ∧ (e.acknowledged v).address = e.address ∧ (e.acknowledged v).kind = e.kind := by
  unfold Device.acknowledged
  split <;> exact ⟨rfl, rfl, rfl⟩

theorem State.succeed_writes (right : w.asks → s.plantsRight) (l : Nat) (t : Transaction) (payload : List Byte) :
    Writes w s (s.succeed l t payload) := by
  unfold State.succeed
  refine .trans (.trans ?_ (State.clearHangs_writes l)) (State.endTransaction_writes l)
  split
  · split
    · exact State.deviceSuccess_writes right _ (fun x => x.polled_keeps _ _ _) _
    · exact .trans (State.deviceSuccess_writes right _ (fun x => x.acknowledged_keeps _) _)
        (State.commandSucceeded_writes _ _ _)
    · exact .refl s
  · exact .refl s

theorem State.fail_writes (l : Nat) (t : Transaction) (reason : FaultReason) : Writes w s (s.fail l t reason) := by
  unfold State.fail
  refine .trans ?_ (State.endTransaction_writes l)
  split
  · split
    · exact State.deviceFailure_writes _ _
    · exact (State.deviceFailure_writes _ _).trans (State.commandFailed_writes _ _)
    · exact .refl s
  · exact .refl s

/-- The DISABLED lines of the part have nothing in flight. -/
def State.downIdle (s : State) : Prop := ∀ l r, s.line? l = some r → r.state = .disabled → r.inFlight = none

theorem State.attemptEnds_writes (idle : w.idle → s.downIdle) (right : w.asks → s.plantsRight) {l : Nat} {r : Line}
    {t : Transaction} (hr : s.line? l = some r) (inFlight : r.inFlight = some t) (a : Attempt) :
    Writes w s (s.attemptEnds l r t a) := by
  have up : w.idle → s.lineUp l := fun watched x hx down => by
    have nothing := idle watched l x hx down
    rw [hr] at hx
    cases hx
    simp [inFlight] at nothing
  unfold State.attemptEnds
  split
  · split
    · refine (State.clearHangs_writes l).trans (State.applyProbe_writes (fun watched => ?_) _ _)
      exact State.lineUp_modLine (f := fun r => { r with hangCount := 0 }) (fun _ => rfl) (up watched)
    · exact State.applyProbe_writes up _ _
  · split
    · exact State.succeed_writes right _ _ _
    · split
      · refine .line hr ⟨⟨id, fun nothing down => ?_⟩, fun _ => Iff.rfl⟩
        rw [nothing down] at inFlight
        cases inFlight
      · exact State.fail_writes _ _ _

theorem State.replyComplete_writes (idle : w.idle → s.downIdle) (right : w.asks → s.plantsRight) (l : Nat)
    (bytes : List FieldByte) : Writes w s (s.replyComplete l bytes) := by
  unfold State.replyComplete
  split
  case h_1 r hr =>
    split
    · next inFlight _ =>
      split
      · exact State.attemptEnds_writes idle right hr inFlight _
      · exact .refl s
    · exact .refl s
  case h_2 => exact .refl s

theorem State.replyTimeout_writes (idle : w.idle → s.downIdle) (right : w.asks → s.plantsRight) (l : Nat)
    (bytes : List FieldByte) : Writes w s (s.replyTimeout l bytes) := by
  unfold State.replyTimeout
  split
  case h_1 r hr =>
    split
    · next inFlight =>
      split
      · exact State.attemptEnds_writes idle right hr inFlight _
      · exact .refl s
    · exact .refl s
  case h_2 => exact .refl s

/-! ## Hangs (R143 to R147) -/

theorem State.hang_writes {l : Nat} {r : Line} (hr : s.line? l = some r) (up : r.state ≠ .disabled) :
    Writes w s (s.hang l r) := by
  refine .trans (.trans ?_ (.offer _ _ _)) (State.abandonEnrolment_writes l)
  exact .line hr (.of_ne id (fun _ => up) (by simp))

theorem State.disableLine_writes {l : Nat} {r : Line} (hr : s.line? l = some r) : Writes w s (s.disableLine l r) := by
  unfold State.disableLine
  have told : Writes w s (((((s.putLine l { r with
      inFlight := none, releasing := true, state := .disabled, hangCount := 3, queue := [], roundInProgress := false
      roundDue := none, recoveryDue := none }).followAlarm.offer (.lineHung 3 (r.inFlight.map Transaction.described))
      (.line l)).abandonEnrolment l).offer .lineDisabled (.line l))) := by
    refine .trans (.trans (.trans ?_ (.offer _ _ _)) (State.abandonEnrolment_writes l)) (.offer _ _ _)
    exact .lineFollowed hr ⟨fun _ => List.nodup_nil, fun _ _ => rfl⟩
  have returned := told.trans
    (.foldl (fun s c => State.commandFailed_writes (s := s) c.issuer ⟨l, c.address⟩) r.discarded _)
  dsimp only
  split
  · exact returned
  · exact returned.trans (.offer _ _ _)

theorem State.hangDetected_writes (l : Nat) : Writes w s (s.hangDetected l) := by
  unfold State.hangDetected
  split
  case h_1 r hr =>
    split
    · next armed =>
      split
      · exact State.hang_writes hr fun down => by simp [down] at armed
      · exact State.disableLine_writes hr
    · exact .refl s
  case h_2 => exact .refl s

theorem State.releaseEnd_writes (l : Nat) : Writes w s (s.releaseEnd l) := by
  refine .modLine fun r _ => ?_
  split <;> exact .of_same (.refl _) rfl (.inr rfl)

theorem State.recoveryWaitExpiry_writes (l : Nat) : Writes w s (s.recoveryWaitExpiry l) := by
  unfold State.recoveryWaitExpiry
  split
  case h_1 r hr =>
    split
    · next recovered =>
      refine .trans ?_ (State.startRoundIfDue_writes l)
      exact .line hr (.of_ne id (fun _ down => by simp [down] at recovered) (by simp))
    · exact .refl s
  case h_2 => exact .refl s

theorem State.roundTimerExpiry_writes (l : Nat) : Writes w s (s.roundTimerExpiry l) := by
  unfold State.roundTimerExpiry
  split
  case h_1 r hr =>
    split
    · refine .trans ?_ (State.startRoundIfDue_writes l)
      exact .line hr (.of_same (.refl _) rfl (.inr rfl))
    · exact .refl s
  case h_2 => exact .refl s

theorem State.enableLine_writes (l : Nat) : Writes w s (s.enableLine l) := by
  unfold State.enableLine
  split
  case h_1 r hr =>
    split
    · refine .trans (.trans ?_ (.offer _ _ _)) (State.startRound_writes l)
      exact .lineFollowed hr ⟨id, fun _ up => by simp at up⟩
    · exact .refl s
  case h_2 => exact .refl s

theorem State.beginEnrolment_writes (l : Nat) : Writes w s (s.beginEnrolment l) := by
  refine .trans ?_ (State.enterEnrolling_writes l)
  exact .modLine fun _ _ => .of_same (.refl _) rfl (.inr rfl)

theorem State.retire_writes (d : DeviceAddr) : Writes w s (s.retire d) :=
  .trans (State.removeDevice_writes d) (.modLine fun _ _ => .of_same List.filter_sublist rfl (.inr rfl))

end

end Sys2Proof.Machine
end

section
/-! PROOFS. Measurement, light, climate, zones, banks, the requests to plants and the commands of a start as chains of single
writes. -/

namespace Sys2Proof.Machine

section
variable {w : Watch} {s : State}

/-! ## Measurement and light -/

theorem State.resolveLight_writes (z : Nat) : Writes w s (s.resolveLight z) := by
  unfold State.resolveLight
  split
  case h_1 r hr =>
    refine .trans ?_ (State.evalMark_writes _ _ _)
    exact .zoneStill hr (by constructor <;> rfl)
  case h_2 => exact .refl s

theorem State.resolveClimate_writes (z : Nat) : Writes w s (s.resolveClimate z) := by
  unfold State.resolveClimate
  split
  case h_1 r hr =>
    refine .trans ?_ (State.evalMark_writes _ _ _)
    exact .zoneStill hr (by constructor <;> rfl)
  case h_2 => exact .refl s

/-- A sample keeps the account in its ranges (R25 to R27). -/
theorem Account.sampled_inRange {a : Account} (h : a.inRange) (clock e weight : Nat) (isOpen : Bool) :
    (a.sampled clock e weight isOpen).inRange := by
  obtain ⟨-, -, seconds⟩ := h
  refine ⟨Nat.min_le_right _ _, Nat.le_of_lt_succ (Nat.mod_lt _ (by decide)), ?_⟩
  show (if isOpen then min _ Config.count32Max else a.openSeconds) ≤ _
  split
  · exact Nat.min_le_right _ _
  · exact seconds

/-- A sample decreases no used dose (R26). -/
theorem Account.dose_le_sampled {a : Account} (h : a.inRange) (clock e weight : Nat) (isOpen : Bool) :
    a.dose ≤ (a.sampled clock e weight isOpen).dose := le_min (Nat.le_add_right _ _) h.1

theorem State.sampleLight_writes (z : Nat) : Writes w s (s.sampleLight z) := by
  unfold State.sampleLight
  refine .trans (State.resolveLight_writes z) ?_
  dsimp only
  split
  case h_1 r hr =>
    refine .trans ?_ (State.evalMark_writes _ _ _)
    exact .zone hr {
      marks := rfl
      account := fun h => Account.sampled_inRange h _ _ _ _
      doses := fun _ h => Account.dose_le_sampled h _ _ _ _
      history := fun _ => Zone.historyRight_congr rfl rfl rfl rfl le_rfl
      asks := fun _ => ⟨rfl, rfl⟩ }
  case h_2 => exact .refl _

theorem State.lightSample_writes (z : Nat) : Writes w s (s.lightSample z) := by
  unfold State.lightSample
  split
  case h_1 r hr =>
    split
    · refine .trans ?_ (State.sampleLight_writes z)
      exact .zoneStill hr (by constructor <;> rfl)
    · exact .refl s
  case h_2 => exact .refl s

theorem State.reviewLight_writes (z : Nat) : Writes w s (s.reviewLight z) := by
  unfold State.reviewLight
  split
  case h_1 r hr =>
    have fixed : Writes w s (s.putZone z r.fixTarget) := .zoneStill hr (by constructor <;> rfl)
    have marked : Writes w s (((s.putZone z r.fixTarget).evalMark z .lightPressure
        r.fixTarget.light.condition.isPressed).evalMark z .exhausted r.fixTarget.light.spent) :=
      (fixed.trans (State.evalMark_writes _ _ _)).trans (State.evalMark_writes _ _ _)
    refine marked.trans ?_
    dsimp only
    split
    case h_1 r' hr' =>
      split
      · refine .trans ?_ (State.placeDimmer_writes _ _ _)
        exact .zoneStill hr' (by constructor <;> rfl)
      · exact .zoneStill hr' (by constructor <;> rfl)
    case h_2 => exact .refl _
  case h_2 => exact .refl s

theorem State.lightReview_writes (z : Nat) : Writes w s (s.lightReview z) := by
  unfold State.lightReview
  split
  case h_1 r hr =>
    split
    · refine .trans ?_ (State.reviewLight_writes z)
      exact .zoneStill hr (by constructor <;> rfl)
    · exact .refl s
  case h_2 => exact .refl s

/-! ## Climate -/

theorem Zone.track_still (r : Zone) : r.Still r.track := by
  unfold Zone.track Climate.swung Climate.bucketed
  split <;> dsimp only <;> split <;> constructor <;> rfl

theorem State.endOpposedPulse_writes (z : Nat) : Writes w s (s.endOpposedPulse z) := by
  unfold State.endOpposedPulse
  split
  · split
    · exact State.endPulse_writes z
    · exact .refl s
  · exact .refl s

theorem State.issuePulse_writes (z : Nat) : Writes w s (s.issuePulse z) := by
  unfold State.issuePulse
  split
  case h_1 r hr =>
    split
    · split
      · refine .trans ?_ (State.place_writes _ _ _)
        exact .zoneStill hr ⟨rfl, rfl, rfl, rfl, rfl, rfl, rfl, Nat.sub_le _ _, rfl⟩
      · exact .refl s
    · exact .refl s
  case h_2 => exact .refl s

/-- Where the demands are not watched, a zone that keeps all but what it asks of its plant is steady. -/
theorem State.setDemand_writes (h : ¬ w.asks) (z : Nat) (d : Option ZoneDemand) : Writes w s (s.setDemand z d) :=
  .modZone fun _ _ => {
    marks := rfl, account := id, doses := fun _ _ => le_rfl
    history := fun _ => Zone.historyRight_congr rfl rfl rfl rfl le_rfl
    asks := fun asks => absurd asks h }

theorem State.raiseDemand_writes (h : ¬ w.asks) (z p : Nat) (n : Need) : Writes w s (s.raiseDemand z p n) :=
  .trans (State.setDemand_writes h z _) (State.raise_writes h _ _ _ _)

theorem State.withdrawDemand_writes (h : ¬ w.asks) (z : Nat) (d : ZoneDemand) : Writes w s (s.withdrawDemand z d) :=
  .trans (State.setDemand_writes h z _) (State.withdraw_writes h _ _)

theorem State.settleDemand_writes (h : ¬ w.asks) (z : Nat) (held : Option ZoneDemand) (wanted : Option (Nat × Need)) :
    Writes w s (s.settleDemand z held wanted) := by
  unfold State.settleDemand
  split
  · exact .refl s
  · exact State.raiseDemand_writes h _ _ _
  · exact State.withdrawDemand_writes h _ _
  · split
    · split
      · exact .refl s
      · exact .trans (State.setDemand_writes h z _) (State.update_writes h _ _ _)
    · exact .trans (State.withdrawDemand_writes h _ _) (State.raiseDemand_writes h _ _ _)

theorem State.decideDemand_writes (h : ¬ w.asks) (z : Nat) : Writes w s (s.decideDemand z) := by
  unfold State.decideDemand
  split
  case h_1 r hr =>
    refine .trans ?_ (State.settleDemand_writes h _ _ _)
    exact .zoneStill hr (by constructor <;> rfl)
  case h_2 => exact .refl s

theorem State.climateMarks_writes (z : Nat) : Writes w s (s.climateMarks z) := by
  unfold State.climateMarks
  split
  · exact (((State.evalMark_writes _ _ _).trans (State.evalMark_writes _ _ _)).trans (State.evalMark_writes _ _ _)).trans
      (State.evalMark_writes _ _ _)
  · exact .refl s

/-- A climate review up to its demand decision, with the demands watched (R62 to R75). -/
theorem State.reviewTrim_writes {z : Nat} {r : Zone} (hr : s.zone? z = some r) :
    Writes w s (((s.putZone z r.track).endOpposedPulse z).issuePulse z) :=
  .trans (.trans (.zoneStill hr r.track_still) (State.endOpposedPulse_writes z)) (State.issuePulse_writes z)

theorem State.reviewClimate_writes (h : ¬ w.asks) (z : Nat) : Writes w s (s.reviewClimate z) := by
  unfold State.reviewClimate
  refine .trans (State.resolveClimate_writes z) ?_
  dsimp only
  split
  case h_1 r hr =>
    split
    · exact .refl _
    · exact .trans (.trans (State.reviewTrim_writes hr) (State.decideDemand_writes h z)) (State.climateMarks_writes z)
  case h_2 => exact .refl _

theorem State.climateReview_writes (h : ¬ w.asks) (z : Nat) : Writes w s (s.climateReview z) := by
  unfold State.climateReview
  split
  case h_1 r hr =>
    split
    · refine .trans ?_ (State.reviewClimate_writes h z)
      exact .zoneStill hr (by constructor <;> rfl)
    · exact .refl s
  case h_2 => exact .refl s

theorem State.pulseEndExpiry_writes (z : Nat) : Writes w s (s.pulseEndExpiry z) := by
  unfold State.pulseEndExpiry
  split
  · split
    · exact State.endPulse_writes z
    · exact .refl s
  · exact .refl s

/-- A history within its window keeps the buckets that a rollover leaves within the window of the new hour (R65, R67, R68). -/
theorem Climate.rolledHistory_right {c : Climate} {o : Rollover} (hour : o.oldHour = c.current.hour)
    (rises : (c.history.map (·.hour)).Pairwise (· < ·))
    (near : ∀ b ∈ c.history, b.hour < c.current.hour ∧ c.current.hour ≤ b.hour + Config.windowHours) :
    ((c.rolledHistory o).map (·.hour)).Pairwise (· < ·)
      ∧ ∀ b ∈ c.rolledHistory o, b.hour < o.newHour ∧ o.newHour ≤ b.hour + Config.windowHours := by
  unfold Climate.rolledHistory
  split
  · next forward =>
    have closed : ((if c.current.samples = 0 then c.history else c.history ++ [c.current]).map (·.hour)).Pairwise (· < ·)
        ∧ ∀ b ∈ (if c.current.samples = 0 then c.history else c.history ++ [c.current]), b.hour < o.newHour := by
      split
      · exact ⟨rises, fun b hb => by have := near b hb; omega⟩
      · rw [List.map_append, List.pairwise_append]
        refine ⟨⟨rises, List.pairwise_singleton _ _, ?_⟩, fun b hb => ?_⟩
        · intro h hh k hk
          obtain ⟨b, hb, rfl⟩ := List.mem_map.1 hh
          rw [List.map_singleton, List.mem_singleton] at hk
          exact hk ▸ (near b hb).1
        · rcases List.mem_append.1 hb with old | new
          · have := near b old; omega
          · rw [List.mem_singleton.1 new]; omega
    refine ⟨closed.1.sublist (List.filter_sublist.map _), fun b hb => ?_⟩
    obtain ⟨hb, within⟩ := List.mem_filter.1 hb
    exact ⟨closed.2 b hb, of_decide_eq_true within⟩
  · refine ⟨rises.sublist (List.filter_sublist.map _), fun b hb => ?_⟩
    obtain ⟨hb, past⟩ := List.mem_filter.1 hb
    have := near b hb
    exact ⟨of_decide_eq_true past, by omega⟩

theorem State.hourRollover_writes (z : Nat) : Writes w s (s.hourRollover z) := by
  refine .modZone fun r _ => ?_
  split
  case h_1 o rest waits =>
    refine ⟨rfl, id, fun _ _ => le_rfl, fun clock h => ?_, fun _ => ⟨rfl, rfl⟩⟩
    obtain ⟨-, rises, near, lead⟩ := h
    rw [waits] at lead
    obtain ⟨from_hour, -, lead⟩ := lead
    obtain ⟨rises, near⟩ := Climate.rolledHistory_right from_hour rises near
    exact ⟨le_rfl, rises, near, lead⟩
  case h_2 => exact Zone.Still.steady (by constructor <;> rfl)

/-! ## Zones and banks -/

/-- A zone that a request gives other bindings, another occupancy, or opens. -/
theorem State.openZone_writes (z : Nat) : Writes w s (s.openZone z) :=
  .modZone fun _ _ => Zone.Still.steady (by constructor <;> rfl)

theorem State.closeZone_writes (z : Nat) : Writes w s (s.closeZone z) := by
  unfold State.closeZone
  split
  case h_1 r hr =>
    split
    · refine .trans ?_ (State.placeDimmer_writes _ _ _)
      exact .zoneStill hr (by constructor <;> rfl)
    · exact .refl s
  case h_2 => exact .refl s

theorem Account.empty_inRange : Account.empty.inRange := ⟨Nat.zero_le _, Nat.zero_le _, Nat.zero_le _⟩

/-- The history of a zone whose climate state starts anew (R59). -/
theorem Climate.created_historyRight {r : Zone} {clock : Nat}
    (climate : r.climate = Climate.created (hourOf clock) (trimAllowance r.band)) (rollovers : r.rollovers = []) :
    r.historyRight clock := by
  rw [Zone.historyRight, climate, rollovers]
  exact ⟨le_rfl, List.Pairwise.nil, fun b hb => absurd hb List.not_mem_nil, rfl⟩

theorem State.leavePlant_writes (h : ¬ w.asks) (z : Nat) (old : Zone) (d : Definition) :
    Writes w s (s.leavePlant z old d) := by
  unfold State.leavePlant
  split
  · exact .refl s
  · split
    · exact State.withdraw_writes h _ _
    · exact .refl s

theorem State.leaveDimmer_writes (z : Nat) (old : Zone) (d : Definition) : Writes w s (s.leaveDimmer z old d) := by
  unfold State.leaveDimmer
  split
  · exact .refl s
  · exact State.placeDimmer_writes _ _ _

theorem State.leaveTrim_writes (z : Nat) (old : Zone) (d : Definition) : Writes w s (s.leaveTrim z old d) := by
  unfold State.leaveTrim
  split
  · exact .refl s
  · split
    · exact State.place_writes _ _ _
    · exact .refl s

theorem State.createZone_writes {z : Nat} (unset : s.zone? z = none) (d : Definition) :
    Writes w s (s.putZone z (Zone.created d s.clock s.now)) :=
  .newZone unset rfl Account.empty_inRange (Climate.created_historyRight rfl rfl) rfl

theorem State.defineZone_writes (h : ¬ w.asks) (z : Nat) (d : Definition) : Writes w s (s.defineZone z d) := by
  unfold State.defineZone
  split
  case h_1 unset => exact State.createZone_writes unset d
  case h_2 r hr =>
    have redefines : Writes w s (s.putZone z (r.redefined d)) := .zone hr {
      marks := rfl, account := id, doses := fun _ _ => le_rfl
      history := fun _ => Zone.historyRight_congr rfl rfl rfl rfl le_rfl
      asks := fun asks => absurd asks h }
    exact ((redefines.trans (State.leavePlant_writes h _ _ _)).trans (State.leaveDimmer_writes _ _ _)).trans
      (State.leaveTrim_writes _ _ _)

theorem State.withBand_writes {z : Nat} {r : Zone} (hr : s.zone? z = some r) (b : Band) :
    Writes w s (s.putZone z (r.withBand b)) :=
  .zone hr {
    marks := rfl, account := id, doses := fun _ _ => le_rfl
    history := fun _ h => ⟨Nat.min_le_right _ _, h.2⟩
    asks := fun _ => ⟨rfl, rfl⟩ }

/-- A request gives the zone another account, within the ranges where the one before was. -/
theorem State.setAccount_writes {z : Nat} {r : Zone} {a : Account} (hr : s.zone? z = some r)
    (inRange : r.account.inRange → a.inRange) (doses : w.doses → r.account.inRange → r.account.dose ≤ a.dose) :
    Writes w s (s.setAccount z r a) :=
  .zone hr {
    marks := rfl, account := inRange, doses := doses
    history := fun _ => Zone.historyRight_congr rfl rfl rfl rfl le_rfl
    asks := fun _ => ⟨rfl, rfl⟩ }

theorem State.defineBank_writes (b : Nat) (d : DeviceAddr) (slew : Nat) : Writes w s (s.defineBank b d slew) :=
  .trans (.bank _ _ _) (State.placeClosure_writes _)

theorem State.bankStep_writes (b : Nat) : Writes w s (s.bankStep b) := by
  unfold State.bankStep
  split
  · split
    · dsimp only
      split
      · exact .bank _ _ _
      · exact .trans (.bank _ _ _) (State.placeClosure_writes _)
    · exact .refl s
  · exact .refl s

/-! ## Requests to plants, and the timers of a plant -/

/-- A command for a device that its issuer does not name leaves the plants as they are (R142). -/
theorem State.place_unnamed {i : Issuer} {d : DeviceAddr} (v : Nat) (unnamed : s.issuerNames i d = false) :
    (s.place d v i).plants = s.plants := by
  rcases s.place_cases d v i with ⟨l, -, -, placed⟩ | ⟨l, -, -, failed⟩ | ⟨-, nothing⟩
  · rw [placed]; rfl
  · rw [failed, (s.commandFailed_spec i d).1 unnamed]
  · rw [nothing]

/-- A command for a device whose line takes commands leaves the plants as they are (R141). -/
theorem State.place_taken {d : DeviceAddr} (v : Nat) (i : Issuer) (takes : s.takesCommandFor d = true) :
    (s.place d v i).plants = s.plants := by
  rcases s.place_cases d v i with ⟨l, -, -, placed⟩ | ⟨l, hl, refuses, -⟩ | ⟨-, nothing⟩
  · rw [placed]; rfl
  · simp [State.takesCommandFor, hl, refuses] at takes
  · rw [nothing]

theorem State.plant?_congr {t : State} (h : t.plants = s.plants) (p : Nat) : t.plant? p = s.plant? p := by
  rw [State.plant?, h, State.plant?]

theorem Plant.withController_demands (r : Plant) (d : DeviceAddr) : (r.withController d).demands.Perm r.demands :=
  insertDemands_perm _ _

/-- The plant that names another controller, with the alarm line following and NEUTRAL placed for the old one (R98). -/
def State.leaveController (s : State) (p : Nat) (r : Plant) (d : DeviceAddr) : State :=
  ((s.putPlant p (r.withController d)).followAlarm).place r.controller Duty.neutral.code (.arbiter p)

theorem State.changeController_eq (s : State) (p : Nat) (r : Plant) (d : DeviceAddr) : s.changeController p r d =
    if (s.leaveController p r d).takesCommandFor d then
      ((s.leaveController p r d).place d Duty.neutral.code (.arbiter p)).select p
    else ((s.leaveController p r d).select p).commandFailed (.arbiter p) d := rfl

/-- The outcome of the command for the old controller reaches no plant. -/
theorem State.leaveController_plants {p : Nat} {r : Plant} {d : DeviceAddr} (hr : s.plant? p = some r)
    (other : r.controller ≠ d) : (s.leaveController p r d).plants = slotSet s.plants p (some (r.withController d)) := by
  have written : (s.putPlant p (r.withController d)).followAlarm.plant? p = some (r.withController d) := by
    rw [State.plant?_congr (State.followAlarm_plants _)]
    exact State.plant?_putPlant _ hr
  have unnamed : (s.putPlant p (r.withController d)).followAlarm.issuerNames (.arbiter p) r.controller = false := by
    simpa [State.issuerNames, written] using fun same => other same.symm
  rw [State.leaveController, State.place_unnamed _ unnamed, State.followAlarm_plants]
  rfl

theorem State.leaveController_plant? {p : Nat} {r : Plant} {d : DeviceAddr} (hr : s.plant? p = some r)
    (other : r.controller ≠ d) : (s.leaveController p r d).plant? p = some (r.withController d) := by
  rw [State.plant?, State.leaveController_plants hr other]
  exact State.plant?_putPlant (r.withController d) hr

theorem Plant.withController_free {r : Plant} (order : inOrder r.waiting) (d : DeviceAddr) : (r.withController d).Free :=
  ⟨rfl, insertDemands_inOrder r.service order⟩

theorem State.leaveController_moves (loose : ¬ w.right) {p : Nat} {r : Plant} {d : DeviceAddr} (hr : s.plant? p = some r) :
    Writes w s (s.leaveController p r d) := by
  refine .trans ?_ (State.place_writes _ _ _)
  exact .plantFollowed hr (fun _ => Plant.asked_perm (r.withController_demands d)) fun watched => absurd watched loose

theorem State.changeController_moves (loose : ¬ w.right) {p : Nat} {r : Plant} {d : DeviceAddr} (hr : s.plant? p = some r)
    (other : r.controller ≠ d) : Writes w s (s.changeController p r d) := by
  have leaves := State.leaveController_moves loose (d := d) hr
  have selects {u : State} (same : u.plants = (s.leaveController p r d).plants) : Writes w u (u.select p) := by
    have record : u.plant? p = some (r.withController d) :=
      (State.plant?_congr same p).trans (State.leaveController_plant? hr other)
    refine State.select_moves loose (fun x hx => ?_) fun _ x hx => ?_
    all_goals
      rw [record] at hx
      cases hx
    · simp [Plant.withController]
    · rfl
  rw [State.changeController_eq]
  split
  · next takes =>
    exact (leaves.trans (State.place_writes _ _ _)).trans (selects (State.place_taken _ _ takes))
  · exact (leaves.trans (selects rfl)).trans (State.commandFailed_writes _ _)

theorem State.changeController_right (h : s.plantsRight) {p : Nat} {r : Plant} {d : DeviceAddr} (hr : s.plant? p = some r)
    (other : r.controller ≠ d) : (s.changeController p r d).plantsRight := by
  have free : (r.withController d).Free := Plant.withController_free (Plant.Right.order (h p r hr)) d
  have left : (s.leaveController p r d).rightBut p Plant.Free :=
    State.rightBut.congr (h.put hr free) (State.leaveController_plants hr other)
  rw [State.changeController_eq]
  split
  · next takes => exact State.select_right (left.congr (State.place_taken _ _ takes))
  · exact (State.commandFailed_writes (w := ⟨False, False, False, True⟩) _ _).plantsRight trivial (State.select_right left)

theorem State.changeController_writes {p : Nat} {r : Plant} {d : DeviceAddr} (hr : s.plant? p = some r)
    (other : r.controller ≠ d) : Writes w s (s.changeController p r d) :=
  .whole (State.changeController_moves id hr other) fun _ right => State.changeController_right right hr other

theorem State.definePlant_writes (p : Nat) (d : DeviceAddr) : Writes w s (s.definePlant p d) := by
  unfold State.definePlant
  split
  case h_1 unset =>
    refine .trans ?_ (State.placeDuty_writes _ _)
    exact .newPlant unset (by simp [Plant.fresh]) rfl (Plant.fresh_right d)
  case h_2 r hr =>
    split
    · exact .refl s
    · next other => exact State.changeController_writes hr (by simpa using other)

theorem State.holdPlant_writes {p : Nat} (up : s.plantUp p) (duty : Duty) : Writes w s (s.holdPlant p duty) := by
  unfold State.holdPlant
  split
  case h_1 r hr =>
    refine .trans ?_ (State.placeDuty_writes _ _)
    refine .plant hr ⟨iff_of_false (by simp) (up r hr), fun _ => Plant.asked_perm r.returnService_demands, fun _ right => ?_⟩
    exact Plant.Free.resting ⟨rfl, insertDemands_inOrder r.service right.order⟩ (.inl rfl) rfl
  case h_2 => exact .refl s

theorem State.minimumRunExpiry_right (h : s.plantsRight) (p : Nat) : (s.minimumRunExpiry p).plantsRight := by
  unfold State.minimumRunExpiry
  split
  case h_1 r hr =>
    split
    · have right : r.Right := h p r hr
      exact State.preemptTest_right (h.put hr ⟨right.1, right.order⟩)
    · exact h
  case h_2 => exact h

theorem State.minimumRunExpiry_writes (p : Nat) : Writes w s (s.minimumRunExpiry p) := by
  refine .whole ?_ fun _ right => State.minimumRunExpiry_right right p
  unfold State.minimumRunExpiry
  split
  case h_1 r hr =>
    split
    · refine .trans ?_ (State.preemptTest_moves id p)
      exact .plant hr (.of_same id rfl rfl)
    · exact .refl s
  case h_2 => exact .refl s

theorem State.changeoverTimerExpiry_writes (p : Nat) : Writes w s (s.changeoverTimerExpiry p) := by
  unfold State.changeoverTimerExpiry
  split
  case h_1 r hr =>
    split
    · refine .trans ?_ (State.completeChangeover_writes p)
      exact .plant hr ⟨.rfl, fun _ => .refl _, fun _ right => right.congr rfl rfl rfl rfl rfl rfl⟩
    · exact .refl s
  case h_2 => exact .refl s

/-! ## The commands and notices of a start (R173) -/

theorem State.offerStartMarks_writes : Writes w s s.offerStartMarks :=
  .foldl (fun _ _ => .foldl (fun _ _ => .offer _ _ _) _ _) _ _

theorem State.placeStartCommands_writes : Writes w s s.placeStartCommands := by
  refine .trans (.trans (.foldl (fun _ _ => State.placeDuty_writes _ _) _ _)
    (.foldl (fun _ _ => State.placeClosure_writes _) _ _)) (.foldl (fun t z => ?_) _ _)
  split
  · exact State.place_writes _ _ _
  · exact .refl t

theorem State.startRounds_writes : Writes w s (lineNumbers.foldl (fun s l => s.startRoundIfDue l) s) :=
  .foldl (fun _ _ => State.startRoundIfDue_writes _) _ _

end

end Sys2Proof.Machine
end

section
/-! PROOFS. What a command can do, said once: the work of each event, what each answered request leaves, what the host link does
beside them, and the start and stop of the part. What all of these keep, every command and every step keeps. -/

namespace Sys2Proof

/-- The work of an event of a zone, bank, plant or line, of the clock, the alarm pulse or the checkpoint timer. -/
def Instr.work? : Instr → Option (Machine.State → Machine.State)
  | .clockTick => some Machine.State.tick
  | .hourRollover z => some (·.hourRollover z)
  | .lightSample z => some (·.lightSample z)
  | .lightReview z => some (·.lightReview z)
  | .climateReview z => some (·.climateReview z)
  | .pulseEndExpiry z => some (·.pulseEndExpiry z)
  | .bankStep b => some (·.bankStep b)
  | .minimumRunExpiry p => some (·.minimumRunExpiry p)
  | .changeoverTimerExpiry p => some (·.changeoverTimerExpiry p)
  | .roundTimerExpiry l => some (·.roundTimerExpiry l)
  | .transactionTakeUp l => some (·.takeUp l)
  | .attemptRetry l => some (·.resend l)
  | .enrolProbeSend l => some (·.sendProbe l)
  | .replyComplete l bytes => some (·.replyComplete l bytes)
  | .replyTimeout l bytes => some (·.replyTimeout l bytes)
  | .hangDetected l => some (·.hangDetected l)
  | .releaseEnd l => some (·.releaseEnd l)
  | .recoveryWaitExpiry l => some (·.recoveryWaitExpiry l)
  | .alarmPulseEnd => some Machine.State.endAlarmPulse
  | .checkpointTimerExpiry => some Machine.State.checkpointTimerExpiry
  | _ => none

namespace Machine

theorem exec_work {c : Instr} {work : State → State} (h : c.work? = some work) (s : State) : exec c s = event work s := by
  cases c <;> cases h <;> rfl

/-! ## What the host link does beside the blocks -/

/-- `t` differs from `s` at most in the link, in notices that have left the queue, and in what no invariant of the blocks reads. -/
structure Aside (s t : State) : Prop where
  powered : t.powered = s.powered
  resetLow : t.resetLow = s.resetLow
  clock : t.clock = s.clock
  zones : t.zones = s.zones
  banks : t.banks = s.banks
  plants : t.plants = s.plants
  devices : t.devices = s.devices
  lines : t.lines = s.lines
  report : t.report = s.report
  alarm : t.alarm = s.alarm
  pulsing : t.pulsing = s.pulsing
  store : t.store = s.store
  checkpoint : t.checkpoint = s.checkpoint
  pending : t.pending = s.pending
  notices : t.notices.Sublist s.notices

theorem Aside.refl (s : State) : Aside s s := by constructor <;> rfl

theorem Aside.running {s t : State} (h : Aside s t) : t.running = s.running := by
  rw [State.running, h.powered, h.resetLow, State.running]

theorem Aside.zone? {s t : State} (h : Aside s t) (z : Nat) : t.zone? z = s.zone? z := by
  rw [State.zone?, h.zones, State.zone?]

theorem Aside.plant? {s t : State} (h : Aside s t) (p : Nat) : t.plant? p = s.plant? p := by
  rw [State.plant?, h.plants, State.plant?]

theorem Aside.line? {s t : State} (h : Aside s t) (l : Nat) : t.line? l = s.line? l := by
  rw [State.line?, h.lines, State.line?]

section
variable (s : State)

theorem State.sendReply_aside : Aside s s.sendReply := by
  unfold State.sendReply
  split
  · constructor <;> rfl
  · exact .refl s

theorem State.sendNotice_aside : Aside s s.sendNotice := by
  unfold State.sendNotice
  split
  · next n rest waits =>
    have left : rest.Sublist s.notices := by rw [waits]; exact List.sublist_cons_self n rest
    exact ⟨rfl, rfl, rfl, rfl, rfl, rfl, rfl, rfl, rfl, rfl, rfl, rfl, rfl, rfl, left⟩
  · exact .refl s

theorem State.chooseFrame_aside : Aside s s.chooseFrame := by
  unfold State.chooseFrame
  split
  · exact s.sendNotice_aside
  · exact s.sendReply_aside

theorem State.feedOutput_aside : Aside s s.feedOutput := by
  unfold State.feedOutput
  split
  · exact .refl s
  · split
    · exact s.chooseFrame_aside
    · split
      · exact { s.useFree.sendReply_aside with }
      · exact { s.useFree.sendNotice_aside with }

theorem State.queueReply_aside (f : Frame) : Aside s (s.queueReply f) := by constructor <;> rfl

theorem State.leaveIntake_aside : Aside s s.leaveIntake := by constructor <;> rfl

theorem State.useFree_aside : Aside s s.useFree := by constructor <;> rfl

theorem State.withRx_aside (rx : Option (List Byte)) : Aside s { s with link := { s.link with rx } } := by constructor <;> rfl

theorem State.deliver_aside (f : Frame) : Aside s (s.deliver f) := by
  unfold State.deliver
  split
  · constructor <;> rfl
  · split
    · exact s.queueReply_aside _
    · exact .refl s

end

/-! ## What an answered request leaves (R165) -/

/-- The part as the answer to a request of this kind leaves it: a case for each request that changes something. -/
inductive Asked (kind : Byte) (s : State) : State → Prop
  | nothing : Asked kind s s
  | time (v : Nat) : Asked kind s { s.moveClock v with synced := true }
  | defineZone (z : Nat) (d : Definition) : Asked kind s ((s.defineZone z d).noteConfiguration s)
  | bind {z : Nat} {r : Zone} (bs : List Binding) : s.zone? z = some r →
      Asked kind s ((s.putZone z { r with measure := { r.measure with bindings := bs } }).noteConfiguration s)
  | openZone (z : Nat) : Asked kind s ((s.openZone z).noteConfiguration s)
  | closeZone (z : Nat) : Asked kind s ((s.closeZone z).noteConfiguration s)
  | clearMarks (z : Nat) (named : List Mark) : Asked kind s (s.clearMarks z named)
  | beginSeason {z : Nat} {r : Zone} (allowance hours : Nat) : kind = 0x0A → s.zone? z = some r →
      Asked kind s (s.setAccount z r (r.account.beginSeason allowance hours s.clock))
  | endSeason {z : Nat} {r : Zone} : s.zone? z = some r → Asked kind s (s.setAccount z r r.account.endSeason)
  | adjust {z : Nat} {r : Zone} (dose seconds : Nat) : kind = 0x0D → s.zone? z = some r → seconds ≤ Config.count32Max →
      Asked kind s ((s.setAccount z r (r.account.adjusted dose seconds)).evalMark z .saturated
        (r.account.adjusted dose seconds).atLimit)
  | band {z : Nat} {r : Zone} (b : Band) : s.zone? z = some r →
      Asked kind s ((s.putZone z (r.withBand b)).noteConfiguration s)
  | occupancy {z : Nat} {r : Zone} (n : Nat) : s.zone? z = some r →
      Asked kind s (s.putZone z { r with measure := { r.measure with occupancy := n } })
  | defineBank (b : Nat) (d : DeviceAddr) (slew : Nat) : Asked kind s ((s.defineBank b d slew).noteConfiguration s)
  | definePlant (p : Nat) (d : DeviceAddr) : Asked kind s ((s.definePlant p d).noteConfiguration s)
  | hold {p : Nat} {r : Plant} (duty : Duty) : s.plant? p = some r → r.state ≠ .faulted → Asked kind s (s.holdPlant p duty)
  | release {p : Nat} {r : Plant} : s.plant? p = some r → r.state = .held → Asked kind s (s.select p)
  | retryLimit {l : Nat} {r : Line} (v : Nat) : s.line? l = some r →
      Asked kind s ((s.putLine l { r with retryLimit := v }).noteConfiguration s)
  | enrol (l : Nat) : Asked kind s (s.beginEnrolment l)
  | enable (l : Nat) : Asked kind s (s.enableLine l)
  | retire (d : DeviceAddr) : Asked kind s ((s.retire d).noteConfiguration s)
  | report (r : ReportSettings) : Asked kind s ((s.setReport r).noteConfiguration s)
  | checkpoint : Asked kind s s.beginCheckpoint
  | restart : Asked kind s s.beginRestart

/-- The state that a reply leaves has the property; a refusal leaves none. -/
def Answer.Leaves (P : State → Prop) : Answer → Prop
  | .refuse _ => True
  | .reply _ _ after => P after

section
variable {P : State → Prop} {s : State}

theorem withBody_leaves {α : Type} {r : Reader α} {body : List Byte} {f : α → State → Answer}
    (h : ∀ a, readBody r body = some a → (f a s).Leaves P) : (withBody r body f s).Leaves P := by
  unfold withBody
  split
  · next a read => exact h a read
  · trivial

theorem onZone_leaves {z : Nat} {work : Zone → Answer} (h : ∀ r, s.zone? z = some r → (work r).Leaves P) :
    (onZone z s work).Leaves P := by
  unfold onZone
  split
  · trivial
  · split
    · next r hr => exact h r hr
    · trivial

theorem onLine_leaves {l : Nat} {work : Line → Answer} (h : ∀ r, s.line? l = some r → (work r).Leaves P) :
    (onLine l s work).Leaves P := by
  unfold onLine
  split
  · next r hr => exact h r hr
  · trivial

end

section
variable {kind : Byte} (s : State)

theorem answerZoneDefine_asked (q : Nat × DefinitionFields) : (answerZoneDefine q s).Leaves (Asked kind s) := by
  unfold answerZoneDefine
  split
  · trivial
  · split
    · trivial
    · split
      · trivial
      · exact .defineZone _ _

theorem answerZoneBind_asked (q : Nat × List (Nat × Nat × Nat × Nat)) : (answerZoneBind q s).Leaves (Asked kind s) := by
  refine onZone_leaves fun r hr => ?_
  split
  · trivial
  · split
    · trivial
    · exact .bind _ hr

theorem answerZoneRead_asked (z : Nat) : (answerZoneRead z s).Leaves (Asked kind s) := by
  unfold answerZoneRead
  split
  · trivial
  · split <;> exact .nothing

theorem answerMarksClear_asked (q : Nat × List Nat) : (answerMarksClear q s).Leaves (Asked kind s) := by
  refine onZone_leaves fun r _ => ?_
  split
  · trivial
  · dsimp only
    split <;> exact .clearMarks _ _

theorem answerSeasonBegin_asked (q : Nat × Nat × Nat) (is : kind = 0x0A) :
    (answerSeasonBegin q s).Leaves (Asked kind s) := by
  refine onZone_leaves fun r hr => ?_
  split
  · exact .beginSeason _ _ is hr
  · trivial

theorem answerClimateBand_asked (q : Nat × Band) : (answerClimateBand q s).Leaves (Asked kind s) := by
  refine onZone_leaves fun r hr => ?_
  split
  · exact .band _ hr
  · trivial

theorem answerBankDefine_asked (q : Nat × DeviceAddr × Nat) : (answerBankDefine q s).Leaves (Asked kind s) := by
  unfold answerBankDefine
  repeat' split
  all_goals first | trivial | exact .defineBank _ _ _

theorem answerBankRead_asked (b : Nat) : (answerBankRead b s).Leaves (Asked kind s) := by
  unfold answerBankRead
  split
  · trivial
  · split <;> exact .nothing

theorem answerPlantDefine_asked (q : Nat × DeviceAddr) : (answerPlantDefine q s).Leaves (Asked kind s) := by
  unfold answerPlantDefine
  repeat' split
  all_goals first | trivial | exact .definePlant _ _

theorem answerPlantHold_asked (q : Nat × Nat) : (answerPlantHold q s).Leaves (Asked kind s) := by
  unfold answerPlantHold
  split
  · split
    · next r hr =>
      split
      · trivial
      · next up => exact .hold _ hr (by simpa using up)
    · trivial
  · trivial

theorem answerPlantRelease_asked (p : Nat) : (answerPlantRelease p s).Leaves (Asked kind s) := by
  unfold answerPlantRelease
  split
  · trivial
  · split
    · next r hr =>
      split
      · next held => exact .release hr (by simpa using held)
      · trivial
    · trivial

theorem answerPlantRead_asked (p : Nat) : (answerPlantRead p s).Leaves (Asked kind s) := by
  unfold answerPlantRead
  split
  · trivial
  · split <;> exact .nothing

theorem answerLineSet_asked (q : Nat × Nat) : (answerLineSet q s).Leaves (Asked kind s) := by
  refine onLine_leaves fun r hr => ?_
  split
  · trivial
  · exact .retryLimit _ hr

theorem answerLineEnrol_asked (l : Nat) : (answerLineEnrol l s).Leaves (Asked kind s) := by
  refine onLine_leaves fun r _ => ?_
  repeat' split
  all_goals first | trivial | exact .enrol l

theorem answerLineEnable_asked (l : Nat) : (answerLineEnable l s).Leaves (Asked kind s) := by
  refine onLine_leaves fun r _ => ?_
  split
  · trivial
  · exact .enable l

theorem answerDeviceRead_asked (d : DeviceAddr) : (answerDeviceRead d s).Leaves (Asked kind s) := by
  unfold answerDeviceRead
  repeat' split
  all_goals first | trivial | exact .nothing

theorem answerDeviceRetire_asked (d : DeviceAddr) : (answerDeviceRetire d s).Leaves (Asked kind s) := by
  unfold answerDeviceRetire
  repeat' split
  all_goals first | trivial | exact .retire d

theorem answerReportSet_asked (q : Nat × Nat × Nat) : (answerReportSet q s).Leaves (Asked kind s) := by
  unfold answerReportSet
  repeat' split
  all_goals first | trivial | exact .report _

end

/-! ## A count read off a body fits its bytes (R159) -/

theorem natOf_lt (bs : List Byte) : natOf bs < 256 ^ bs.length := by
  induction bs with
  | nil => simp [natOf]
  | cons b bs ih =>
    rw [natOf_cons, List.length_cons, pow_succ]
    have := b.isLt
    nlinarith

/-- Bytes are spelled by the count that is read from them. -/
theorem be_natOf (bs : List Byte) : be bs.length (natOf bs) = bs := by
  induction bs with
  | nil => rfl
  | cons b bs ih =>
    have high : (b.toNat * 256 ^ bs.length + natOf bs) / 256 ^ bs.length = b.toNat := by
      rw [Nat.mul_comm, Nat.mul_add_div (by positivity), Nat.div_eq_of_lt (natOf_lt bs), Nat.add_zero]
    have low (n v a : Nat) : be n (a * 256 ^ n + v) = be n v := by
      induction n generalizing a with
      | zero => rfl
      | succ n ih =>
        have split : a * 256 ^ (n + 1) + v = 256 * a * 256 ^ n + v := by ring
        rw [be, be, split, ih, Nat.mul_comm (256 * a), Nat.mul_add_div (by positivity)]
        congr 1
        exact BitVec.eq_of_toNat_eq (by simp)
    rw [natOf_cons, List.length_cons, be, high, low, ih, BitVec.ofNat_toNat, BitVec.setWidth_eq]

theorem readNat_some {n v : Nat} {bs rest : List Byte} (h : readNat n bs = some (v, rest)) :
    v < 256 ^ n ∧ bs = be n v ++ rest := by
  unfold readNat at h
  split at h
  · cases h
  · next enough =>
    cases h
    have taken : (bs.take n).length = n := by rw [List.length_take]; omega
    have spelled := be_natOf (bs.take n)
    have fits := natOf_lt (bs.take n)
    rw [taken] at spelled fits
    exact ⟨fits, by rw [spelled, List.take_append_drop]⟩

/-- What two readers in turn have read. -/
theorem bind_some {α β : Type} {r : Reader α} {f : α → Reader β} {bs rest : List Byte} {b : β}
    (h : (r >>= f) bs = some (b, rest)) : ∃ a mid, r bs = some (a, mid) ∧ f a mid = some (b, rest) := by
  obtain ⟨⟨a, mid⟩, first, second⟩ := Option.bind_eq_some_iff.mp h
  exact ⟨a, mid, first, second⟩

theorem readBody_some {α : Type} {r : Reader α} {body : List Byte} {a : α} (h : readBody r body = some a) :
    r body = some (a, []) := by
  unfold readBody at h
  split at h
  · next read => cases h; exact read
  · cases h

theorem readAccountAdjust_seconds {body : List Byte} {q : Nat × Nat × Nat} (h : readBody readAccountAdjust body = some q) :
    q.2.2 ≤ Config.count32Max := by
  obtain ⟨z, _, _, h⟩ := bind_some (readBody_some h)
  obtain ⟨dose, _, _, h⟩ := bind_some h
  obtain ⟨seconds, rest, read, h⟩ := bind_some h
  cases h
  have := (readNat_some read).1
  show seconds ≤ 4294967295
  omega

section
variable {kind : Byte} (s : State)

theorem answerAccountAdjust_asked {q : Nat × Nat × Nat} (is : kind = 0x0D) (fits : q.2.2 ≤ Config.count32Max) :
    (answerAccountAdjust q s).Leaves (Asked kind s) :=
  onZone_leaves fun _ hr => .adjust _ _ is hr fits

/-- Every request is answered by one of the cases of `Asked`, or refused. -/
theorem answerTo_asked (f : Frame) : (answerTo f s).Leaves (Asked f.kind s) := by
  have is {n : Nat} (h : f.kind.toNat = n) : f.kind = BitVec.ofNat 8 n := by
    rw [← h, BitVec.ofNat_toNat, BitVec.setWidth_eq]
  unfold answerTo
  generalize hk : f.kind.toNat = k
  rcases Nat.lt_or_ge k 32 with small | large
  swap
  · obtain ⟨n, rfl⟩ := Nat.exists_eq_add_of_le' large
    trivial
  interval_cases k
  · trivial
  · exact withBody_leaves fun _ _ => .nothing
  · exact withBody_leaves fun v _ => .time v
  · exact withBody_leaves fun _ _ => .nothing
  · exact withBody_leaves fun q _ => answerZoneDefine_asked s q
  · exact withBody_leaves fun q _ => answerZoneBind_asked s q
  · exact withBody_leaves fun z _ => onZone_leaves fun _ _ => .openZone z
  · exact withBody_leaves fun z _ => onZone_leaves fun _ _ => .closeZone z
  · exact withBody_leaves fun z _ => answerZoneRead_asked s z
  · exact withBody_leaves fun q _ => answerMarksClear_asked s q
  · exact withBody_leaves fun q _ => answerSeasonBegin_asked s q (is hk)
  · exact withBody_leaves fun z _ => onZone_leaves fun _ hr => .endSeason hr
  · exact withBody_leaves fun z _ => onZone_leaves fun _ _ => .nothing
  · exact withBody_leaves fun q read => answerAccountAdjust_asked s (is hk) (readAccountAdjust_seconds read)
  · exact withBody_leaves fun q _ => answerClimateBand_asked s q
  · exact withBody_leaves fun z _ => onZone_leaves fun _ _ => .nothing
  · exact withBody_leaves fun q _ => onZone_leaves fun _ hr => .occupancy _ hr
  · exact withBody_leaves fun q _ => answerBankDefine_asked s q
  · exact withBody_leaves fun b _ => answerBankRead_asked s b
  · exact withBody_leaves fun q _ => answerPlantDefine_asked s q
  · exact withBody_leaves fun q _ => answerPlantHold_asked s q
  · exact withBody_leaves fun p _ => answerPlantRelease_asked s p
  · exact withBody_leaves fun p _ => answerPlantRead_asked s p
  · exact withBody_leaves fun q _ => answerLineSet_asked s q
  · exact withBody_leaves fun l _ => answerLineEnrol_asked s l
  · exact withBody_leaves fun l _ => answerLineEnable_asked s l
  · exact withBody_leaves fun l _ => onLine_leaves fun _ _ => .nothing
  · exact withBody_leaves fun d _ => answerDeviceRead_asked s d
  · exact withBody_leaves fun d _ => answerDeviceRetire_asked s d
  · exact withBody_leaves fun q _ => answerReportSet_asked s q
  · exact withBody_leaves fun _ _ => .checkpoint
  · exact withBody_leaves fun _ _ => .restart

end

end Machine

end Sys2Proof
end

section
/-! PROOFS. What the pieces of every command keep, every command and every step keeps: the frame of the invariants of the part. -/

namespace Sys2Proof.Machine

/-- A request of unknown kind that carries a kind of the catalogue has no effect (log entry 26). -/
theorem exec_ignored {kind tag : Byte} {body : List Byte} (s : State)
    (h : (Instr.unknownRequestKind kind tag body).request? = none) : exec (.unknownRequestKind kind tag body) s = .next s := by
  have inside : inCatalogue kind = true := by
    by_contra outside
    simp [Instr.request?, outside] at h
  simp [exec, execUnknownRequestKind, inside]

/-- The property is kept by every piece of a command: by what the host link does beside the blocks, by every answered request of a
kind that `K` admits, by the work of every event, by the end of a record write, as the part stops and while it stands still; and, if
`S`, by the start sequence. -/
structure Keeps (K : Byte → Prop) (S : Prop) (P : State → Prop) : Prop where
  aside : ∀ {s t}, Aside s t → P s → P t
  asked : ∀ {kind s t}, K kind → Asked kind s t → P s → P t
  work : ∀ {c : Instr} {work s}, c.work? = some work → P s → P (work s)
  endWrite : ∀ {s} agrees, P s → P (s.endWrite agrees)
  stop : ∀ {s} powered resetLow alarm, (powered && !resetLow) = false → P s → P { s.stop with powered, resetLow, alarm }
  still : ∀ {s} powered resetLow alarm, (powered && !resetLow) = false → P s → P { s with powered, resetLow, alarm }
  cut : ∀ {s}, S → P s → P s.cutWrite
  start : ∀ {s u : State} cause sense, S → P s → u.store = s.store → u.pending = s.pending → P (u.startSequence cause sense)

/-- Every request that waits is of a kind that `K` admits. -/
def State.awaits (K : Byte → Prop) (s : State) : Prop := ∀ f ∈ s.link.intake, K f.kind

/-- The start sequence: the store is loaded, START and the marks are offered, the commands of start are placed, the alarm line follows,
and the rounds start (R172, R173). -/
theorem State.startSequence_writes {w : Watch} (s : State) (cause : StartCause) (sense : TermSense) :
    ∃ t, Writes w (s.load sense) t ∧ Writes w t.followAlarm (s.startSequence cause sense) := by
  refine ⟨((s.load sense).offer (.start cause s.store.config.isNone) .none).offerStartMarks.placeStartCommands, ?_, ?_⟩
  · exact .trans (.offer _ _ _) (.trans State.offerStartMarks_writes State.placeStartCommands_writes)
  · exact State.startRounds_writes

theorem State.startSequence_link (s : State) (cause : StartCause) (sense : TermSense) :
    (s.startSequence cause sense).link = Link.fresh := by
  obtain ⟨t, loaded, started⟩ := s.startSequence_writes (w := ⟨False, False, False, False⟩) cause sense
  rw [started.link, (State.followAlarm_blocks t).link, loaded.link]
  rfl

theorem State.completeCheckpoint_restarting {s : State} (full : Bool) (written failed : Nat) (none : s.restarting = none) :
    (s.completeCheckpoint full written failed).restarting = Option.none := by
  rw [State.completeCheckpoint_plain none]
  exact (State.offer_blocks _ _ _).restarting.trans none

theorem State.continueCheckpoint_restarting {s : State} (z : Nat) (full : Bool) (written failed : Nat)
    (none : s.restarting = none) : (s.continueCheckpoint z full written failed).restarting = Option.none := by
  unfold State.continueCheckpoint State.beginAccountWrite
  cases s.nextDefined z with
  | none => exact State.completeCheckpoint_restarting _ _ _ none
  | some next => exact none

theorem State.endWrite_restarting {s : State} (agrees : Bool) (none : s.restarting = none) :
    (s.endWrite agrees).restarting = Option.none := by
  unfold State.endWrite
  split
  · refine State.continueCheckpoint_restarting _ _ _ _ ?_
    split
    · exact none
    · exact (State.offer_blocks _ _ _).restarting.trans none
  · exact none

namespace Keeps

variable {K : Byte → Prop} {S : Prop} {P : State → Prop} (keeps : Keeps K S P)
include keeps

theorem feedOutput {s : State} (h : P s) : P s.feedOutput := keeps.aside s.feedOutput_aside h

theorem handled {s : State} {f : Frame} (admitted : K f.kind) (h : P s) : P (s.handled f) := by
  have left := answerTo_asked s f
  unfold State.handled
  refine keeps.feedOutput (keeps.aside (State.leaveIntake_aside _) ?_)
  cases answered : answerTo f s with
  | refuse status => exact keeps.aside (s.queueReply_aside _) h
  | reply status content after =>
    rw [answered] at left
    exact keeps.aside (after.queueReply_aside _) (keeps.asked admitted left h)

theorem serve (now : Nat → Bool) (n : Nat) {s : State} (waits : s.awaits K) (h : P s) :
    P (s.serve now n) ∧ (s.serve now n).awaits K := by
  induction n generalizing s with
  | zero => exact ⟨h, waits⟩
  | succ n ih =>
    unfold State.serve
    split
    · next f rest front =>
      have used := keeps.aside s.useFree_aside h
      split
      · split
        · refine ih ?_ (keeps.handled (waits f (by rw [front]; exact List.mem_cons_self)) used)
          intro g hg
          rw [(s.useFree.handled_intake f).1] at hg
          exact waits g (List.mem_of_mem_tail hg)
        · exact ⟨used, waits⟩
      · exact ⟨h, waits⟩
    · exact ⟨h, waits⟩

theorem arrive {s : State} {f : Frame} (waits : s.awaits K) (admitted : K f.kind) (h : P s) : P (s.arrive f) := by
  obtain ⟨h, waits⟩ := keeps.serve Config.takenUpNow s.link.intake.length waits h
  have joined : (s.serveSome.deliver f).awaits K := by
    intro g hg
    unfold State.deliver at hg
    split at hg
    · rcases List.mem_append.mp hg with hg | hg
      · exact waits g hg
      · rw [List.mem_singleton.mp hg]
        exact admitted
    · split at hg <;> exact waits g hg
  exact keeps.feedOutput (keeps.serve _ _ joined (keeps.aside (s.serveSome.deliver_aside f) h)).1

theorem request {s t : State} {f : Frame} (admitted : ∀ g ∈ s.link.intake ++ [f], K g.kind)
    (ran : Machine.request f.kind f.tag f.body s = .next t) (h : P s) : P t := by
  have waits : s.awaits K := fun g hg => admitted g (List.mem_append_left _ hg)
  have admitted : K f.kind := admitted f (by simp)
  unfold Machine.request at ran
  cases ran
  split
  · split
    · exact keeps.handled admitted h
    · exact keeps.arrive waits admitted h
  · exact h

theorem event {work : State → State} {s t : State} (worked : P (work s)) (ran : Machine.event work s = .next t) (h : P s) :
    P t := by
  unfold Machine.event at ran
  cases ran
  split
  · exact keeps.feedOutput worked
  · exact h

theorem restartIfReady {s : State} {sense : TermSense} (starts : S ∨ s.restarting = none) (h : P s) :
    P (s.restartIfReady sense) := by
  unfold State.restartIfReady
  split
  · next waiting =>
    split
    · rcases starts with starts | none
      · exact keeps.start _ _ starts (keeps.cut starts h) rfl rfl
      · rw [none] at waiting
        cases waiting
    · exact h
  · exact h

theorem frameSent {s : State} {sense : TermSense} (waits : s.awaits K) (starts : S ∨ s.restarting = none) (h : P s) :
    P (s.frameSent sense) := by
  unfold State.frameSent
  have served {t : State} (waits : t.awaits K) (h : P t) : P t.serveSome := (keeps.serve _ _ waits h).1
  have chosen {t : State} (waits : t.awaits K) : t.chooseFrame.awaits K := by
    unfold State.chooseFrame State.sendNotice State.sendReply
    repeat' split
    all_goals exact waits
  split
  · dsimp only
    split
    · refine served (chosen ?_) (keeps.aside (State.chooseFrame_aside _) (keeps.restartIfReady ?_ ?_))
      · unfold State.restartIfReady
        split
        · split
          · intro f hf
            rw [State.startSequence_link] at hf
            cases hf
          · exact waits
        · exact waits
      · exact starts.imp id fun none => by simp [none]
      · exact keeps.aside (by constructor <;> rfl) h
    · exact served (chosen waits) (keeps.aside (State.chooseFrame_aside _) (keeps.aside (by constructor <;> rfl) h))
  · exact h

theorem supplyReturns {s : State} (starts : S) (sense : TermSense) (h : P s) : P (s.supplyReturns sense) := by
  unfold State.supplyReturns
  split
  · exact h
  · dsimp only
    split
    · next low => exact keeps.still true s.resetLow false (by simp [low]) h
    · exact keeps.feedOutput (keeps.start _ _ starts h rfl rfl)

theorem supplyFails {s : State} (h : P s) : P s.supplyFails := by
  unfold State.supplyFails
  split
  · exact keeps.stop false s.resetLow false rfl h
  · exact h

theorem resetAsserted {s : State} (h : P s) : P s.resetAsserted := by
  unfold State.resetAsserted
  split
  · exact h
  · split
    · exact keeps.aside (State.useFree_aside _) (keeps.stop s.powered true _ (by simp) h)
    · exact keeps.still s.powered true s.alarm (by simp) h

theorem resetReleased {s : State} (starts : S) (sense : TermSense) (h : P s) : P (s.resetReleased sense) := by
  unfold State.resetReleased
  split
  · dsimp only
    split
    · exact keeps.feedOutput (keeps.start _ _ starts h rfl rfl)
    · next dark => exact keeps.still s.powered false s.alarm (by simp [dark]) h
  · exact h

/-- Every command keeps the property: where it begins a start, `S` is needed. -/
theorem exec {c : Instr} {s t : State} (ran : Machine.exec c s = .next t) (admitted : ∀ f ∈ atHand c s, K f.kind)
    (starts : S ∨ s.restarting = none ∧ (∀ sense, c ≠ .powerOn sense) ∧ ∀ sense, c ≠ .resetInputRelease sense)
    (h : P s) : P t := by
  have restarts : S ∨ s.restarting = none := starts.imp id And.left
  cases asks : c.request? with
  | some f =>
    have arrives : arriving? c s = some f := by cases c <;> first | exact asks | cases asks
    rw [exec_request s asks] at ran
    refine keeps.request ?_ ran h
    simpa only [atHand, arrives] using admitted
  | none =>
    cases works : c.work? with
    | some work =>
      rw [exec_work works] at ran
      exact keeps.event (keeps.work works h) ran h
    | none =>
      cases c
      case frameReceived tag kind body =>
        cases ran
        split
        · refine keeps.arrive (fun f hf => admitted f (List.mem_append_left _ hf)) (admitted ⟨tag, kind, body⟩ ?_)
            (keeps.aside (s.withRx_aside none) h)
          exact List.mem_append_right _ (List.mem_singleton_self _)
        · exact h
      case frameGapExpiry =>
        exact keeps.event (work := fun s => { s with link := { s.link with rx := none } }) (keeps.aside (s.withRx_aside none) h) ran h
      case outputFrameSent sense =>
        cases ran
        split
        · exact keeps.frameSent admitted restarts h
        · exact h
      case recordWriteEnd agrees sense =>
        refine keeps.event (work := fun s => (s.endWrite agrees).restartIfReady sense)
          (keeps.restartIfReady ?_ (keeps.endWrite agrees h)) ran h
        exact restarts.imp id (State.endWrite_restarting agrees)
      case powerOn sense =>
        cases ran
        exact keeps.supplyReturns (starts.resolve_right fun without => without.2.1 sense rfl) sense h
      case powerFail => cases ran; exact keeps.supplyFails h
      case resetInputAssert => cases ran; exact keeps.resetAsserted h
      case resetInputRelease sense =>
        cases ran
        exact keeps.resetReleased (starts.resolve_right fun without => without.2.2 sense rfl) sense h
      case uartByteReceived data stop =>
        cases ran
        split
        · unfold State.receiveByte
          have received := keeps.aside (s.withRx_aside (assemble s.link.rx data stop).1) h
          dsimp only
          split
          · exact keeps.feedOutput received
          · next f completed =>
            have at_hand : atHand (.uartByteReceived data stop) s = s.link.intake ++ [f] := by
              simp only [atHand, arriving?, completed]
            rw [at_hand] at admitted
            exact keeps.arrive (fun g hg => admitted g (List.mem_append_left _ hg)) (admitted f (by simp)) received
        · exact h
      case unknownRequestKind kind tag body =>
        rw [exec_ignored s asks] at ran
        cases ran
        exact h
      all_goals first | (cases works; done) | cases asks

end Keeps

/-- What every piece of every command and the start keep, every step keeps. -/
theorem Keeps.step {P : State → Prop} (keeps : Keeps (fun _ => True) True P)
    (fetch : ∀ s rest, P s → P { s with pending := rest }) {s t : State} (h : P s) (ran : Machine.step s = .next t) : P t := by
  unfold Machine.step at ran
  split at ran
  · cases ran
    unfold State.idle
    split
    · exact (keeps.serve _ _ (fun _ _ => trivial) h).1
    · exact h
  · exact keeps.exec ran (fun _ _ => trivial) (.inl trivial) (fetch s _ h)

end Sys2Proof.Machine
end

section
/-! PROOFS. What the single writes of the blocks keep, and the few pieces of a command that are no such writes, every command keeps:
the frame of the invariants that read the records of the blocks. -/

namespace Sys2Proof.Machine

/-- The record that a checkpoint may be writing: the configuration, or the account of a defined zone, as they stand (R169). -/
inductive State.Writable (s : State) : Writing → Prop
  | config : s.Writable (.config { config := s.configuration, clock := s.clock })
  | account {z : Nat} {r : Zone} : s.zone? z = some r → s.Writable (.account z r.accountRecord)

/-- The property is kept, where `Q` holds beside it, by the writes of the blocks that `w` watches, and by the pieces of a command
that are no such writes. -/
structure Kept (w : Watch) (K : Byte → Prop) (S : Prop) (Q P : State → Prop) : Prop where
  idle : ∀ {s}, w.idle → P s → s.downIdle
  right : ∀ {s}, w.asks → Q s → s.plantsRight
  doses : ∀ {kind}, w.doses → K kind → kind ≠ 0x0A ∧ kind ≠ 0x0D
  aside : ∀ {s t}, Aside s t → P s → P t
  writes : ∀ {s t}, Writes w s t → P s → P t
  defineZone : ∀ {s} z d, w.asks → Q s → P s → P (s.defineZone z d)
  climateReview : ∀ {s} z, w.asks → Q s → P s → P (s.climateReview z)
  clock : ∀ {s} v, P s → P (s.moveClock v)
  report : ∀ {s} r, P s → P (s.setReport r)
  pulse : ∀ {s}, P s → P s.endAlarmPulse
  checkpoint : ∀ {s} c, (∀ cp, c = some cp → s.Writable cp.writing) → P s → P { s with checkpoint := c }
  put : ∀ {s cp} good, s.checkpoint = some cp → P s → P { s with store := s.store.put cp.writing good }
  still : ∀ {s} powered resetLow alarm, (powered && !resetLow) = false → P s → P { s with powered, resetLow, alarm }
  quiet : ∀ {s}, P s → P { s with pulsing := false }
  start : ∀ {s u : State} cause sense, S → P s → u.store = s.store → u.pending = s.pending → P (u.startSequence cause sense)

/-! ## The writes of a request and of an event -/

theorem Account.beginSeason_inRange (a : Account) (allowance hours clock : Nat) :
    (a.beginSeason allowance hours clock).inRange := ⟨Nat.zero_le _, Nat.zero_le _, Nat.zero_le _⟩

theorem Account.adjusted_inRange (a : Account) (dose : Nat) {seconds : Nat} (h : seconds ≤ Config.count32Max) :
    (a.adjusted dose seconds).inRange := ⟨Nat.min_le_right _ _, Nat.zero_le _, h⟩

theorem State.noteConfiguration_writes {w : Watch} {s t : State} (h : Writes w s t) : Writes w s (t.noteConfiguration s) :=
  h.trans (.configChanged t _)

/-- The selection of a HELD plant, which serves nothing (R84, R100). -/
theorem State.release_writes {w : Watch} {s : State} (right : w.asks → s.plantsRight) {p : Nat} {r : Plant}
    (hr : s.plant? p = some r) (held : r.state = .held) : Writes w s (s.select p) := by
  refine .whole (State.select_moves id (fun x hx => ?_) fun asks x hx => ?_) fun _ h => ?_
  · cases hr.symm.trans hx
    simp [held]
  · cases hr.symm.trans hx
    exact (right asks _ _ hr).1.1 (.inr (.inl held))
  · refine State.select_right ⟨fun k x hx _ => h k x hx, fun x hx => ?_⟩
    cases hr.symm.trans hx
    exact Plant.Right.free (h p r hr) (.inr (.inl held))

/-- What an answered request leaves, where its work is a chain of writes. -/
theorem Asked.cases {kind : Byte} {s t : State} {w : Watch} {P : State → Prop} (asked : Asked kind s t)
    (right : w.asks → s.plantsRight) (doses : w.doses → kind ≠ 0x0A ∧ kind ≠ 0x0D)
    (written : ∀ {t}, Writes w s t → P t) (time : ∀ v, P { s.moveClock v with synced := true })
    (defineZone : ∀ z d, w.asks → P ((s.defineZone z d).noteConfiguration s))
    (report : ∀ r, P ((s.setReport r).noteConfiguration s)) (checkpoint : P s.beginCheckpoint)
    (restart : P s.beginRestart) : P t := by
  cases asked with
  | nothing => exact written (.refl s)
  | time v => exact time v
  | defineZone z d =>
    by_cases asks : w.asks
    · exact defineZone z d asks
    · exact written (State.noteConfiguration_writes (State.defineZone_writes asks z d))
  | bind bs hr => exact written (State.noteConfiguration_writes (.zoneStill hr (by constructor <;> rfl)))
  | openZone z => exact written (State.noteConfiguration_writes (State.openZone_writes z))
  | closeZone z => exact written (State.noteConfiguration_writes (State.closeZone_writes z))
  | clearMarks z named => exact written (State.clearMarks_writes z named)
  | beginSeason allowance hours is hr =>
    exact written (State.setAccount_writes hr (fun _ => Account.beginSeason_inRange _ _ _ _)
      fun watched => absurd is (doses watched).1)
  | endSeason hr => exact written (State.setAccount_writes hr id fun _ _ => le_rfl)
  | adjust dose seconds is hr fits =>
    refine written (.trans (State.setAccount_writes hr (fun _ => Account.adjusted_inRange _ dose fits) ?_)
      (State.evalMark_writes _ _ _))
    exact fun watched => absurd is (doses watched).2
  | band b hr => exact written (State.noteConfiguration_writes (State.withBand_writes hr b))
  | occupancy n hr => exact written (.zoneStill hr (by constructor <;> rfl))
  | defineBank b d slew => exact written (State.noteConfiguration_writes (State.defineBank_writes b d slew))
  | definePlant p d => exact written (State.noteConfiguration_writes (State.definePlant_writes p d))
  | hold duty hr up =>
    refine written (State.holdPlant_writes (fun x hx => ?_) duty)
    cases hr.symm.trans hx
    exact up
  | release hr held =>
    refine written (State.release_writes right hr held)
  | retryLimit v hr => exact written (State.noteConfiguration_writes (.line hr (.of_same (.refl _) rfl (.inr rfl))))
  | enrol l => exact written (State.beginEnrolment_writes l)
  | enable l => exact written (State.enableLine_writes l)
  | retire d => exact written (State.noteConfiguration_writes (State.retire_writes d))
  | report r => exact report r
  | checkpoint => exact checkpoint
  | restart => exact restart

/-- What an event leaves, where its work is a chain of writes. -/
theorem work_cases {c : Instr} {work : State → State} {s : State} {w : Watch} {P : State → Prop} (works : c.work? = some work)
    (idle : w.idle → s.downIdle) (right : w.asks → s.plantsRight) (written : ∀ {t}, Writes w s t → P t) (tick : P s.tick)
    (climateReview : ∀ z, w.asks → P (s.climateReview z)) (pulse : P s.endAlarmPulse) (checkpoint : P s.checkpointTimerExpiry) :
    P (work s) := by
  cases c <;> cases works
  case clockTick => exact tick
  case hourRollover z => exact written (State.hourRollover_writes z)
  case lightSample z => exact written (State.lightSample_writes z)
  case lightReview z => exact written (State.lightReview_writes z)
  case climateReview z =>
    by_cases asks : w.asks
    · exact climateReview z asks
    · exact written (State.climateReview_writes asks z)
  case pulseEndExpiry z => exact written (State.pulseEndExpiry_writes z)
  case bankStep b => exact written (State.bankStep_writes b)
  case minimumRunExpiry p => exact written (State.minimumRunExpiry_writes p)
  case changeoverTimerExpiry p => exact written (State.changeoverTimerExpiry_writes p)
  case roundTimerExpiry l => exact written (State.roundTimerExpiry_writes l)
  case transactionTakeUp l => exact written (State.takeUp_writes l)
  case attemptRetry l => exact written (State.resend_writes l)
  case enrolProbeSend l => exact written (State.sendProbe_writes l)
  case replyComplete l bytes => exact written (State.replyComplete_writes idle right l bytes)
  case replyTimeout l bytes => exact written (State.replyTimeout_writes idle right l bytes)
  case hangDetected l => exact written (State.hangDetected_writes l)
  case releaseEnd l => exact written (State.releaseEnd_writes l)
  case recoveryWaitExpiry l => exact written (State.recoveryWaitExpiry_writes l)
  case alarmPulseEnd => exact pulse
  case checkpointTimerExpiry => exact checkpoint

/-! ## The pieces of a command -/

namespace Kept

variable {w : Watch} {K : Byte → Prop} {S : Prop} {Q P : State → Prop} (kept : Kept w K S Q P)
include kept

theorem beginConfigWrite {s : State} (full : Bool) (h : P s) : P (s.beginConfigWrite full) := by
  have taken := kept.checkpoint
    (some { full, writing := .config { config := s.configuration, clock := s.clock }, written := 0, failed := 0 })
    (by rintro _ ⟨⟩; exact .config) h
  exact kept.aside (by constructor <;> rfl) taken

theorem completeCheckpoint {s : State} (full : Bool) (written failed : Nat) (h : P s) :
    P (s.completeCheckpoint full written failed) := by
  have offered : P ({ s with checkpoint := none }.offer (.storeDone written failed) .none) :=
    kept.writes (.offer _ _ _) (kept.checkpoint none (by rintro _ ⟨⟩) h)
  have noted (r : Option Restart) := kept.aside
    (t := { { s with checkpoint := none }.offer (.storeDone written failed) .none with restarting := r })
    (by constructor <;> rfl) offered
  unfold State.completeCheckpoint
  dsimp only
  split
  · split
    · exact noted _
    · split
      · exact kept.beginConfigWrite true (noted _)
      · exact offered
  · exact offered

theorem continueCheckpoint {s : State} (z : Nat) (full : Bool) (written failed : Nat) (h : P s) :
    P (s.continueCheckpoint z full written failed) := by
  cases next : s.nextDefined z with
  | none =>
    rw [State.continueCheckpoint_end next]
    exact kept.completeCheckpoint full written failed h
  | some kr =>
    have defined := (s.mem_definedZones kr.1 kr.2).mp (List.mem_of_find?_eq_some next)
    rw [State.continueCheckpoint_next next]
    exact kept.checkpoint _ (by rintro _ ⟨⟩; exact .account defined) h

theorem beginCheckpoint {s : State} (h : P s) : P s.beginCheckpoint := by
  unfold State.beginCheckpoint
  split
  · exact h
  · split
    · exact kept.beginConfigWrite false h
    · exact kept.continueCheckpoint 0 false 0 0 h

theorem beginRestart {s : State} (h : P s) : P s.beginRestart := by
  have dropped := kept.writes (.foldl (fun _ l => State.dropEnrolment_writes l) lineNumbers s) h
  unfold State.beginRestart
  dsimp only
  split
  · exact kept.aside (by constructor <;> rfl) dropped
  · exact kept.beginConfigWrite true (kept.aside (by constructor <;> rfl) dropped)

theorem endWrite {s : State} (agrees : Bool) (h : P s) : P (s.endWrite agrees) := by
  unfold State.endWrite
  split
  · next cp writing =>
    refine kept.continueCheckpoint _ _ _ _ ?_
    have stored := kept.put agrees writing h
    split
    · exact stored
    · exact kept.writes (.trans (.offer _ _ _) (.configChanged _ _)) stored
  · exact h

/-- The store as a stop leaves it. -/
theorem torn {s : State} (h : P s) :
    P { s with store := match s.checkpoint with
                        | some c => s.store.put c.writing false
                        | none => s.store } := by
  split
  · next cp writing => exact kept.put false writing h
  · exact h

theorem stop {s : State} (powered resetLow alarm : Bool) (off : (powered && !resetLow) = false) (h : P s) :
    P { s.stop with powered, resetLow, alarm } := by
  have stopped := kept.quiet (kept.still powered resetLow alarm off (kept.checkpoint none (by rintro _ ⟨⟩) (kept.torn h)))
  refine kept.aside ?_ stopped
  constructor
  case notices => exact List.nil_sublist _
  all_goals rfl

theorem cutWrite {s : State} (h : P s) : P s.cutWrite := by
  unfold State.cutWrite
  split
  · exact h
  · next cp writing =>
    have stored : P { s with store := if Config.writtenAtRestart s.freeIx then s.store.put cp.writing true else s.store } := by
      split
      · exact kept.put true writing h
      · exact h
    exact kept.aside (State.useFree_aside _) (kept.checkpoint none (by rintro _ ⟨⟩) stored)

/-- Where every command keeps `Q`, every command keeps the two. -/
theorem keeps (background : Keeps K S Q) : Keeps K S fun s => Q s ∧ P s where
  aside a h := ⟨background.aside a h.1, kept.aside a h.2⟩
  asked admitted asked h := by
    refine ⟨background.asked admitted asked h.1, ?_⟩
    refine asked.cases (w := w) (fun asks => kept.right asks h.1) (fun watched => kept.doses watched admitted)
      (fun written => kept.writes written h.2) (fun v => ?_) (fun z d asks => ?_) (fun r => ?_)
      (kept.beginCheckpoint h.2) (kept.beginRestart h.2)
    · exact kept.aside (by constructor <;> rfl) (kept.clock v h.2)
    · exact kept.writes (.configChanged _ _) (kept.defineZone z d asks h.1 h.2)
    · exact kept.writes (.configChanged _ _) (kept.report r h.2)
  work works h := by
    refine ⟨background.work works h.1, ?_⟩
    refine work_cases (w := w) works (fun idle => kept.idle idle h.2) (fun asks => kept.right asks h.1)
      (fun written => kept.writes written h.2) ?_ (fun z asks => kept.climateReview z asks h.1 h.2) (kept.pulse h.2) ?_
    · exact kept.clock _ (kept.aside (by constructor <;> rfl) h.2)
    · unfold State.checkpointTimerExpiry
      split
      · exact kept.beginCheckpoint (kept.aside (by constructor <;> rfl) h.2)
      · exact h.2
  endWrite agrees h := ⟨background.endWrite agrees h.1, kept.endWrite agrees h.2⟩
  stop powered resetLow alarm off h := ⟨background.stop powered resetLow alarm off h.1, kept.stop powered resetLow alarm off h.2⟩
  still powered resetLow alarm off h :=
    ⟨background.still powered resetLow alarm off h.1, kept.still powered resetLow alarm off h.2⟩
  cut starts h := ⟨background.cut starts h.1, kept.cutWrite h.2⟩
  start cause sense starts h store pending :=
    ⟨background.start cause sense starts h.1 store pending, kept.start cause sense starts h.2 store pending⟩

/-- What is kept without anything beside it, every step keeps. -/
theorem alone (free : ∀ s, Q s) : Keeps K S P :=
  have beside : Keeps K S Q := by constructor <;> intros <;> exact free _
  have both := kept.keeps beside
  { aside := fun a h => (both.aside a ⟨free _, h⟩).2
    asked := fun admitted asked h => (both.asked admitted asked ⟨free _, h⟩).2
    work := fun works h => (both.work works ⟨free _, h⟩).2
    endWrite := fun agrees h => (both.endWrite agrees ⟨free _, h⟩).2
    stop := fun powered resetLow alarm off h => (both.stop powered resetLow alarm off ⟨free _, h⟩).2
    still := fun powered resetLow alarm off h => (both.still powered resetLow alarm off ⟨free _, h⟩).2
    cut := fun starts h => (both.cut starts ⟨free _, h⟩).2
    start := fun cause sense starts h store pending => (both.start cause sense starts ⟨free _, h⟩ store pending).2 }

end Kept

end Sys2Proof.Machine
end

section
/-! PROOFS. The invariants that read the records of the part alone: the accounts, the queues of the lines, the histories and the device
tables (O28, O34, O44, O53), and the used dose of a zone (O27). -/

namespace Sys2Proof.Machine

/-! ## What a chain of writes keeps of every zone and of every line -/

section
variable {w : Watch} {s t : State}

theorem State.zone?_congr (h : t.zones = s.zones) (z : Nat) : t.zone? z = s.zone? z := by rw [State.zone?, h, State.zone?]

theorem State.line?_congr (h : t.lines = s.lines) (l : Nat) : t.line? l = s.line? l := by rw [State.line?, h, State.line?]

/-- A property of zones that holds where one zone has been written. -/
theorem State.forall_putZone {G : Nat → Zone → Prop} {z : Nat} {r : Zone} (all : ∀ k x, s.zone? k = some x → G k x)
    (written : G z r) (k : Nat) (x : Zone) (hx : (s.putZone z r).zone? k = some x) : G k x := by
  by_cases same : k = z
  · subst same
    have valid := State.zone?_valid hx
    rw [State.zone?_putZone_same r valid.1 valid.2] at hx
    cases hx
    exact written
  · rw [State.zone?_putZone_ne s r same] at hx
    exact all k x hx

theorem State.forall_putLine {G : Nat → Line → Prop} {l : Nat} {r r' : Line} (hr : s.line? l = some r)
    (all : ∀ k x, s.line? k = some x → G k x) (written : G l r') (k : Nat) (x : Line)
    (hx : (s.putLine l r').line? k = some x) : G k x := by
  by_cases same : k = l
  · subst same
    rw [State.line?_putLine r' hr] at hx
    cases hx
    exact written
  · rw [State.line?_putLine_ne s r' same] at hx
    exact all k x hx

/-- What holds of every zone, is kept by steady writes, whatever the marks, and holds of a zone just created. -/
theorem Writes.allZones {G : Nat → Zone → Prop} (steady : ∀ z r r', r.Steady w r' → G z r → G z r')
    (marks : ∀ z r ms, G z r → G z { r with marks := ms })
    (new : ∀ z r, r.account.inRange → r.historyRight s.clock → G z r) (h : Writes w s t)
    (all : ∀ z r, s.zone? z = some r → G z r) : ∀ z r, t.zone? z = some r → G z r := by
  induction h with
  | refl => exact all
  | whole _ _ ih => exact ih (fun z r r' st => steady z r r' ⟨st.marks, st.account, st.doses, st.history, st.asks⟩) new all
  | trans first _ ih ih' => exact ih' steady (by rw [first.clock]; exact new) (ih steady new all)
  | zone hr st => exact State.forall_putZone all (steady _ _ _ st (all _ _ hr))
  | newZone _ _ inRange history _ => exact State.forall_putZone all (new _ _ inRange history)
  | marks ms hr =>
    intro k x hx
    rw [State.zone?_congr (State.followAlarm_zones _)] at hx
    exact State.forall_putZone all (marks _ _ ms (all _ _ hr)) k x hx
  | bank | plant | newPlant | line | devices | configChanged => exact all
  | plantFollowed | lineFollowed | followAlarm | offer =>
    intro k x hx
    exact all k x (by simpa only [State.zone?, State.followAlarm_zones, State.offer_zones, State.putPlant, State.putLine] using hx)

/-- What holds of every line and is kept by tidy writes. -/
theorem Writes.allLines {G : Nat → Line → Prop} (tidy : ∀ l r r', r.Tidy r' → G l r → G l r') (h : Writes w s t)
    (all : ∀ l r, s.line? l = some r → G l r) : ∀ l r, t.line? l = some r → G l r := by
  induction h with
  | refl => exact all
  | whole _ _ ih => exact ih all
  | trans _ _ ih ih' => exact ih' (ih all)
  | line hr st => exact State.forall_putLine hr all (tidy _ _ _ st.toTidy (all _ _ hr))
  | lineFollowed hr st =>
    intro k x hx
    rw [State.line?_congr (State.followAlarm_lines _)] at hx
    exact State.forall_putLine hr all (tidy _ _ _ st (all _ _ hr)) k x hx
  | zone | newZone | bank | plant | newPlant | devices | configChanged => exact all
  | marks | plantFollowed | followAlarm | offer =>
    intro k x hx
    exact all k x (by simpa only [State.line?, State.followAlarm_lines, State.offer_lines, State.putZone, State.putPlant] using hx)

/-- A chain of writes leads from a device table that is admitted to one that is. -/
theorem Writes.table (h : Writes w s t) (admitted : TableAdmitted (storedDevices s.devices)) :
    TableAdmitted (storedDevices t.devices) := by
  induction h with
  | refl => exact admitted
  | whole _ _ ih => exact ih admitted
  | trans _ _ ih ih' => exact ih' (ih admitted)
  | devices table => exact table admitted
  | zone | newZone | bank | plant | newPlant | line | configChanged => exact admitted
  | marks | plantFollowed | lineFollowed | followAlarm => rw [State.followAlarm_devices]; exact admitted
  | offer => rw [State.offer_devices]; exact admitted

/-- A start keeps what the loading of the store gives and the writes of the blocks keep. -/
theorem State.startSequence_kept {P : State → Prop} (writes : ∀ {s t}, Writes w s t → P s → P t) {s : State} {sense : TermSense}
    (cause : StartCause) (loaded : P (s.load sense)) : P (s.startSequence cause sense) := by
  obtain ⟨t, first, rest⟩ := s.startSequence_writes (w := w) cause sense
  exact writes rest (writes (.followAlarm t) (writes first loaded))

/-! ## What the settings and the clock leave -/

theorem State.setReport_frame (s : State) (r : ReportSettings) :
    s.setReport r = { s with notices := (s.setReport r).notices, report := (s.setReport r).report
                             alarm := (s.setReport r).alarm, pulsing := (s.setReport r).pulsing } := by
  unfold State.setReport
  dsimp only
  split <;> first | rfl | (rw [State.followAlarm_frame])

theorem State.endAlarmPulse_frame (s : State) :
    s.endAlarmPulse = { s with alarm := s.endAlarmPulse.alarm, pulsing := s.endAlarmPulse.pulsing } := by
  unfold State.endAlarmPulse
  split <;> rfl

end

/-! ## Invariants of the records -/

/-- The two states hold the same records. -/
structure SameRecords (s t : State) : Prop where
  zones : t.zones = s.zones
  plants : t.plants = s.plants
  lines : t.lines = s.lines
  devices : t.devices = s.devices
  clock : t.clock = s.clock
  store : t.store = s.store
  checkpoint : t.checkpoint = s.checkpoint

/-- The property reads the records alone, and is kept by the writes of the blocks, the clock, the checkpoint and the start. -/
structure KeptRecords (grow : Prop) (K : Byte → Prop) (S : Prop) (P : State → Prop) : Prop where
  congr : ∀ {s t}, SameRecords s t → P s → P t
  doses : ∀ {kind}, grow → K kind → kind ≠ 0x0A ∧ kind ≠ 0x0D
  writes : ∀ {s t}, Writes ⟨False, False, grow, False⟩ s t → P s → P t
  clock : ∀ {s} v, P s → P (s.moveClock v)
  checkpoint : ∀ {s} c, (∀ cp, c = some cp → s.Writable cp.writing) → P s → P { s with checkpoint := c }
  put : ∀ {s cp} good, s.checkpoint = some cp → P s → P { s with store := s.store.put cp.writing good }
  load : ∀ {s u : State} sense, S → P s → u.store = s.store → P (u.load sense)

theorem KeptRecords.keeps {grow S : Prop} {K : Byte → Prop} {P : State → Prop} (kept : KeptRecords grow K S P) :
    Keeps K S P := by
  refine Kept.alone (w := ⟨False, False, grow, False⟩) (Q := fun _ => True) ?_ fun _ => trivial
  exact {
    idle := False.elim, right := False.elim, doses := kept.doses, writes := kept.writes
    defineZone := fun _ _ => False.elim, climateReview := fun _ => False.elim
    clock := kept.clock, checkpoint := kept.checkpoint, put := kept.put
    aside := fun a => kept.congr ⟨a.zones, a.plants, a.lines, a.devices, a.clock, a.store, a.checkpoint⟩
    report := fun r => kept.congr (by rw [State.setReport_frame]; constructor <;> rfl)
    pulse := kept.congr (by rw [State.endAlarmPulse_frame]; constructor <;> rfl)
    still := fun _ _ _ _ => kept.congr (by constructor <;> rfl)
    quiet := kept.congr (by constructor <;> rfl)
    start := fun cause sense starts h same _ => State.startSequence_kept kept.writes cause (kept.load sense starts h same) }

/-! ## The store as a start finds it -/

section
variable {s : State} {sense : TermSense}

/-- A zone after a start is a stored zone started, from the account record that the store holds of it, if any. -/
theorem State.load_zone? {z : Nat} {r : Zone} (h : (s.load sense).zone? z = some r) :
    ∃ st a, r = StoredZone.started st a (s.load sense).clock s.now
      ∧ ∀ x, a = some x → slot? s.store.accounts z = some (some x) := by
  have valid := State.zone?_valid h
  simp only [State.zone?, State.load, slot?_tableOf, valid, and_self, if_true, Option.join_some, Option.map_eq_some_iff] at h
  obtain ⟨st, defined, rfl⟩ := h
  refine ⟨st, _, rfl, fun x hx => ?_⟩
  split at hx
  · exact Option.join_eq_some_iff.mp hx
  · cases hx

theorem State.load_account {z : Nat} {a : AccountRecord} (h : slot? (s.load sense).store.accounts z = some (some a)) :
    slot? s.store.accounts z = some (some a) := by
  simp only [State.load, slot?_tableOf] at h
  split at h
  · split at h
    · exact Option.join_eq_some_iff.mp (Option.some.inj h)
    · cases h
  · cases h

theorem State.load_line? {l : Nat} {r : Line} (h : (s.load sense).line? l = some r) :
    ∃ sensed limit, r = Line.started sensed limit := by
  simp only [State.line?, State.load, slot?_tableOf] at h
  split at h
  · cases h
    exact ⟨_, _, rfl⟩
  · cases h

end

/-! ## Accounts (O28) -/

theorem slot?_slotSet {α : Type} {n : Nat} {v : Vector α n} {k j : Nat} {a x : α} (h : slot? (slotSet v k a) j = some x) :
    x = a ∨ slot? v j = some x := by
  by_cases same : j = k
  · subst same
    have valid := (slot?_isSome (slotSet v j a) j).mp (by rw [h]; rfl)
    rw [slot?_slotSet_same v a valid.1 valid.2] at h
    exact .inl (Option.some.inj h).symm
  · rw [slot?_slotSet_ne v a same] at h
    exact .inr h

theorem accountsInRange_kept {grow S : Prop} {K : Byte → Prop} (doses : ∀ {kind}, grow → K kind → kind ≠ 0x0A ∧ kind ≠ 0x0D) :
    KeptRecords grow K S State.accountsInRange where
  congr same h := by
    obtain ⟨zones, stored, writing⟩ := h
    refine ⟨fun z r hr => zones z r ?_, fun z a ha => stored z a ?_, fun cp z a hcp ha => writing cp z a ?_ ha⟩
    · rw [← State.zone?_congr same.zones]; exact hr
    · rw [← same.store]; exact ha
    · rw [← same.checkpoint]; exact hcp
  doses := doses
  writes h inRange := by
    obtain ⟨zones, stored, writing⟩ := inRange
    refine ⟨?_, by rw [h.store]; exact stored, by rw [h.checkpoint]; exact writing⟩
    exact h.allZones (G := fun _ r => r.account.inRange) (fun _ _ _ steady => steady.account) (fun _ _ _ => id)
      (fun _ _ inRange _ => inRange) zones
  clock {s} v h := by
    obtain ⟨zones, stored, writing⟩ := h
    rw [State.accountsInRange, State.moveClock_frame]
    refine ⟨fun z r hr => ?_, stored, writing⟩
    obtain ⟨x, hx, rfl⟩ := Option.map_eq_some_iff.mp ((s.moveClock_zone? v z).symm.trans hr)
    have inRange := zones z x hx
    split <;> exact inRange
  checkpoint c writable h := by
    obtain ⟨zones, stored, -⟩ := h
    refine ⟨zones, stored, fun cp z a hcp ha => ?_⟩
    have written := writable cp hcp
    rw [ha] at written
    cases written with
    | account hr => exact zones _ _ hr
  put {s cp} good writing h := by
    obtain ⟨zones, stored, flight⟩ := h
    refine ⟨zones, fun z a ha => ?_, flight⟩
    cases is : cp.writing with
    | config c => rw [is] at ha; exact stored z a ha
    | account k x =>
      rw [is] at ha
      rcases slot?_slotSet ha with new | old
      · cases good
        · cases new
        · cases new; exact flight cp k a writing is
      · exact stored z a old
  load {s u} sense _ h same := by
    obtain ⟨-, stored, -⟩ := h
    rw [← same] at stored
    refine ⟨fun z r hr => ?_, fun z a ha => stored z a (State.load_account ha), by rintro _ _ _ ⟨⟩⟩
    obtain ⟨st, a, rfl, found⟩ := State.load_zone? hr
    cases a with
    | none => exact Account.empty_inRange
    | some x => exact stored z x (found x rfl)

/-! ## Queues (O34) -/

theorem queuesCoalesced_kept : KeptRecords False (fun _ => True) True State.queuesCoalesced where
  congr same h := fun l r hr => h l r (by rw [← State.line?_congr same.lines]; exact hr)
  doses := False.elim
  writes h := h.allLines (G := fun _ r => (r.queue.map Command.address).Nodup) fun _ _ _ tidy => tidy.queue
  clock v h := by rw [State.queuesCoalesced, State.moveClock_frame]; exact h
  checkpoint _ _ h := h
  put _ _ h := h
  load sense _ _ _ := by
    intro l r hr
    obtain ⟨sensed, limit, rfl⟩ := State.load_line? hr
    exact List.nodup_nil

/-! ## Device tables (O53) -/

theorem tablesAdmitted_kept : KeptRecords False (fun _ => True) True State.tablesAdmitted where
  congr {s t} same h := by
    obtain ⟨now, stored, writing⟩ := h
    refine ⟨?_, by rw [same.store]; exact stored, by rw [same.checkpoint]; exact writing⟩
    show TableAdmitted (storedDevices t.devices)
    rw [same.devices]
    exact now
  doses := False.elim
  writes h admitted := by
    obtain ⟨now, stored, writing⟩ := admitted
    exact ⟨h.table now, by rw [h.store]; exact stored, by rw [h.checkpoint]; exact writing⟩
  clock v h := by rw [State.tablesAdmitted, State.moveClock_frame]; exact h
  checkpoint c writable h := by
    obtain ⟨now, stored, -⟩ := h
    refine ⟨now, stored, fun cp conf hcp hc => ?_⟩
    have written := writable cp hcp
    rw [hc] at written
    cases written with
    | config => exact now
  put {s cp} good writing h := by
    obtain ⟨now, stored, flight⟩ := h
    refine ⟨now, fun conf hc => ?_, flight⟩
    cases is : cp.writing with
    | config c =>
      rw [is] at hc
      cases good <;> cases hc
      exact flight cp conf writing is
    | account k x => rw [is] at hc; exact stored conf hc
  load {s u} sense _ h same := by
    obtain ⟨-, stored, -⟩ := h
    rw [← same] at stored
    refine ⟨?_, stored, by rintro _ _ ⟨⟩⟩
    have enrolled (ds : List StoredDevice) : storedDevices (ds.map fun d => Device.enrolled d.line d.address d.kind) = ds := by
      rw [storedDevices, List.map_map]
      exact List.map_id ds
    show TableAdmitted (storedDevices (((u.store.config.map (·.config)).getD Configuration.lost).devices.map
      fun d => Device.enrolled d.line d.address d.kind))
    rw [enrolled]
    cases found : u.store.config with
    | none => exact ⟨by decide, .nil, fun _ => Nat.zero_le _⟩
    | some c => exact stored c found

/-! ## Histories (O44) -/

theorem rolloversLead_append {h last next : Nat} {os : List Rollover} (lead : rolloversLead h os last) (other : last ≠ next) :
    rolloversLead h (os ++ [⟨last, next⟩]) next := by
  induction os generalizing h with
  | nil => exact ⟨lead.symm, other, rfl⟩
  | cons o os ih => exact ⟨lead.1, lead.2.1, ih lead.2.2⟩

/-- The zone is told of the change of the hour, and its history is right of the clock as it then stands. -/
theorem Zone.historyRight_rolled {r : Zone} {clock v : Nat} (h : r.historyRight clock) (other : clock / 3600 ≠ v / 3600) :
    Zone.historyRight { r with rollovers := r.rollovers ++ [⟨clock / 3600, v / 3600⟩] } v := by
  obtain ⟨trim, order, window, lead⟩ := h
  exact ⟨trim, order, window, rolloversLead_append lead other⟩

theorem StoredZone.started_historyRight (st : StoredZone) (a : Option AccountRecord) (clock now : Nat) :
    (st.started a clock now).historyRight clock :=
  ⟨le_rfl, List.Pairwise.nil, by rintro _ ⟨⟩, rfl⟩

theorem historiesRight_kept : KeptRecords False (fun _ => True) True State.historiesRight where
  congr same h := fun z r hr => by
    rw [same.clock]
    exact h z r (by rw [← State.zone?_congr same.zones]; exact hr)
  doses := False.elim
  writes {s t} h right := by
    unfold State.historiesRight
    rw [h.clock]
    exact h.allZones (G := fun _ r => r.historyRight s.clock) (fun _ _ _ steady => steady.history _) (fun _ _ _ => id)
      (fun _ _ _ history => history) right
  clock {s} v h := by
    intro z r hr
    rw [State.moveClock_zone?] at hr
    obtain ⟨x, hx, rfl⟩ := Option.map_eq_some_iff.mp hr
    rw [State.moveClock_clock]
    have right := h z x hx
    split
    · next hour =>
      have same : hourOf v = hourOf s.clock := hour.symm
      rw [Zone.historyRight, same]
      exact right
    · next hour => exact Zone.historyRight_rolled right hour
  checkpoint _ _ h := h
  put _ _ h := h
  load sense _ _ _ := by
    intro z r hr
    obtain ⟨st, a, rfl, -⟩ := State.load_zone? hr
    exact StoredZone.started_historyRight _ _ _ _

/-! ## The used dose of a zone (O27) -/

/-- Every account lies in its ranges, and the zone is defined with at least this used dose. -/
def State.doseAtLeast (z n : Nat) (s : State) : Prop := s.accountsInRange ∧ ∃ r, s.zone? z = some r ∧ n ≤ r.account.dose

/-- Where one defined zone has been written, a zone that had a property has it still, if the write keeps it. -/
theorem State.exists_putZone {s : State} {G : Zone → Prop} {z k : Nat} {x x' : Zone} (hx : s.zone? k = some x)
    (keeps : G x → G x') (h : ∃ r, s.zone? z = some r ∧ G r) : ∃ r, (s.putZone k x').zone? z = some r ∧ G r := by
  obtain ⟨r, hr, holds⟩ := h
  by_cases same : z = k
  · subst same
    cases hx.symm.trans hr
    exact ⟨x', State.zone?_putZone x' hx, keeps holds⟩
  · exact ⟨r, (State.zone?_putZone_ne s x' same).trans hr, holds⟩

/-- What holds of a defined zone, and is kept by steady writes whatever the marks, holds of it after a chain of writes. -/
theorem Writes.oneZone {w : Watch} {s t : State} {G : Zone → Prop} (h : Writes w s t)
    (steady : ∀ r r', r.Steady w r' → G r → G r') (marks : ∀ r ms, G r → G { r with marks := ms }) {z : Nat}
    (holds : ∃ r, s.zone? z = some r ∧ G r) : ∃ r, t.zone? z = some r ∧ G r := by
  induction h with
  | refl => exact holds
  | whole _ _ ih => exact ih (fun r r' st => steady r r' ⟨st.marks, st.account, st.doses, st.history, st.asks⟩) holds
  | trans _ _ ih ih' => exact ih' steady (ih steady holds)
  | zone hr st => exact State.exists_putZone hr (steady _ _ st) holds
  | newZone unset =>
    obtain ⟨r, hr, is⟩ := holds
    refine ⟨r, (State.zone?_putZone_ne _ _ fun same => ?_).trans hr, is⟩
    rw [same, unset] at hr
    cases hr
  | marks ms hr =>
    simp only [State.zone?_congr (State.followAlarm_zones _)]
    exact State.exists_putZone hr (marks _ ms) holds
  | bank | plant | newPlant | line | devices | configChanged => exact holds
  | plantFollowed | lineFollowed | followAlarm | offer =>
    simpa only [State.zone?, State.followAlarm_zones, State.offer_zones, State.putPlant, State.putLine] using holds

/-- No used dose decreases in a chain of writes that is watched for it. -/
theorem Writes.dose {w : Watch} {s t : State} (h : Writes w s t) (watched : w.doses) {z n : Nat}
    (least : ∃ r, s.zone? z = some r ∧ r.account.inRange ∧ n ≤ r.account.dose) :
    ∃ r, t.zone? z = some r ∧ r.account.inRange ∧ n ≤ r.account.dose :=
  h.oneZone (G := fun r => r.account.inRange ∧ n ≤ r.account.dose)
    (fun _ _ st is => ⟨st.account is.1, is.2.trans (st.doses watched is.1)⟩) (fun _ _ => id) least

theorem doseAtLeast_kept (z n : Nat) :
    KeptRecords True (fun kind => kind ≠ 0x0A ∧ kind ≠ 0x0D) False (State.doseAtLeast z n) :=
  have ranges := accountsInRange_kept (grow := True) (S := False) (K := fun kind => kind ≠ 0x0A ∧ kind ≠ 0x0D) fun _ => id
  { congr := fun same h => ⟨ranges.congr same h.1, by simpa only [State.zone?_congr same.zones] using h.2⟩
    doses := fun _ => id
    writes := fun h least => by
      obtain ⟨inRange, r, hr, dose⟩ := least
      obtain ⟨r', hr', -, dose'⟩ := h.dose trivial ⟨r, hr, inRange.1 _ _ hr, dose⟩
      exact ⟨ranges.writes h inRange, r', hr', dose'⟩
    clock := fun v h => by
      obtain ⟨inRange, r, hr, dose⟩ := h
      refine ⟨ranges.clock v inRange, _, (State.moveClock_zone? _ v z).trans (congrArg _ hr), ?_⟩
      split <;> exact dose
    checkpoint := fun c writable h => ⟨ranges.checkpoint c writable h.1, h.2⟩
    put := fun good writing h => ⟨ranges.put good writing h.1, h.2⟩
    load := fun _ => False.elim }

end Sys2Proof.Machine

namespace Sys2Proof.Proofs

open Sys2Proof Sys2Proof.Machine

/-- Settles O28: what every piece of a command keeps of the accounts, every step keeps. -/
theorem accountsStayInRange : Obligations.AccountsStayInRange :=
  fun _ _ inRange ran => (accountsInRange_kept (grow := False) False.elim).keeps.step (fun _ _ h => h) inRange ran

/-- Settles O34: the queue of a line takes a command in place of the one for its actuator. -/
theorem queuesStayCoalesced : Obligations.QueuesStayCoalesced :=
  fun _ _ coalesced ran => queuesCoalesced_kept.keeps.step (fun _ _ h => h) coalesced ran

/-- Settles O44: trim counts and histories are written by the climate tracker, the rollovers of a zone by the clock. -/
theorem historiesStayRight : Obligations.HistoriesStayRight :=
  fun _ _ right ran => historiesRight_kept.keeps.step (fun _ _ h => h) right ran

/-- Settles O53: entries join the table in their place and while it has room. -/
theorem tablesStayAdmitted : Obligations.TablesStayAdmitted :=
  fun _ _ admitted ran => tablesAdmitted_kept.keeps.step (fun _ _ h => h) admitted ran

/-- Settles O27: of the pieces of a command only a start and the two requests named write a lesser dose. -/
theorem doseDecreasesOnlyThrough : Obligations.DoseDecreasesOnlyThrough := by
  intro c s t z r inRange ran hr none admitted notOn notReleased
  have least : s.doseAtLeast z r.account.dose := ⟨inRange, r, hr, le_rfl⟩
  exact ((doseAtLeast_kept z r.account.dose).keeps.exec ran admitted (.inr ⟨none, notOn, notReleased⟩) least).2

end Sys2Proof.Proofs
end

section
/-! PROOFS. The alarm line in LEVEL mode (O56): which writes the conditions of R155 read, and that the line follows them. -/

namespace Sys2Proof.Machine

/-! ## The conditions (R155) -/

/-- The marks of a zone; an UNSET zone has none. -/
def State.marksOf (s : State) (z : Nat) : List Mark := ((s.zone? z).map (·.marks)).getD []

def State.lineDown (s : State) (l : Nat) : Bool := (s.line? l).any fun r => r.state == .disabled

def State.plantDown (s : State) (p : Nat) : Bool := (s.plant? p).any fun r => r.state == .faulted

theorem State.markAlarm_eq (s : State) :
    s.markAlarm = zoneNumbers.any fun z => (s.marksOf z).any fun m => s.report.alarmLevel ≤ m.level := by
  unfold State.markAlarm State.definedZones
  rw [List.any_filterMap]
  congr 1
  funext z
  unfold State.marksOf
  cases s.zone? z <;> rfl

/-- The conditions read the alarm level, the marks of the zones, and which lines and plants are down. -/
theorem State.alarmCondition_of {s t : State} (report : t.report = s.report) (lines : ∀ l, t.lineDown l = s.lineDown l)
    (plants : ∀ p, t.plantDown p = s.plantDown p) (marks : ∀ z, t.marksOf z = s.marksOf z) :
    t.alarmCondition = s.alarmCondition := by
  have lineAlarm (u : State) : u.lineAlarm = lineNumbers.any u.lineDown := rfl
  have plantAlarm (u : State) : u.plantAlarm = plantNumbers.any u.plantDown := rfl
  simp only [State.alarmCondition, State.markAlarm_eq, lineAlarm, plantAlarm, report, funext lines, funext plants, marks]

theorem markLevel_eq (m : Mark) : markLevel m = m.level := by cases m <;> rfl

theorem mem_zoneNumbers {s : State} {z : Nat} {r : Zone} (h : s.zone? z = some r) : z ∈ zoneNumbers := by
  have := State.zone?_valid h
  simp only [zoneNumbers, List.mem_range'_1]
  omega

theorem mem_lineNumbers {s : State} {l : Nat} {r : Line} (h : s.line? l = some r) : l ∈ lineNumbers := by
  have := State.line?_valid h
  obtain rfl | rfl : l = 1 ∨ l = 2 := by omega
  all_goals decide

theorem mem_plantNumbers {s : State} {p : Nat} {r : Plant} (h : s.plant? p = some r) : p ∈ plantNumbers := by
  have := State.plant?_valid h
  obtain rfl | rfl : p = 1 ∨ p = 2 := by omega
  all_goals decide

theorem State.lineAlarm_iff (s : State) : s.lineAlarm = true ↔ ∃ l r, s.line? l = some r ∧ r.state = .disabled := by
  simp only [State.lineAlarm, List.any_eq_true, Option.any_eq_true, beq_iff_eq]
  exact ⟨fun ⟨l, _, r, hr, down⟩ => ⟨l, r, hr, down⟩, fun ⟨l, r, hr, down⟩ => ⟨l, mem_lineNumbers hr, r, hr, down⟩⟩

theorem State.plantAlarm_iff (s : State) : s.plantAlarm = true ↔ ∃ p r, s.plant? p = some r ∧ r.state = .faulted := by
  simp only [State.plantAlarm, List.any_eq_true, Option.any_eq_true, beq_iff_eq]
  exact ⟨fun ⟨p, _, r, hr, down⟩ => ⟨p, r, hr, down⟩, fun ⟨p, r, hr, down⟩ => ⟨p, mem_plantNumbers hr, r, hr, down⟩⟩

theorem State.markAlarm_iff (s : State) :
    s.markAlarm = true ↔ ∃ z r m, s.zone? z = some r ∧ m ∈ r.marks ∧ s.report.alarmLevel ≤ markLevel m := by
  simp only [State.markAlarm, List.any_eq_true, decide_eq_true_eq, Prod.exists, State.mem_definedZones, markLevel_eq]
  exact ⟨fun ⟨z, r, hr, m, hm, at_least⟩ => ⟨z, r, m, hr, hm, at_least⟩,
    fun ⟨z, r, m, hr, hm, at_least⟩ => ⟨z, r, hr, m, hm, at_least⟩⟩

theorem State.alarmCondition_iff (s : State) : s.alarmCondition = true ↔
    (∃ z r m, s.zone? z = some r ∧ m ∈ r.marks ∧ s.report.alarmLevel ≤ markLevel m)
    ∨ (s.report.alarmLevel ≤ 6
      ∧ ((∃ l r, s.line? l = some r ∧ r.state = .disabled) ∨ ∃ p r, s.plant? p = some r ∧ r.state = .faulted)) := by
  rw [State.alarmCondition, Bool.or_eq_true, Bool.and_eq_true, Bool.or_eq_true, decide_eq_true_eq, State.markAlarm_iff,
    State.lineAlarm_iff, State.plantAlarm_iff]

/-! ## What single writes do to the conditions -/

section
variable {s : State}

theorem State.marksOf_putZone {z : Nat} {r : Zone} (h : r.marks = s.marksOf z) (k : Nat) :
    (s.putZone z r).marksOf k = s.marksOf k := by
  by_cases same : k = z
  · subst same
    cases hx : (s.putZone k r).zone? k with
    | none =>
      have unset : s.zone? k = none := by
        cases hr : s.zone? k with
        | none => rfl
        | some x => rw [State.zone?_putZone r hr] at hx; cases hx
      simp only [State.marksOf, hx, unset]
    | some x =>
      have valid := State.zone?_valid hx
      rw [State.zone?_putZone_same r valid.1 valid.2] at hx
      cases hx
      rw [State.marksOf, State.zone?_putZone_same r valid.1 valid.2]
      exact h
  · rw [State.marksOf, State.zone?_putZone_ne s r same, State.marksOf]

theorem State.lineDown_putLine {l : Nat} {r r' : Line} (hr : s.line? l = some r)
    (h : r'.state = .disabled ↔ r.state = .disabled) (k : Nat) : (s.putLine l r').lineDown k = s.lineDown k := by
  by_cases same : k = l
  · subst same
    rw [Bool.eq_iff_iff]
    simpa only [State.lineDown, State.line?_putLine r' hr, hr, Option.any_some, beq_iff_eq] using h
  · rw [State.lineDown, State.line?_putLine_ne s r' same, State.lineDown]

theorem State.plantDown_putPlant {p : Nat} {r : Plant} (h : (r.state = .faulted) ↔ s.plantDown p = true) (k : Nat) :
    (s.putPlant p r).plantDown k = s.plantDown k := by
  by_cases same : k = p
  · subst same
    cases hx : (s.putPlant k r).plant? k with
    | none =>
      have unset : s.plant? k = none := by
        cases hr : s.plant? k with
        | none => rfl
        | some x => rw [State.plant?_putPlant r hr] at hx; cases hx
      simp only [State.plantDown, hx, unset]
    | some x =>
      have valid := State.plant?_valid hx
      rw [State.plant?_putPlant_same r valid.1 valid.2] at hx
      cases hx
      rw [Bool.eq_iff_iff, ← h, State.plantDown, State.plant?_putPlant_same r valid.1 valid.2]
      simp
  · rw [State.plantDown, State.plant?_putPlant_ne s r same, State.plantDown]

/-- The line follows the conditions. -/
theorem State.followAlarm_follows (level : s.report.mode = .level) : s.followAlarm.alarm = s.followAlarm.alarmCondition := by
  rw [State.followAlarm_level level]
  rfl

/-- The alarm line of a running part in LEVEL mode stands as the conditions do. -/
def State.alarmRight (s : State) : Prop := s.running = true → s.report.mode = .level → s.alarm = s.alarmCondition

theorem State.alarmRight.congr {t : State} (right : s.alarmRight) (running : t.running = s.running)
    (report : t.report = s.report) (alarm : t.report.mode = .level → t.alarm = s.alarm)
    (condition : t.alarmCondition = s.alarmCondition) : t.alarmRight := by
  intro runs level
  rw [alarm level, condition]
  exact right (running ▸ runs) (report ▸ level)

theorem State.followAlarm_alarmRight (t : State) : t.followAlarm.alarmRight := by
  intro _ level
  rw [State.followAlarm_report] at level
  exact State.followAlarm_follows level

theorem Writes.alarmRight {w : Watch} {s t : State} (h : Writes w s t) (idle : w.idle) (right : s.alarmRight) : t.alarmRight := by
  induction h with
  | refl => exact right
  | whole _ _ ih => exact ih idle right
  | trans _ _ ih ih' => exact ih' idle (ih idle right)
  | zone hr steady =>
    refine right.congr rfl rfl (fun _ => rfl) (State.alarmCondition_of rfl (fun _ => rfl) (fun _ => rfl) ?_)
    exact State.marksOf_putZone (by rw [State.marksOf, hr]; exact steady.marks)
  | newZone unset marks =>
    refine right.congr rfl rfl (fun _ => rfl) (State.alarmCondition_of rfl (fun _ => rfl) (fun _ => rfl) ?_)
    exact State.marksOf_putZone (by rw [State.marksOf, unset]; exact marks)
  | plant hr steady =>
    refine right.congr rfl rfl (fun _ => rfl) (State.alarmCondition_of rfl (fun _ => rfl) ?_ fun _ => rfl)
    exact State.plantDown_putPlant (by rw [State.plantDown, hr, Option.any_some, beq_iff_eq]; exact steady.faulted)
  | newPlant unset up =>
    refine right.congr rfl rfl (fun _ => rfl) (State.alarmCondition_of rfl (fun _ => rfl) ?_ fun _ => rfl)
    exact State.plantDown_putPlant (by rw [State.plantDown, unset, Option.any_none]; simp [up])
  | line hr steady =>
    refine right.congr rfl rfl (fun _ => rfl) (State.alarmCondition_of rfl ?_ (fun _ => rfl) fun _ => rfl)
    exact State.lineDown_putLine hr (steady.disabled idle)
  | bank | devices | configChanged => exact right
  | marks | plantFollowed | lineFollowed | followAlarm => exact State.followAlarm_alarmRight _
  | offer s b x =>
    refine right.congr (State.offer_blocks _ _ _).running (State.offer_report _ _ _) (fun level => ?_) ?_
    · exact (State.offer_level b x (by rwa [State.offer_report] at level)).1
    · refine State.alarmCondition_of (State.offer_report _ _ _) (fun l => ?_) (fun p => ?_) fun z => ?_
      · rw [State.lineDown, State.line?_congr (State.offer_lines _ _ _), State.lineDown]
      · rw [State.plantDown, State.plant?_congr (State.offer_plants _ _ _), State.plantDown]
      · rw [State.marksOf, State.zone?_congr (State.offer_zones _ _ _), State.marksOf]

/-- No pulse is timed in LEVEL mode. -/
def State.pulseRight (s : State) : Prop := s.report.mode = .level → s.pulsing = false

theorem Writes.pulseRight {w : Watch} {s t : State} (h : Writes w s t) (right : s.pulseRight) : t.pulseRight := by
  induction h with
  | refl => exact right
  | whole _ _ ih => exact ih right
  | trans _ _ ih ih' => exact ih' (ih right)
  | zone | newZone | bank | plant | newPlant | line | devices | configChanged => exact right
  | marks | plantFollowed | lineFollowed | followAlarm =>
    rw [State.pulseRight, State.followAlarm_report, State.followAlarm_pulsing]
    exact right
  | offer s b x =>
    intro level
    rw [State.offer_report] at level
    exact (State.offer_level b x level).2.trans (right level)

theorem Writes.downIdle {w : Watch} {s t : State} (h : Writes w s t) (idle : s.downIdle) : t.downIdle :=
  h.allLines (G := fun _ r => r.state = .disabled → r.inFlight = none) (fun _ _ _ tidy => tidy.idle) idle

theorem State.setReport_lines (s : State) (r : ReportSettings) : (s.setReport r).lines = s.lines := by
  rw [State.setReport_frame]

theorem State.setReport_alarmFollows (r : ReportSettings) (h : s.alarmFollows) : (s.setReport r).alarmFollows := by
  obtain ⟨-, pulse, idle⟩ := h
  have lines : (s.setReport r).downIdle := fun l x hx => idle l x (by rwa [State.line?_congr (s.setReport_lines r)] at hx)
  unfold State.setReport at lines ⊢
  dsimp only at lines ⊢
  split at lines <;> rename_i before after
  · refine ⟨State.followAlarm_alarmRight _, fun _ => ?_, lines⟩
    rw [State.followAlarm_pulsing]
    exact pulse before
  · exact ⟨fun _ level => (nomatch after.symm.trans level), fun _ => rfl, lines⟩
  · refine ⟨State.followAlarm_alarmRight _, fun _ => ?_, lines⟩
    rw [State.followAlarm_pulsing]
  · exact ⟨fun _ level => (nomatch after.symm.trans level), fun level => (nomatch after.symm.trans level), lines⟩

end

/-- Where the records that the conditions read stand, the alarm line is right as before. -/
theorem State.alarmFollows_of {s t : State} (running : t.running = true → s.running = true) (zones : ∀ z, t.marksOf z = s.marksOf z)
    (plants : t.plants = s.plants) (lines : t.lines = s.lines) (report : t.report = s.report) (alarm : t.running = true → t.alarm = s.alarm)
    (pulsing : t.pulsing = s.pulsing) (h : s.alarmFollows) : t.alarmFollows := by
  obtain ⟨right, pulse, idle⟩ := h
  have condition : t.alarmCondition = s.alarmCondition := by
    refine State.alarmCondition_of report (fun l => ?_) (fun p => ?_) zones
    · rw [State.lineDown, State.line?_congr lines, State.lineDown]
    · rw [State.plantDown, State.plant?_congr plants, State.plantDown]
  refine ⟨fun runs level => ?_, fun level => ?_, fun l r hr => idle l r (by rwa [State.line?_congr lines] at hr)⟩
  · rw [alarm runs, condition]
    exact right (running runs) (report ▸ level)
  · rw [pulsing]
    exact pulse (report ▸ level)

theorem alarmFollows_kept :
    Kept ⟨True, False, False, False⟩ (fun _ => True) True (fun _ => True) State.alarmFollows where
  idle _ h := h.2.2
  right := False.elim
  doses := False.elim
  defineZone _ _ := False.elim
  climateReview _ := False.elim
  aside a h := State.alarmFollows_of (fun runs => a.running ▸ runs)
    (fun z => by rw [State.marksOf, a.zone?, State.marksOf]) a.plants a.lines a.report (fun _ => a.alarm) a.pulsing h
  writes h follows := ⟨h.alarmRight trivial follows.1, h.pulseRight follows.2.1, h.downIdle follows.2.2⟩
  clock {s} v h := by
    have marks (z : Nat) : (s.moveClock v).marksOf z = s.marksOf z := by
      rw [State.marksOf, State.moveClock_zone?, Option.map_map, State.marksOf]
      cases s.zone? z with
      | none => rfl
      | some r => simp only [Option.map_some, Function.comp]; split <;> rfl
    have frame := s.moveClock_frame v
    refine State.alarmFollows_of (fun runs => ?_) marks ?_ ?_ ?_ (fun _ => ?_) ?_ h
    · rw [frame] at runs; exact runs
    all_goals rw [frame]
  report r h := State.setReport_alarmFollows r h
  pulse {s} h := by
    unfold State.endAlarmPulse
    split
    · next pulsing =>
      obtain ⟨-, pulse, idle⟩ := h
      exact ⟨fun _ level => (nomatch (pulse level).symm.trans pulsing), fun _ => rfl, idle⟩
    · exact h
  checkpoint _ _ h := h
  put _ _ h := h
  still powered resetLow alarm off h :=
    ⟨fun runs => (nomatch off.symm.trans runs), h.2.1, h.2.2⟩
  quiet h := ⟨h.1, fun _ => rfl, h.2.2⟩
  start {s u} cause sense _ _ _ _ := by
    obtain ⟨t, first, rest⟩ := u.startSequence_writes (w := ⟨True, False, False, False⟩) cause sense
    have idle : (u.load sense).downIdle := by
      intro l r hr _
      obtain ⟨sensed, limit, rfl⟩ := State.load_line? hr
      rfl
    have followed := Writes.followAlarm (w := ⟨True, False, False, False⟩) t
    have calm : (u.load sense).pulseRight := fun _ => rfl
    exact ⟨rest.alarmRight trivial t.followAlarm_alarmRight, rest.pulseRight (followed.pulseRight (first.pulseRight calm)),
      rest.downIdle (followed.downIdle (first.downIdle idle))⟩

end Sys2Proof.Machine

namespace Sys2Proof.Proofs

open Sys2Proof Sys2Proof.Machine

/-- Settles O56: a write of marks or of a state that the conditions read is followed by the alarm line. -/
theorem alarmFollowsConditions : Obligations.AlarmFollowsConditions :=
  ⟨fun _ _ follows ran => (alarmFollows_kept.alone fun _ => trivial).step (fun _ _ h => h) follows ran, State.alarmCondition_iff⟩

end Sys2Proof.Proofs
end

section
/-! PROOFS. The bounds of the queues (O57): the notice queue under an offer, the intake and the reply queue under requests and frames,
and an idle output that is fed at the end of every event. -/

namespace Sys2Proof.Machine

/-! ## The notice queue (R151 to R153) -/

theorem removeNewest_length {lvl : Nat} {q : List Notice} (h : ∃ n ∈ q, n.level = lvl) :
    (removeNewest lvl q).length + 1 = q.length := by
  induction q with
  | nil => obtain ⟨n, ⟨⟩, -⟩ := h
  | cons n q ih =>
    unfold removeNewest
    split
    · next later =>
      obtain ⟨m, hm, level⟩ := List.any_eq_true.mp later
      rw [List.length_cons, List.length_cons, ih ⟨m, hm, beq_iff_eq.mp level⟩]
    · next none =>
      obtain ⟨m, hm, level⟩ := h
      rcases List.mem_cons.mp hm with rfl | hm
      · rw [if_pos (beq_iff_eq.mpr level), List.length_cons]
      · exact absurd (List.any_eq_true.mpr ⟨m, hm, by simpa using level⟩) none

theorem removeNewest_sublist (lvl : Nat) (q : List Notice) : (removeNewest lvl q).Sublist q := by
  induction q with
  | nil => exact .refl _
  | cons n q ih =>
    unfold removeNewest
    split
    · exact ih.cons_cons n
    · split
      · exact List.sublist_cons_self n q
      · exact .refl _

theorem lowestLevel_held {q : List Notice} (h : lowestLevel q < 8) : ∃ n ∈ q, n.level = lowestLevel q := by
  induction q with
  | nil => exact absurd h (lt_irrefl 8)
  | cons n q ih =>
    rw [lowestLevel] at h ⊢
    rcases Nat.le_total n.level (lowestLevel q) with low | low
    · exact ⟨n, List.mem_cons_self, (Nat.min_eq_left low).symm⟩
    · rw [Nat.min_eq_right low] at h ⊢
      obtain ⟨m, hm, level⟩ := ih h
      exact ⟨m, List.mem_cons_of_mem n hm, level⟩

theorem enqueue_length {n : Notice} {q : List Notice} (h : q.length ≤ Config.noticeCapacity) :
    (enqueue n q).length ≤ Config.noticeCapacity := by
  unfold enqueue
  split
  · next room => rw [List.length_append]; exact room
  · split
    · next lower =>
      rw [List.length_append]
      exact (removeNewest_length (lowestLevel_held (lower.trans_le n.level_le_eight))).le.trans h
    · exact h

theorem mem_of_mem_enqueue {n m : Notice} {q : List Notice} (h : m ∈ enqueue n q) : m = n ∨ m ∈ q := by
  have last {q' : List Notice} (sub : q'.Sublist q) (h : m ∈ q' ++ [n]) : m = n ∨ m ∈ q := by
    rcases List.mem_append.mp h with old | new
    · exact .inr (sub.subset old)
    · exact .inl (List.mem_singleton.mp new)
  unfold enqueue at h
  split at h
  · exact last (.refl q) h
  · split at h
    · exact last (removeNewest_sublist _ q) h
    · exact .inr h

theorem State.offer_noticesKept {s : State} (b : NoticeBody) (x : Subject) (h : s.noticesKept) : (s.offer b x).noticesKept := by
  obtain ⟨room, floor⟩ := h
  rw [State.noticesKept, State.offer_notices, State.offer_report]
  split
  · exact ⟨room, floor⟩
  · next high =>
    refine ⟨enqueue_length room, fun n hn => ?_⟩
    rcases mem_of_mem_enqueue hn with rfl | old
    · exact Nat.le_of_not_lt high
    · exact floor n old

theorem Writes.noticesKept {w : Watch} {s t : State} (h : Writes w s t) (kept : s.noticesKept) : t.noticesKept := by
  induction h with
  | refl => exact kept
  | whole _ _ ih => exact ih kept
  | trans _ _ ih ih' => exact ih' (ih kept)
  | zone | newZone | bank | plant | newPlant | line | devices | configChanged => exact kept
  | marks | plantFollowed | lineFollowed | followAlarm =>
    rw [State.noticesKept, State.followAlarm_notices, State.followAlarm_report]
    exact kept
  | offer s b x => exact State.offer_noticesKept b x kept

theorem State.setReport_noticesKept {s : State} (r : ReportSettings) (h : s.noticesKept) : (s.setReport r).noticesKept := by
  have purged : (s.setReport r).notices = (if s.report.floor < r.floor then s.notices.filter fun n => r.floor ≤ n.level else s.notices)
      ∧ (s.setReport r).report = r := by
    unfold State.setReport
    dsimp only
    split <;> simp only [State.followAlarm_notices, State.followAlarm_report, and_self]
  obtain ⟨room, floor⟩ := h
  rw [State.noticesKept, purged.1, purged.2]
  split
  · refine ⟨(List.length_filter_le _ _).trans room, fun n hn => ?_⟩
    exact of_decide_eq_true (List.mem_filter.mp hn).2
  · next lower => exact ⟨room, fun n hn => (Nat.le_of_not_lt lower).trans (floor n hn)⟩

theorem noticesKept_kept :
    Kept ⟨False, False, False, False⟩ (fun _ => True) True (fun _ => True) State.noticesKept where
  idle := False.elim
  right := False.elim
  doses := False.elim
  defineZone _ _ := False.elim
  climateReview _ := False.elim
  aside a h := by
    obtain ⟨room, floor⟩ := h
    rw [State.noticesKept, a.report]
    exact ⟨a.notices.length_le.trans room, fun n hn => floor n (a.notices.subset hn)⟩
  writes := Writes.noticesKept
  clock {s} v h := by rw [State.noticesKept, State.moveClock_frame]; exact h
  report r h := State.setReport_noticesKept r h
  pulse {s} h := by rw [State.noticesKept, State.endAlarmPulse_frame]; exact h
  checkpoint _ _ h := h
  put _ _ h := h
  still _ _ _ _ h := h
  quiet h := h
  start cause sense _ _ _ _ :=
    State.startSequence_kept (w := ⟨False, False, False, False⟩) (P := State.noticesKept) Writes.noticesKept cause ⟨Nat.zero_le _, by rintro _ ⟨⟩⟩

/-! ## The link (R161, R164) -/

/-- The intake and the reply queue are within their bounds. -/
def State.linkHeld (s : State) : Prop :=
  s.link.intake.length ≤ Config.intakeCapacity ∧ s.link.replies.length ≤ Config.replyCapacity

/-- In a running part the output is idle only while nothing waits for it. -/
def State.fed (s : State) : Prop := s.running = true → s.link.output = none → s.link.replies = [] ∧ s.notices = []

theorem State.linkBounded_iff (s : State) : s.linkBounded ↔ s.linkHeld ∧ s.fed := and_assoc.symm

section
variable {s : State}

theorem State.linkHeld.congr {t : State} (h : s.linkHeld) (same : t.link = s.link) : t.linkHeld := by
  rw [State.linkHeld, same]
  exact h

theorem State.fed_of_stopped (h : s.running = false) : s.fed := fun runs => nomatch h.symm.trans runs

theorem State.sendReply_held (h : s.linkHeld) : s.sendReply.linkHeld := by
  obtain ⟨intake, replies⟩ := h
  unfold State.sendReply
  split
  · next f rest waits =>
    rw [waits] at replies
    exact ⟨intake, (Nat.le_succ _).trans replies⟩
  · exact ⟨intake, replies⟩

theorem State.sendNotice_held (h : s.linkHeld) : s.sendNotice.linkHeld := by
  unfold State.sendNotice
  split <;> exact h

theorem State.chooseFrame_held (h : s.linkHeld) : s.chooseFrame.linkHeld := by
  unfold State.chooseFrame
  split
  · exact State.sendNotice_held h
  · exact State.sendReply_held h

theorem State.feedOutput_held (h : s.linkHeld) : s.feedOutput.linkHeld := by
  unfold State.feedOutput
  split
  · exact h
  · split
    · exact State.chooseFrame_held h
    · split
      · exact State.sendReply_held (s := s.useFree) h
      · exact State.sendNotice_held (s := s.useFree) h

theorem State.sendReply_fed (h : s.link.replies ≠ []) : s.sendReply.fed := by
  unfold State.sendReply
  split
  · rintro - ⟨⟩
  · next none => exact absurd none h

theorem State.sendNotice_fed (h : s.notices ≠ []) : s.sendNotice.fed := by
  unfold State.sendNotice
  split
  · rintro - ⟨⟩
  · next none => exact absurd none h

theorem State.chooseFrame_fed : s.chooseFrame.fed := by
  unfold State.chooseFrame
  split
  · next empty =>
    have noReply : s.link.replies = [] := List.isEmpty_iff.mp empty
    cases waits : s.notices with
    | nil =>
      rw [State.sendNotice, waits]
      exact fun _ _ => ⟨noReply, waits⟩
    | cons n rest => exact State.sendNotice_fed (by rw [waits]; exact List.cons_ne_nil n rest)
  · next some => exact State.sendReply_fed (by simpa using some)

theorem State.feedOutput_fed : s.feedOutput.fed := by
  unfold State.feedOutput
  split
  · next busy =>
    intro _ idle
    rw [idle] at busy
    cases busy
  · split
    · exact State.chooseFrame_fed
    · next both =>
      simp only [Bool.or_eq_true, List.isEmpty_iff, not_or] at both
      split
      · exact State.sendReply_fed (s := s.useFree) both.1
      · exact State.sendNotice_fed (s := s.useFree) both.2

theorem State.feedOutput_bounded (h : s.linkHeld) : s.feedOutput.linkBounded :=
  s.feedOutput.linkBounded_iff.mpr ⟨State.feedOutput_held h, State.feedOutput_fed⟩

theorem State.handled_bounded (f : Frame) (room : s.mayTakeUp = true) (h : s.linkHeld) : (s.handled f).linkBounded := by
  obtain ⟨intake, -⟩ := h
  have left := answerTo_keepsLink f s
  have room : s.link.replies.length < Config.replyCapacity := of_decide_eq_true (Bool.and_eq_true_iff.mp room).2
  have joined {t : State} (same : t.link = s.link) (reply : Frame) : (t.queueReply reply).leaveIntake.linkHeld := by
    rw [State.linkHeld, State.leaveIntake, State.queueReply, same, List.length_tail, List.length_append]
    exact ⟨(Nat.sub_le _ 1).trans intake, room⟩
  unfold State.handled
  refine State.feedOutput_bounded ?_
  cases answered : answerTo f s with
  | refuse status => exact joined rfl _
  | reply status content after =>
    rw [answered] at left
    exact joined left _

theorem State.serve_held (now : Nat → Bool) (n : Nat) (h : s.linkHeld) : (s.serve now n).linkHeld := by
  induction n generalizing s with
  | zero => exact h
  | succ n ih =>
    unfold State.serve
    split
    · next f _ _ =>
      split
      · next room =>
        split
        · exact ih ((State.linkBounded_iff _).mp (State.handled_bounded (s := s.useFree) f room h)).1
        · exact h
      · exact h
    · exact h

theorem State.serve_fed (now : Nat → Bool) (n : Nat) (h : s.fed) : (s.serve now n).fed := by
  induction n generalizing s with
  | zero => exact h
  | succ n ih =>
    unfold State.serve
    split
    · split
      · split
        · exact ih State.feedOutput_fed
        · exact h
      · exact h
    · exact h

theorem State.serve_bounded (now : Nat → Bool) (n : Nat) (h : s.linkBounded) : (s.serve now n).linkBounded := by
  obtain ⟨held, fed⟩ := s.linkBounded_iff.mp h
  exact (State.linkBounded_iff _).mpr ⟨State.serve_held now n held, State.serve_fed now n fed⟩

theorem State.deliver_held (f : Frame) (h : s.linkHeld) : (s.deliver f).linkHeld := by
  obtain ⟨intake, replies⟩ := h
  unfold State.deliver
  split
  · next room => exact ⟨by rw [List.length_append]; exact room, replies⟩
  · split
    · next room => exact ⟨intake, by rw [State.queueReply, List.length_append]; exact room⟩
    · exact ⟨intake, replies⟩

theorem State.arrive_bounded (f : Frame) (h : s.linkHeld) : (s.arrive f).linkBounded :=
  State.feedOutput_bounded (State.serve_held _ _ (State.deliver_held f (State.serve_held _ _ h)))

theorem State.restartIfReady_link (sense : TermSense) :
    (s.restartIfReady sense).link = s.link ∨ (s.restartIfReady sense).link = Link.fresh := by
  unfold State.restartIfReady
  split
  · split
    · exact .inr (State.startSequence_link _ _ _)
    · exact .inl rfl
  · exact .inl rfl

theorem Link.fresh_held (h : s.link = Link.fresh) : s.linkHeld := by
  rw [State.linkHeld, h]
  exact ⟨Nat.zero_le _, Nat.zero_le _⟩

theorem State.restartIfReady_held (sense : TermSense) (h : s.linkHeld) : (s.restartIfReady sense).linkHeld :=
  (s.restartIfReady_link sense).elim h.congr Link.fresh_held

theorem State.frameSent_bounded (sense : TermSense) (h : s.linkBounded) : (s.frameSent sense).linkBounded := by
  have served {t : State} (held : t.linkHeld) : t.chooseFrame.serveSome.linkBounded :=
    State.serve_bounded _ _ ((State.linkBounded_iff _).mpr ⟨State.chooseFrame_held held, State.chooseFrame_fed⟩)
  have held := (s.linkBounded_iff.mp h).1
  unfold State.frameSent
  split
  · dsimp only
    split
    · exact served (State.restartIfReady_held (s := { s with link := { s.link with output := none }, restarting := _ }) sense held)
    · exact served held
  · exact h

theorem State.continueCheckpoint_link (z : Nat) (full : Bool) (written failed : Nat) :
    (s.continueCheckpoint z full written failed).link = s.link := by
  cases next : s.nextDefined z with
  | none => rw [State.continueCheckpoint_end next]; exact State.completeCheckpoint_link _ _ _ _
  | some kr => rw [State.continueCheckpoint_next next]

theorem State.endWrite_link (agrees : Bool) : (s.endWrite agrees).link = s.link := by
  unfold State.endWrite
  split
  · rw [State.continueCheckpoint_link]
    split
    · rfl
    · exact (State.offer_blocks _ _ _).link
  · rfl

theorem work_link {c : Instr} {work : State → State} (works : c.work? = some work) : (work s).link = s.link := by
  refine work_cases (w := ⟨False, False, False, False⟩) (P := fun t => t.link = s.link) works False.elim False.elim
    (fun written => written.link) ?_ (fun _ => False.elim) ?_ ?_
  · rw [State.tick, State.moveClock_frame]
  · rw [State.endAlarmPulse_frame]
  · unfold State.checkpointTimerExpiry
    split
    · exact State.beginCheckpoint_link _
    · rfl

theorem event_bounded {work : State → State} {t : State} (link : (work s).linkHeld) (ran : event work s = .next t)
    (h : s.linkBounded) : t.linkBounded := by
  unfold event at ran
  cases ran
  split
  · exact State.feedOutput_bounded link
  · exact h

theorem request_bounded {kind tag : Byte} {body : List Byte} {t : State} (ran : request kind tag body s = .next t)
    (h : s.linkBounded) : t.linkBounded := by
  have held := (s.linkBounded_iff.mp h).1
  unfold request at ran
  cases ran
  split
  · split
    · next front => exact State.handled_bounded _ (Bool.and_eq_true_iff.mp front).2 held
    · exact State.arrive_bounded _ held
  · exact h

theorem State.stopped_bounded {t : State} (link : t.linkHeld) (off : (t.powered && !t.resetLow) = false) : t.linkBounded :=
  t.linkBounded_iff.mpr ⟨link, State.fed_of_stopped off⟩

theorem State.startSequence_bounded (cause : StartCause) (sense : TermSense) :
    (s.startSequence cause sense).feedOutput.linkBounded :=
  State.feedOutput_bounded (Link.fresh_held (State.startSequence_link _ _ _))

theorem exec_bounded {c : Instr} {t : State} (ran : exec c s = .next t) (h : s.linkBounded) : t.linkBounded := by
  have held := (s.linkBounded_iff.mp h).1
  cases asks : c.request? with
  | some f =>
    rw [exec_request s asks] at ran
    exact request_bounded ran h
  | none =>
    cases works : c.work? with
    | some work =>
      rw [exec_work works] at ran
      exact event_bounded (held.congr (work_link works)) ran h
    | none =>
      cases c
      case frameReceived tag kind body =>
        cases ran
        split
        · exact State.arrive_bounded (s := { s with link := { s.link with rx := none } }) _ held
        · exact h
      case frameGapExpiry =>
        exact event_bounded (work := fun s => { s with link := { s.link with rx := none } }) held ran h
      case outputFrameSent sense =>
        cases ran
        split
        · exact State.frameSent_bounded sense h
        · exact h
      case recordWriteEnd agrees sense =>
        exact event_bounded (work := fun s => (s.endWrite agrees).restartIfReady sense)
          (State.restartIfReady_held sense (held.congr (State.endWrite_link agrees))) ran h
      case powerOn sense =>
        cases ran
        unfold State.supplyReturns
        split
        · exact h
        · dsimp only
          split
          · next low => exact State.stopped_bounded held (by simp [low])
          · exact State.startSequence_bounded _ _
      case powerFail =>
        cases ran
        unfold State.supplyFails
        split
        · exact State.stopped_bounded (Link.fresh_held rfl) rfl
        · exact h
      case resetInputAssert =>
        cases ran
        unfold State.resetAsserted
        split
        · exact h
        · split
          · exact State.stopped_bounded (Link.fresh_held rfl) (Bool.and_false _)
          · exact State.stopped_bounded held (Bool.and_false _)
      case resetInputRelease sense =>
        cases ran
        unfold State.resetReleased
        split
        · dsimp only
          split
          · exact State.startSequence_bounded _ _
          · next dark => exact State.stopped_bounded held (by simp [dark])
        · exact h
      case uartByteReceived data stop =>
        cases ran
        split
        · unfold State.receiveByte
          dsimp only
          split
          · exact State.feedOutput_bounded (s := { s with link := { s.link with rx := _ } }) held
          · exact State.arrive_bounded (s := { s with link := { s.link with rx := _ } }) _ held
        · exact h
      case unknownRequestKind kind tag body =>
        rw [exec_ignored s asks] at ran
        cases ran
        exact h
      all_goals first | (cases works; done) | cases asks

theorem step_bounded {t : State} (ran : step s = .next t) (h : s.linkBounded) : t.linkBounded := by
  unfold step at ran
  split at ran
  · cases ran
    unfold State.idle
    split
    · exact State.serve_bounded _ _ h
    · exact h
  · exact exec_bounded ran h

end

end Sys2Proof.Machine

namespace Sys2Proof.Proofs

open Sys2Proof Sys2Proof.Machine

/-- Settles O57: the notices by what every piece of a command keeps, the link by what requests, frames and events do to it. -/
theorem queuesStayBounded : Obligations.QueuesStayBounded :=
  fun _ _ notices link ran => ⟨(noticesKept_kept.alone fun _ => trivial).step (fun _ _ h => h) notices ran, step_bounded ran link⟩

end Sys2Proof.Proofs
end

section
/-! PROOFS. What is right of the plants (O39), and that the zones and the plants agree on their demands (O40). -/

namespace Sys2Proof.Machine

/-! ## What is right of the plants (O39) -/

theorem State.load_plant? {s : State} {sense : TermSense} {p : Nat} {r : Plant} (h : (s.load sense).plant? p = some r) :
    ∃ d, r = Plant.fresh d := by
  have valid := State.plant?_valid h
  simp only [State.plant?, State.load, slot?_tableOf, valid, and_self, if_true, Option.join_some, Option.map_eq_some_iff] at h
  obtain ⟨d, -, rfl⟩ := h
  exact ⟨d, rfl⟩

theorem plantsRight_kept {S : Prop} :
    Kept ⟨False, False, False, True⟩ (fun _ => True) S (fun _ => True) State.plantsRight where
  idle := False.elim
  right := False.elim
  doses := False.elim
  defineZone _ _ := False.elim
  climateReview _ := False.elim
  aside a h := State.plantsRight_congr a.plants h
  writes h := h.plantsRight trivial
  clock {s} v h := State.plantsRight_congr (by rw [State.moveClock_frame]) h
  report {s} r h := State.plantsRight_congr (by rw [State.setReport_frame]) h
  pulse {s} h := State.plantsRight_congr (by rw [State.endAlarmPulse_frame]) h
  checkpoint _ _ h := h
  put _ _ h := h
  still _ _ _ _ h := h
  quiet h := h
  start cause sense _ _ _ _ := by
    refine State.startSequence_kept (w := ⟨False, False, False, True⟩) (P := State.plantsRight) (fun h => h.plantsRight trivial) cause ?_
    intro p r hr
    obtain ⟨d, rfl⟩ := State.load_plant? hr
    exact Plant.fresh_right d

/-! ## What the demands ask (R59, R83, R87 to R89) -/

theorem Plant.numbered_asked (r : Plant) : r.numbered.asked = r.asked := by
  unfold Plant.numbered
  split
  · rw [Plant.renumber_eq, Plant.asked, Plant.demands, ← List.map_append, List.map_map]
    rfl
  · rfl

theorem Plant.accept_asked (r : Plant) (z : Nat) (duty : Duty) (level : Nat) :
    (r.accept z duty level).asked.Perm ((z, duty, level) :: r.asked) := by
  rw [← r.numbered_asked]
  unfold Plant.accept
  dsimp only
  split
  · exact ((insertDemand_perm _ _).append_right _).map Demand.asked
  · exact (((insertDemand_perm _ _).append_left _).trans List.perm_middle).map Demand.asked

/-- The demand, at a new level where it is the zone's. -/
def Demand.relevelled (z level : Nat) (d : Demand) : Demand := if d.zone == z then { d with level } else d

/-- What the demand asks, at a new level where it is the zone's. -/
def relevelled (z level : Nat) (a : Nat × Duty × Nat) : Nat × Duty × Nat := if a.1 == z then (a.1, a.2.1, level) else a

theorem relevelled_same {z level : Nat} {l : List (Nat × Duty × Nat)} (absent : z ∉ l.map (·.1)) :
    l.map (relevelled z level) = l ∧ l.filter (fun a => a.1 != z) = l := by
  have other (a : Nat × Duty × Nat) (ha : a ∈ l) : a.1 ≠ z := fun same => absent (List.mem_map.mpr ⟨a, ha, same⟩)
  refine ⟨(List.map_congr_left fun a ha => if_neg ?_).trans (List.map_id l), List.filter_eq_self.mpr fun a ha => ?_⟩
  all_goals simpa using other a ha

/-- Where each zone asks once, the zone's demand is the one that changes its level. -/
theorem relevelled_perm {z lv : Nat} {duty : Duty} {l : List (Nat × Duty × Nat)} (once : (l.map (·.1)).Nodup)
    (asks : (z, duty, lv) ∈ l) (level : Nat) :
    (l.map (relevelled z level)).Perm ((z, duty, level) :: l.filter fun a => a.1 != z) := by
  induction l with
  | nil => cases asks
  | cons a rest ih =>
    obtain ⟨new, once⟩ := List.nodup_cons.mp once
    rcases List.mem_cons.mp asks with rfl | later
    · obtain ⟨same, kept⟩ := relevelled_same (level := level) new
      rw [List.map_cons, same, List.filter_cons_of_neg (by simp), kept]
      simp [relevelled]
    · have other : a.1 ≠ z := fun same => new (List.mem_map.mpr ⟨_, later, same.symm⟩)
      rw [List.map_cons, List.filter_cons_of_pos (by simpa using other), relevelled, if_neg (by simpa using other)]
      exact ((ih once later).cons a).trans (.swap _ _ _)

theorem Demand.relevelled_asked (z level : Nat) (d : Demand) : (d.relevelled z level).asked = Machine.relevelled z level d.asked := by
  unfold Demand.relevelled Machine.relevelled
  by_cases same : d.zone = z
  · rw [if_pos (by simpa using same), if_pos (by simpa [Demand.asked] using same)]
    rfl
  · rw [if_neg (by simpa using same), if_neg (by simpa [Demand.asked] using same)]

theorem Plant.relevel_asked (r : Plant) (z level : Nat) : (r.relevel z level).asked.Perm (r.asked.map (relevelled z level)) := by
  have served : (r.relevel z level).service.Perm (r.service.map (Demand.relevelled z level)) := by
    have := insertDemands_perm (r.service.map (Demand.relevelled z level)) []
    rwa [List.append_nil] at this
  have moved : (r.waiting.filter fun d => d.zone == z).map (fun d => { d with level })
      = (r.waiting.filter fun d => d.zone == z).map (Demand.relevelled z level) :=
    List.map_congr_left fun d hd => (if_pos (List.mem_filter.mp hd).2).symm
  have kept : (r.waiting.filter fun d => d.zone != z) = (r.waiting.filter fun d => d.zone != z).map (Demand.relevelled z level) := by
    refine (List.map_id _).symm.trans (List.map_congr_left fun d hd => (if_neg ?_).symm)
    simpa using (List.mem_filter.mp hd).2
  have waits : (r.relevel z level).waiting.Perm (r.waiting.map (Demand.relevelled z level)) := by
    refine (insertDemands_perm _ _).trans ?_
    rw [moved, kept, ← List.map_append]
    exact (List.filter_append_perm _ _).map _
  have all : (r.relevel z level).demands.Perm (r.demands.map (Demand.relevelled z level)) := by
    rw [Plant.demands, Plant.demands, List.map_append]
    exact served.append waits
  refine (all.map Demand.asked).trans (.of_eq ?_)
  rw [Plant.asked, List.map_map, List.map_map]
  exact List.map_congr_left fun d _ => d.relevelled_asked z level

theorem Plant.drop_asked (r : Plant) (z : Nat) : (r.drop z).asked = r.asked.filter fun a => a.1 != z := by
  rw [Plant.asked, Plant.demands, Plant.drop, Plant.asked, Plant.demands, List.filter_map, List.filter_append]
  rfl

/-! ## Zones and plants in agreement (R59, R83) -/

/-- The agreement of zones and plants, of what the demands ask alone. -/
structure State.Agrees (s : State) : Prop where
  once : ∀ p pl, s.plant? p = some pl → (pl.asked.map (·.1)).Nodup
  recorded : ∀ p pl a, s.plant? p = some pl → a ∈ pl.asked →
    ∃ r, s.zone? a.1 = some r ∧ r.climate.demand = some ⟨p, a.2.1, a.2.2⟩
  held : ∀ z r dm, s.zone? z = some r → r.climate.demand = some dm →
    r.defn.plant = some dm.plant ∧ ∃ pl, s.plant? dm.plant = some pl ∧ (z, dm.duty, dm.level) ∈ pl.asked

theorem State.demandsAgree_iff (s : State) : s.demandsAgree ↔ s.Agrees := by
  have zones (pl : Plant) : pl.asked.map (·.1) = pl.demands.map (·.zone) := by rw [Plant.asked, List.map_map]; rfl
  constructor
  · rintro ⟨once, recorded, held⟩
    refine ⟨fun p pl hp => by rw [zones]; exact once p pl hp, fun p pl a hp ha => ?_, fun z r dm hr hd => ?_⟩
    · obtain ⟨d, hd, rfl⟩ := List.mem_map.mp ha
      exact recorded p pl d hp hd
    · obtain ⟨named, pl, d, hp, hm, rfl⟩ := held z r dm hr hd
      obtain ⟨x, hx, is⟩ := recorded dm.plant pl d hp hm
      cases hr.symm.trans hx
      have same := Option.some.inj (hd.symm.trans is)
      exact ⟨named, pl, hp, List.mem_map.mpr ⟨d, hm, by rw [same]; rfl⟩⟩
  · rintro ⟨once, recorded, held⟩
    refine ⟨fun p pl hp => by rw [← zones]; exact once p pl hp, fun p pl d hp hd => ?_, fun z r dm hr hd => ?_⟩
    · exact recorded p pl d.asked hp (List.mem_map_of_mem hd)
    · obtain ⟨named, pl, hp, hm⟩ := held z r dm hr hd
      obtain ⟨d, hd, is⟩ := List.mem_map.mp hm
      exact ⟨named, pl, d, hp, hd, congrArg Prod.fst is⟩

namespace State.Agrees

variable {s : State} (h : s.Agrees)
include h

theorem congr {t : State} (zones : t.zones = s.zones) (plants : t.plants = s.plants) : t.Agrees := by
  have zone (z : Nat) : t.zone? z = s.zone? z := State.zone?_congr zones z
  have plant (p : Nat) : t.plant? p = s.plant? p := State.plant?_congr plants p
  exact ⟨by simpa only [plant] using h.once, by simpa only [zone, plant] using h.recorded,
    by simpa only [zone, plant] using h.held⟩

/-- A zone is written whose demand stays, as does its plant while it has one. -/
theorem zone {z : Nat} {r r' : Zone} (hr : s.zone? z = some r) (demand : r'.climate.demand = r.climate.demand)
    (plant : r.climate.demand ≠ none → r'.defn.plant = r.defn.plant) : (s.putZone z r').Agrees where
  once := h.once
  recorded p pl a hp ha := by
    obtain ⟨x, hx, is⟩ := h.recorded p pl a hp ha
    refine State.exists_putZone (G := fun x => x.climate.demand = some ⟨p, a.2.1, a.2.2⟩) hr (fun is => demand.trans is) ⟨x, hx, is⟩
  held := by
    refine State.forall_putZone (G := fun k x => ∀ dm, x.climate.demand = some dm → x.defn.plant = some dm.plant
      ∧ ∃ pl, s.plant? dm.plant = some pl ∧ (k, dm.duty, dm.level) ∈ pl.asked) (fun k x hx dm => h.held k x dm hx) ?_
      |> fun all z r dm hr => all z r hr dm
    intro dm is
    rw [demand] at is
    rw [plant (by simp [is])]
    exact h.held z r dm hr is

/-- A zone without a demand is created. -/
theorem newZone {z : Nat} {r : Zone} (unset : s.zone? z = none) (none : r.climate.demand = .none) : (s.putZone z r).Agrees where
  once := h.once
  recorded p pl a hp ha := by
    obtain ⟨x, hx, is⟩ := h.recorded p pl a hp ha
    refine ⟨x, (State.zone?_putZone_ne s r fun same => ?_).trans hx, is⟩
    rw [same, unset] at hx
    cases hx
  held := by
    refine State.forall_putZone (G := fun k x => ∀ dm, x.climate.demand = some dm → x.defn.plant = some dm.plant
      ∧ ∃ pl, s.plant? dm.plant = some pl ∧ (k, dm.duty, dm.level) ∈ pl.asked) (fun k x hx dm => h.held k x dm hx) ?_
      |> fun all z r dm hr => all z r hr dm
    intro dm is
    rw [none] at is
    cases is

/-- A plant is written that asks what it asked. -/
theorem plant {p : Nat} {pl pl' : Plant} (hp : s.plant? p = some pl) (asked : pl'.asked.Perm pl.asked) :
    (s.putPlant p pl').Agrees where
  once k x hx := by
    by_cases same : k = p
    · subst same
      rw [State.plant?_putPlant pl' hp] at hx
      cases hx
      exact (asked.map _).nodup_iff.mpr (h.once k pl hp)
    · exact h.once k x (by rwa [State.plant?_putPlant_ne s pl' same] at hx)
  recorded k x a hx ha := by
    by_cases same : k = p
    · subst same
      rw [State.plant?_putPlant pl' hp] at hx
      cases hx
      exact h.recorded k pl a hp (asked.subset ha)
    · exact h.recorded k x a (by rwa [State.plant?_putPlant_ne s pl' same] at hx) ha
  held z r dm hr hd := by
    obtain ⟨named, x, hx, ha⟩ := h.held z r dm hr hd
    refine ⟨named, ?_⟩
    by_cases same : dm.plant = p
    · rw [same, hp] at hx
      cases hx
      exact ⟨pl', by rw [same]; exact State.plant?_putPlant pl' hp, asked.symm.subset ha⟩
    · exact ⟨x, (State.plant?_putPlant_ne s pl' same).trans hx, ha⟩

/-- A plant without a demand is created. -/
theorem newPlant {p : Nat} {pl : Plant} (unset : s.plant? p = none) (none : pl.demands = []) : (s.putPlant p pl).Agrees := by
  have asked : pl.asked = [] := by rw [Plant.asked, none]; rfl
  have there {k : Nat} {x : Plant} (hx : (s.putPlant p pl).plant? k = some x) : x.asked = [] ∨ s.plant? k = some x := by
    by_cases same : k = p
    · subst same
      have valid := State.plant?_valid hx
      rw [State.plant?_putPlant_same pl valid.1 valid.2] at hx
      cases hx
      exact .inl asked
    · exact .inr (by rwa [State.plant?_putPlant_ne s pl same] at hx)
  refine ⟨fun k x hx => ?_, fun k x a hx ha => ?_, fun z r dm hr hd => ?_⟩
  · rcases there hx with empty | old
    · rw [empty]; exact .nil
    · exact h.once k x old
  · rcases there hx with empty | old
    · rw [empty] at ha; cases ha
    · exact h.recorded k x a old ha
  · obtain ⟨named, x, hx, ha⟩ := h.held z r dm hr hd
    refine ⟨named, x, (State.plant?_putPlant_ne s pl fun same => ?_).trans hx, ha⟩
    rw [same, unset] at hx
    cases hx

/-- A zone and its plant are written: the plant asks for the zone what the zone then records, and for the others what it asked. -/
theorem change {z p : Nat} {r r' : Zone} {pl pl' : Plant} {new : List (Nat × Duty × Nat)} (hr : s.zone? z = some r)
    (hp : s.plant? p = some pl) (before : ∀ dm, r.climate.demand = some dm → dm.plant = p)
    (asked : pl'.asked.Perm (new ++ pl.asked.filter fun a => a.1 != z))
    (after : (r'.climate.demand = none ∧ new = [])
      ∨ ∃ duty level, r'.climate.demand = some ⟨p, duty, level⟩ ∧ r'.defn.plant = some p ∧ new = [(z, duty, level)]) :
    ((s.putZone z r').putPlant p pl').Agrees := by
  have own : (s.putZone z r').zone? z = some r' := State.zone?_putZone r' hr
  have zone (k : Nat) : ((s.putZone z r').putPlant p pl').zone? k = (s.putZone z r').zone? k := rfl
  have plant : ((s.putZone z r').putPlant p pl').plant? p = some pl' := State.plant?_putPlant pl' hp
  have others {k : Nat} (other : k ≠ p) : ((s.putZone z r').putPlant p pl').plant? k = s.plant? k :=
    State.plant?_putPlant_ne _ pl' other
  have fresh (a : Nat × Duty × Nat) (ha : a ∈ new) : r'.climate.demand = some ⟨p, a.2.1, a.2.2⟩ ∧ a.1 = z := by
    rcases after with ⟨-, rfl⟩ | ⟨duty, level, is, -, rfl⟩
    · cases ha
    · rw [List.mem_singleton.mp ha]; exact ⟨is, rfl⟩
  refine ⟨fun k x hx => ?_, fun k x a hx ha => ?_, fun k x dm hx is => ?_⟩
  · by_cases same : k = p
    · subst same
      cases plant.symm.trans hx
      refine (asked.map (·.1)).nodup_iff.mpr ?_
      have rest : ((pl.asked.filter fun a => a.1 != z).map (·.1)).Nodup :=
        (h.once k pl hp).sublist ((List.filter_sublist).map _)
      rcases after with ⟨-, rfl⟩ | ⟨duty, level, -, -, rfl⟩
      · exact rest
      · refine List.nodup_cons.mpr ⟨fun here => ?_, rest⟩
        obtain ⟨a, ha, same⟩ := List.mem_map.mp here
        have : a.1 ≠ z := by simpa using (List.mem_filter.mp ha).2
        exact this same
    · exact h.once k x (others same ▸ hx)
  · rw [zone]
    have old {k : Nat} {x : Plant} (hx : s.plant? k = some x) (ha : a ∈ x.asked) (other : a.1 ≠ z) :
        ∃ r, (s.putZone z r').zone? a.1 = some r ∧ r.climate.demand = some ⟨k, a.2.1, a.2.2⟩ := by
      rw [State.zone?_putZone_ne s r' other]
      exact h.recorded k x a hx ha
    by_cases same : k = p
    · subst same
      cases plant.symm.trans hx
      rcases List.mem_append.mp (asked.subset ha) with new | kept
      · obtain ⟨is, at_z⟩ := fresh a new
        exact ⟨r', at_z ▸ own, is⟩
      · obtain ⟨there, other⟩ := List.mem_filter.mp kept
        exact old hp there (by simpa using other)
    · have hx := others same ▸ hx
      refine old hx ha fun at_z => ?_
      obtain ⟨y, hy, is⟩ := h.recorded k x a hx ha
      rw [at_z, hr] at hy
      cases hy
      exact same (before _ is)
  · rw [zone] at hx
    by_cases same : k = z
    · subst same
      cases own.symm.trans hx
      rcases after with ⟨none, -⟩ | ⟨duty, level, now, named, rfl⟩
      · cases none.symm.trans is
      · cases Option.some.inj (now.symm.trans is)
        exact ⟨named, pl', plant, asked.symm.subset (by simp)⟩
    · rw [State.zone?_putZone_ne s r' same] at hx
      obtain ⟨named, y, hy, ha⟩ := h.held k x dm hx is
      refine ⟨named, ?_⟩
      by_cases at_p : dm.plant = p
      · rw [at_p, hp] at hy
        cases hy
        refine ⟨pl', at_p ▸ plant, asked.symm.subset (List.mem_append_right _ (List.mem_filter.mpr ⟨ha, by simpa using same⟩))⟩
      · exact ⟨y, (others at_p).trans hy, ha⟩

end State.Agrees

/-- The writes that are watched for the demands keep the agreement. -/
theorem Writes.agrees {w : Watch} {s t : State} (h : Writes w s t) (watched : w.asks) (agree : s.Agrees) : t.Agrees := by
  induction h with
  | refl => exact agree
  | whole _ _ ih => exact ih watched agree
  | trans _ _ ih ih' => exact ih' watched (ih watched agree)
  | zone hr steady => exact agree.zone hr (steady.asks watched).2 fun _ => (steady.asks watched).1
  | newZone unset _ _ _ none => exact agree.newZone unset none
  | @marks _ _ _ r ms hr =>
    have marked := agree.zone (r' := { r with marks := ms }) hr rfl fun _ => rfl
    exact marked.congr (State.followAlarm_zones _) (State.followAlarm_plants _)
  | plant hr steady => exact agree.plant hr (steady.asked watched)
  | plantFollowed hr asked =>
    exact (agree.plant hr (asked watched)).congr (State.followAlarm_zones _) (State.followAlarm_plants _)
  | newPlant unset _ none => exact agree.newPlant unset none
  | bank | line | devices | configChanged => exact agree.congr rfl rfl
  | lineFollowed | followAlarm => exact agree.congr (State.followAlarm_zones _) (State.followAlarm_plants _)
  | offer => exact agree.congr (State.offer_zones _ _ _) (State.offer_plants _ _ _)

/-! ## The demand decision and a changed plant (R6, R79) -/

section
variable {s : State} {z : Nat} {r : Zone}

theorem State.setDemand_some (hr : s.zone? z = some r) (d : Option ZoneDemand) :
    s.setDemand z d = s.putZone z { r with climate := { r.climate with demand := d } } := by
  rw [State.setDemand, State.modZone, hr]

/-- A zone without a demand raises one at its plant. -/
theorem State.raiseDemand_agrees (agree : s.Agrees) (right : s.plantsRight) (hr : s.zone? z = some r)
    (none : r.climate.demand = none) {p : Nat} {pl : Plant} (named : r.defn.plant = some p) (hp : s.plant? p = some pl) (n : Need) :
    (s.raiseDemand z p n).Agrees := by
  have absent : pl.asked.filter (fun a => a.1 != z) = pl.asked := by
    refine List.filter_eq_self.mpr fun a ha => ?_
    have : a.1 ≠ z := by
      rintro rfl
      obtain ⟨x, hx, is⟩ := agree.recorded p pl a hp ha
      rw [hr] at hx
      cases hx
      rw [none] at is
      cases is
    simpa using this
  rw [State.raiseDemand, State.setDemand_some hr]
  have hp' : (s.putZone z { r with climate := { r.climate with demand := some ⟨p, n.duty, n.level⟩ } }).plant? p = some pl := hp
  refine (State.raise_after (w := ⟨False, True, False, False⟩) id hp' (fun _ => right p pl hp) z n.duty n.level).agrees trivial ?_
  refine agree.change (new := [(z, n.duty, n.level)]) hr hp (fun dm is => nomatch none.symm.trans is) ?_
    (.inr ⟨n.duty, n.level, rfl, named, rfl⟩)
  rw [absent]
  exact pl.accept_asked z n.duty n.level

/-- A zone withdraws its demand. -/
theorem State.withdrawDemand_agrees (agree : s.Agrees) (hr : s.zone? z = some r) {d : ZoneDemand}
    (held : r.climate.demand = some d) {r' : Zone} (none : r'.climate.demand = .none) :
    ((s.putZone z r').withdraw d.plant z).Agrees := by
  obtain ⟨-, pl, hp, -⟩ := agree.held z r d hr held
  have hp' : (s.putZone z r').plant? d.plant = some pl := hp
  refine (State.withdraw_after (w := ⟨False, True, False, False⟩) id hp' z).agrees trivial ?_
  refine agree.change (new := []) hr hp (fun dm is => ?_) (.of_eq (pl.drop_asked z)) (.inl ⟨none, rfl⟩)
  rw [Option.some.inj (held.symm.trans is)]

/-- A zone updates the level of its demand. -/
theorem State.updateDemand_agrees (agree : s.Agrees) (hr : s.zone? z = some r) {d : ZoneDemand}
    (held : r.climate.demand = some d) (level : Nat) :
    ((s.setDemand z (some { d with level })).update d.plant z level).Agrees := by
  obtain ⟨named, pl, hp, asks⟩ := agree.held z r d hr held
  rw [State.setDemand_some hr]
  have hp' : (s.putZone z { r with climate := { r.climate with demand := some { d with level } } }).plant? d.plant = some pl := hp
  refine (State.update_after (w := ⟨False, True, False, False⟩) id hp' z level).agrees trivial ?_
  refine agree.change (new := [(z, d.duty, level)]) hr hp (fun dm is => ?_) ((pl.relevel_asked z level).trans ?_)
    (.inr ⟨d.duty, level, rfl, named, rfl⟩)
  · rw [Option.some.inj (held.symm.trans is)]
  · exact relevelled_perm (agree.once d.plant pl hp) asks level

/-- A plant that is defined stays so in a chain of writes. -/
theorem Writes.plant_defined {w : Watch} {s t : State} (h : Writes w s t) {p : Nat} (defined : (s.plant? p).isSome) :
    (t.plant? p).isSome := by
  have put {s : State} {k : Nat} {x : Plant} (valid : 1 ≤ p ∧ p ≤ 2) (defined : (s.plant? p).isSome) :
      ((s.putPlant k x).plant? p).isSome := by
    by_cases same : p = k
    · subst same
      rw [State.plant?_putPlant_same x valid.1 valid.2]
      rfl
    · rwa [State.plant?_putPlant_ne s x same]
  have valid : 1 ≤ p ∧ p ≤ 2 := by
    obtain ⟨r, hr⟩ := Option.isSome_iff_exists.mp defined
    exact State.plant?_valid hr
  induction h with
  | refl => exact defined
  | whole _ _ ih => exact ih defined
  | trans _ _ ih ih' => exact ih' (ih defined)
  | plant | newPlant => exact put valid defined
  | plantFollowed =>
    rw [State.plant?_congr (State.followAlarm_plants _)]
    exact put valid defined
  | zone | newZone | bank | line | devices | configChanged => exact defined
  | marks | lineFollowed | followAlarm =>
    rw [State.plant?_congr (State.followAlarm_plants _)]
    exact defined
  | offer =>
    rw [State.plant?_congr (State.offer_plants _ _ _)]
    exact defined

/-- The record of a zone that asks nothing of its plant. -/
def Zone.unasking (r : Zone) : Zone := { r with climate := { r.climate with demand := none } }

/-- After a withdrawal the zone asks nothing, and its plant is defined as before. -/
theorem State.withdrawDemand_leaves (agree : s.Agrees) (right : s.plantsRight) (hr : s.zone? z = some r) {d : ZoneDemand}
    (held : r.climate.demand = some d) {p : Nat} (named : r.defn.plant = some p) (defined : (s.plant? p).isSome) :
    (s.withdrawDemand z d).Agrees ∧ (s.withdrawDemand z d).plantsRight
      ∧ (∃ x, (s.withdrawDemand z d).zone? z = some x ∧ x.climate.demand = none ∧ x.defn.plant = some p)
      ∧ ((s.withdrawDemand z d).plant? p).isSome := by
  have eq : s.withdrawDemand z d = (s.putZone z r.unasking).withdraw d.plant z := by
    rw [State.withdrawDemand, State.setDemand_some hr, Zone.unasking]
  obtain ⟨-, pl, hp, -⟩ := agree.held z r d hr held
  have hp' : (s.putZone z r.unasking).plant? d.plant = some pl := hp
  have right' : (s.putZone z r.unasking).plantsRight := State.plantsRight_congr rfl right
  have after := State.withdraw_after (w := ⟨False, True, False, False⟩) id hp' z
  rw [eq]
  refine ⟨State.withdrawDemand_agrees agree hr held rfl, State.withdraw_right right' _ _, ?_, after.plant_defined ?_⟩
  · exact after.oneZone (G := fun x => x.climate.demand = none ∧ x.defn.plant = some p)
      (fun _ _ st is => ⟨(st.asks trivial).2.trans is.1, (st.asks trivial).1.trans is.2⟩) (fun _ _ => id)
      ⟨_, State.zone?_putZone r.unasking hr, rfl, named⟩
  · by_cases same : p = d.plant
    · rw [same, State.plant?_putPlant _ hp']
      rfl
    · rw [State.plant?_putPlant_ne _ _ same]
      exact defined

/-- R79, where what is wanted is asked of the plant that the zone's definition names, and that is defined. -/
theorem State.settleDemand_agrees (agree : s.Agrees) (right : s.plantsRight) (hr : s.zone? z = some r)
    {wanted : Option (Nat × Need)} (may : ∀ p n, wanted = some (p, n) → r.defn.plant = some p ∧ (s.plant? p).isSome) :
    (s.settleDemand z r.climate.demand wanted).Agrees := by
  unfold State.settleDemand
  split
  · exact agree
  · next p n none =>
    obtain ⟨named, defined⟩ := may p n rfl
    obtain ⟨pl, hp⟩ := Option.isSome_iff_exists.mp defined
    exact State.raiseDemand_agrees agree right hr none named hp n
  · next d held =>
    rw [State.withdrawDemand, State.setDemand_some hr]
    exact State.withdrawDemand_agrees agree hr held rfl
  · next d p n held =>
    split
    · split
      · exact agree
      · exact State.updateDemand_agrees agree hr held n.level
    · obtain ⟨named, defined⟩ := may p n rfl
      obtain ⟨agree', right', ⟨x, hx, none, named'⟩, defined'⟩ := State.withdrawDemand_leaves agree right hr held named defined
      obtain ⟨q, hq⟩ := Option.isSome_iff_exists.mp defined'
      exact State.raiseDemand_agrees agree' right' hx none named' hq n

theorem State.plantFor_some {p : Nat} (h : s.plantFor r = some p) : r.defn.plant = some p ∧ (s.plant? p).isSome := by
  unfold State.plantFor at h
  split at h
  · next k named =>
    split at h
    · next defined => cases h; exact ⟨named, defined⟩
    · cases h
  · cases h

theorem State.decideDemand_agrees (agree : s.Agrees) (right : s.plantsRight) (z : Nat) : (s.decideDemand z).Agrees := by
  unfold State.decideDemand
  split
  case h_1 r hr =>
    let r' : Zone := { r with climate := { r.climate with
      need := r.chosenNeed, unresolved := r.rhCandidate.2 || (r.chosenNeed.isSome && (s.plantFor r).isNone) } }
    refine State.settleDemand_agrees (r := r') (agree.zone (r' := r') hr rfl fun _ => rfl) right (State.zone?_putZone r' hr)
      fun p n wanted => ?_
    split at wanted
    · next k m plant _ =>
      cases wanted
      exact State.plantFor_some plant
    · cases wanted
  case h_2 => exact agree

theorem State.climateReview_agrees (agree : s.Agrees) (right : s.plantsRight) (z : Nat) : (s.climateReview z).Agrees := by
  unfold State.climateReview
  split
  case h_1 r hr =>
    split
    · have timed : Writes ⟨False, True, False, True⟩ s
          ((s.putZone z { r with climateDue := r.climateDue + Config.climateReviewPeriod }).resolveClimate z) :=
        .trans (.zoneStill hr (by constructor <;> rfl)) (State.resolveClimate_writes z)
      unfold State.reviewClimate
      dsimp only
      split
      case h_1 x hx =>
        split
        · exact timed.agrees trivial agree
        · have trimmed := timed.trans (State.reviewTrim_writes hx)
          have decided := State.decideDemand_agrees (trimmed.agrees trivial agree) (trimmed.plantsRight trivial right) z
          exact (State.climateMarks_writes (w := ⟨False, True, False, True⟩) z).agrees trivial decided
      case h_2 => exact timed.agrees trivial agree
    · exact agree
  case h_2 => exact agree

theorem State.defineZone_agrees (agree : s.Agrees) (z : Nat) (d : Definition) : (s.defineZone z d).Agrees := by
  unfold State.defineZone
  split
  case h_1 unset => exact agree.newZone unset rfl
  case h_2 r hr =>
    have rest (t : State) : Writes ⟨False, True, False, False⟩ t ((t.leaveDimmer z r d).leaveTrim z r d) :=
      .trans (State.leaveDimmer_writes _ _ _) (State.leaveTrim_writes _ _ _)
    refine (rest _).agrees trivial ?_
    unfold State.leavePlant
    split
    · next same => exact agree.zone hr (by simp [Zone.redefined, same]) fun _ => same.symm
    · next other =>
      have none : (r.redefined d).climate.demand = none := by simp [Zone.redefined, other]
      split
      · next dm held => exact State.withdrawDemand_agrees agree hr held none
      · next unheld => exact agree.zone hr (none.trans unheld.symm) fun some => absurd unheld some

end

theorem demandsAgree_kept :
    Kept ⟨False, True, False, False⟩ (fun _ => True) True State.plantsRight State.demandsAgree where
  idle := False.elim
  right _ h := h
  doses := False.elim
  defineZone z d _ _ h := (State.demandsAgree_iff _).mpr (State.defineZone_agrees ((State.demandsAgree_iff _).mp h) z d)
  climateReview z _ right h := (State.demandsAgree_iff _).mpr (State.climateReview_agrees ((State.demandsAgree_iff _).mp h) right z)
  aside a h := (State.demandsAgree_iff _).mpr (((State.demandsAgree_iff _).mp h).congr a.zones a.plants)
  writes h agree := (State.demandsAgree_iff _).mpr (h.agrees trivial ((State.demandsAgree_iff _).mp agree))
  clock {s} v h := by
    obtain ⟨once, recorded, held⟩ := (State.demandsAgree_iff _).mp h
    have plant (p : Nat) : (s.moveClock v).plant? p = s.plant? p := State.plant?_congr (by rw [State.moveClock_frame]) p
    refine (State.demandsAgree_iff _).mpr ⟨by simpa only [plant] using once, fun p pl a hp ha => ?_, fun z r dm hr hd => ?_⟩
    · obtain ⟨x, hx, is⟩ := recorded p pl a (plant p ▸ hp) ha
      refine ⟨_, (State.moveClock_zone? s v a.1).trans (congrArg _ hx), ?_⟩
      split <;> exact is
    · rw [State.moveClock_zone?] at hr
      obtain ⟨x, hx, rfl⟩ := Option.map_eq_some_iff.mp hr
      have same := held z x dm hx (by split at hd <;> exact hd)
      simp only [plant]
      split <;> exact same
  report {s} r h := by
    have frame := s.setReport_frame r
    exact (State.demandsAgree_iff _).mpr (((State.demandsAgree_iff _).mp h).congr (by rw [frame]) (by rw [frame]))
  pulse {s} h := by
    have frame := s.endAlarmPulse_frame
    exact (State.demandsAgree_iff _).mpr (((State.demandsAgree_iff _).mp h).congr (by rw [frame]) (by rw [frame]))
  checkpoint _ _ h := h
  put _ _ h := h
  still _ _ _ _ h := h
  quiet h := h
  start {s u} cause sense _ _ _ _ := by
    refine (State.demandsAgree_iff _).mpr (State.startSequence_kept (w := ⟨False, True, False, False⟩) (P := State.Agrees)
      (fun h => h.agrees trivial) cause ⟨fun p pl hp => ?_, fun p pl a hp ha => ?_, fun z r dm hr hd => ?_⟩)
    · obtain ⟨d, rfl⟩ := State.load_plant? hp
      exact .nil
    · obtain ⟨d, rfl⟩ := State.load_plant? hp
      cases ha
    · obtain ⟨st, a, rfl, -⟩ := State.load_zone? hr
      cases hd

end Sys2Proof.Machine

namespace Sys2Proof.Proofs

open Sys2Proof Sys2Proof.Machine

/-- Settles O39: single writes keep a plant right, and each operation of a plant that is no single write ends with a selection or the
preemption test, which make it right. -/
theorem plantsStayRight : Obligations.PlantsStayRight :=
  fun _ _ right ran => (plantsRight_kept.alone fun _ => trivial).step (fun _ _ h => h) right ran

/-- Settles O40: only the demand decision and a changed definition write what a zone asks, and each writes the plant with it. -/
theorem demandsStayAgreed : Obligations.DemandsStayAgreed :=
  fun _ _ agree right ran => ((demandsAgree_kept.keeps (plantsRight_kept.alone fun _ => trivial)).step (fun _ _ h => h) ⟨right, agree⟩ ran).2

end Sys2Proof.Proofs
end

section
/-! PROOFS. The machine as a whole, the stop of the part, the clock, and that a refusal changes nothing (O1 to O4, O7, O8, O11). -/

namespace Sys2Proof.Machine

/-! ## Every command has a next state and leaves the queue of commands (O2) -/

theorem exec_next (c : Instr) (s : State) : ∃ t, exec c s = .next t := by
  cases asks : c.request? with
  | some f => exact ⟨_, exec_request s asks⟩
  | none =>
    cases works : c.work? with
    | some work => exact ⟨_, exec_work works s⟩
    | none =>
      cases c
      case unknownRequestKind kind tag body => exact ⟨s, exec_ignored s asks⟩
      all_goals first | (cases works; done) | (cases asks; done) | exact ⟨_, rfl⟩

theorem pending_kept (p : List Instr) :
    Kept ⟨False, False, False, False⟩ (fun _ => True) True (fun _ => True) fun s => s.pending = p where
  idle := False.elim
  right := False.elim
  doses := False.elim
  defineZone _ _ := False.elim
  climateReview _ := False.elim
  aside a h := a.pending.trans h
  writes w h := w.pending.trans h
  clock {s} v h := by rw [State.moveClock_frame]; exact h
  report {s} r h := by rw [State.setReport_frame]; exact h
  pulse {s} h := by rw [State.endAlarmPulse_frame]; exact h
  checkpoint _ _ h := h
  put _ _ h := h
  still _ _ _ _ h := h
  quiet h := h
  start {s u} cause sense _ h _ same :=
    State.startSequence_kept (w := ⟨False, False, False, False⟩) (P := fun s => s.pending = p) (fun w h => w.pending.trans h) cause
      (same.trans h)

/-- No request may be taken up while a RESTART is being carried out, or the reply queue is full. -/
theorem State.mayTakeUp_false (s : State) : s.mayTakeUp = false ↔ s.restarting ≠ none ∨ 8 ≤ s.link.replies.length := by
  rw [State.mayTakeUp, Bool.and_eq_false_iff, decide_eq_false_iff_not, Nat.not_lt, Option.isNone_eq_false_iff,
    Option.isSome_iff_ne_none, Config.replyCapacity]

theorem State.mayTakeUp_true (s : State) : s.mayTakeUp = true ↔ s.restarting = none ∧ s.link.replies.length < 8 := by
  rw [← Bool.not_eq_false, State.mayTakeUp_false]
  simp

/-! ## A stopped part (O3) -/

/-- A part that does not run does nothing at an event, a request, a frame or a byte. -/
theorem exec_stopped {c : Instr} {s : State} (stopped : s.running = false) (notOn : ∀ sense, c ≠ .powerOn sense)
    (notFail : c ≠ .powerFail) (notAssert : c ≠ .resetInputAssert) (notRelease : ∀ sense, c ≠ .resetInputRelease sense) :
    exec c s = .next s := by
  have idles {t : State} : (if s.running then t else s) = s := by rw [stopped]; rfl
  cases asks : c.request? with
  | some f => exact (exec_request s asks).trans (congrArg _ idles)
  | none =>
    cases works : c.work? with
    | some work => exact (exec_work works s).trans (congrArg _ idles)
    | none =>
      cases c
      case unknownRequestKind kind tag body => exact exec_ignored s asks
      case powerOn sense => exact absurd rfl (notOn sense)
      case powerFail => exact absurd rfl notFail
      case resetInputAssert => exact absurd rfl notAssert
      case resetInputRelease sense => exact absurd rfl (notRelease sense)
      all_goals first | (cases works; done) | (cases asks; done) | exact congrArg _ idles

/-! ## The state after reset (O4) -/

theorem slot?_replicate {α : Type} {n : Nat} (a : α) (k : Nat) :
    slot? (Vector.replicate n a) k = if 1 ≤ k ∧ k ≤ n then some a else none := by
  unfold slot?
  split
  · next zero => rw [if_neg (by omega)]
  · by_cases inside : k ≤ n
    · rw [if_pos (by omega), Vector.getElem?_eq_getElem (by omega), Vector.getElem_replicate]
    · rw [if_neg (by omega), Vector.getElem?_eq_none (by omega)]

theorem slot?_replicate_none {α : Type} (n k : Nat) : (slot? (Vector.replicate n (none : Option α)) k).join = none := by
  rw [slot?_replicate]
  split <;> rfl

theorem State.reset_zone? (z : Nat) : State.reset.zone? z = none := slot?_replicate_none 16 z
theorem State.reset_bank? (b : Nat) : State.reset.bank? b = none := slot?_replicate_none 8 b
theorem State.reset_plant? (p : Nat) : State.reset.plant? p = none := slot?_replicate_none 2 p

theorem State.reset_line? {l : Nat} {r : Line} (h : State.reset.line? l = some r) : r = State.resetLine := by
  rw [State.line?, State.reset, slot?_replicate] at h
  split at h <;> cases h
  rfl

theorem State.reset_account {z : Nat} {a : AccountRecord} : slot? State.reset.store.accounts z ≠ some (some a) := by
  rw [State.reset, slot?_replicate]
  split <;> simp

theorem TableAdmitted.nil : TableAdmitted [] := ⟨Nat.zero_le _, .nil, fun _ => Nat.zero_le _⟩

/-- The bytes of the START notice of a first power-on. -/
theorem startFrame_wire : (Notice.frame ⟨.start .powerOn true, .none, 0⟩).wire = State.resetStartFrame := by decide +kernel

theorem State.reset_alarmCondition : State.reset.alarmCondition = false := by
  rw [Bool.eq_false_iff, Ne, State.alarmCondition_iff]
  rintro (⟨z, r, m, hr, -⟩ | ⟨-, ⟨l, r, hr, down⟩ | ⟨p, r, hr, -⟩⟩)
  · rw [State.reset_zone?] at hr
    cases hr
  · rw [State.reset_line? hr] at down
    cases down
  · rw [State.reset_plant?] at hr
    cases hr

/-! ## A refusal (O11) -/

/-- A status below 10 hex is none of a refusal (R162). -/
def Status.accepts (status : Status) : Bool := status.code.toNat < 0x10

/-- A reply that leaves a state of its own carries no refusal. -/
def Answer.Accepts : Answer → Prop
  | .refuse _ => True
  | .reply status _ _ => status.accepts = true

section
variable {s : State}

theorem withBody_accepts {α : Type} {r : Reader α} {body : List Byte} {f : α → State → Answer} (h : ∀ a, (f a s).Accepts) :
    (withBody r body f s).Accepts := by
  unfold withBody
  split
  · exact h _
  · trivial

theorem onZone_accepts {z : Nat} {work : Zone → Answer} (h : ∀ r, (work r).Accepts) : (onZone z s work).Accepts := by
  unfold onZone
  repeat' split
  · trivial
  · exact h _
  · trivial

theorem onLine_accepts {l : Nat} {work : Line → Answer} (h : ∀ r, (work r).Accepts) : (onLine l s work).Accepts := by
  unfold onLine
  split
  · exact h _
  · trivial

theorem answerTo_accepts (f : Frame) : (answerTo f s).Accepts := by
  unfold answerTo
  generalize f.kind.toNat = k
  rcases Nat.lt_or_ge k 32 with small | large
  swap
  · obtain ⟨n, rfl⟩ := Nat.exists_eq_add_of_le' large
    trivial
  interval_cases k
  all_goals first
    | exact withBody_accepts fun _ => rfl
    | (refine withBody_accepts fun a => onZone_accepts fun r => ?_; rfl)
    | (refine withBody_accepts fun a => onLine_accepts fun r => ?_; rfl)
    | skip
  all_goals first
    | trivial
    | refine withBody_accepts fun a => ?_
  · unfold answerZoneDefine
    repeat' split
    all_goals trivial
  · refine onZone_accepts fun r => ?_
    repeat' split
    all_goals trivial
  · unfold answerZoneRead
    repeat' split
    all_goals trivial
  · refine onZone_accepts fun r => ?_
    split
    · trivial
    · dsimp only
      split <;> rfl
  · refine onZone_accepts fun r => ?_
    split <;> trivial
  · refine onZone_accepts fun r => ?_
    split <;> trivial
  · unfold answerBankDefine
    repeat' split
    all_goals trivial
  · unfold answerBankRead
    repeat' split
    all_goals trivial
  · unfold answerPlantDefine
    repeat' split
    all_goals trivial
  · unfold answerPlantHold
    repeat' split
    all_goals trivial
  · unfold answerPlantRelease
    repeat' split
    all_goals trivial
  · unfold answerPlantRead
    repeat' split
    all_goals trivial
  · refine onLine_accepts fun r => ?_
    split <;> trivial
  · refine onLine_accepts fun r => ?_
    repeat' split
    all_goals trivial
  · refine onLine_accepts fun r => ?_
    split <;> trivial
  · unfold answerDeviceRead
    repeat' split
    all_goals trivial
  · unfold answerDeviceRetire
    repeat' split
    all_goals trivial
  · unfold answerReportSet
    repeat' split
    all_goals trivial

end

end Sys2Proof.Machine

namespace Sys2Proof.Proofs

open Sys2Proof Sys2Proof.Machine

/-- Settles O1: a step takes the front of the queue; a part that may take up no request idles. -/
theorem stepRunsFrontCommand : Obligations.StepRunsFrontCommand := by
  refine fun c s => ⟨rfl, fun empty idle => ?_⟩
  rw [step, empty]
  show Host.Outcome.next s.idle = _
  refine congrArg _ ?_
  unfold State.idle
  split
  · next runs =>
    rcases idle with stopped | none | restarts | full
    · exact nomatch stopped.symm.trans runs
    · exact State.serveIntake_nil none
    · exact State.serveIntake_busy (s.mayTakeUp_false.mpr (.inl restarts))
    · exact State.serveIntake_busy (s.mayTakeUp_false.mpr (.inr full))
  · rfl

/-- Settles O2: each command has its arm, and no piece of a command writes the queue of commands. -/
theorem everyCommandIsCarriedOut : Obligations.EveryCommandIsCarriedOut := by
  intro c s
  obtain ⟨t, ran⟩ := exec_next c s
  exact ⟨t, ran, ((pending_kept s.pending).alone fun _ => trivial).exec ran (fun _ _ => trivial) (.inl trivial) rfl⟩

/-- Settles O3: requests, events, frames and bytes reach only a part that runs. -/
theorem stoppedPartDoesNothing : Obligations.StoppedPartDoesNothing :=
  fun _ _ stopped notOn notFail notAssert notRelease => exec_stopped stopped notOn notFail notAssert notRelease

/-- Settles O4: the records of the reset state are empty, and each invariant holds of what is not there. -/
theorem resetState : Obligations.ResetState := by
  have noZone {z : Nat} {r : Zone} : State.reset.zone? z ≠ some r := by simp [State.reset_zone?]
  have noPlant {p : Nat} {r : Plant} : State.reset.plant? p ≠ some r := by simp [State.reset_plant?]
  refine ⟨rfl, rfl, State.reset_zone?, State.reset_bank?, State.reset_plant?, rfl, fun l r hr => ?_, rfl, rfl, rfl, rfl, rfl, rfl,
    by rw [startFrame_wire]; rfl, ⟨fun z r hr => absurd hr noZone, fun z a ha => absurd ha State.reset_account, by rintro _ _ _ ⟨⟩⟩,
    ⟨Nat.zero_le _, by rintro _ ⟨⟩⟩, ⟨Nat.zero_le _, Nat.zero_le _, fun _ _ => ⟨rfl, rfl⟩⟩,
    ⟨fun _ _ => State.reset_alarmCondition.symm, fun _ => rfl, fun l r hr _ => ?_⟩, ⟨TableAdmitted.nil, by rintro _ ⟨⟩, by rintro _ _ ⟨⟩⟩, fun l r hr => ?_,
    fun p r hr => absurd hr noPlant, ⟨fun p r hr => absurd hr noPlant, fun p r d hr => absurd hr noPlant,
      fun z r dm hr => absurd hr noZone⟩, fun z r hr => absurd hr noZone⟩
  all_goals rw [State.reset_line? hr]
  · exact ⟨rfl, rfl, rfl⟩
  · rfl
  · exact .nil

/-- Settles O7: what a stop writes, with the supply or the reset input. -/
theorem stopTearsOneRecord : Obligations.StopTearsOneRecord := by
  rintro c s running (rfl | rfl)
  all_goals have on : s.powered = true ∧ s.resetLow = false := by simpa [State.running] using running
  · refine ⟨s.supplyFails, rfl, ?_, fun _ => ?_⟩
    · rw [State.supplyFails, if_pos on.1, State.stop]
      cases s.checkpoint with
      | none => simp [on.2, Link.fresh]
      | some cp =>
        obtain ⟨full, writing, written, failed⟩ := cp
        cases writing <;> simp [on.2, Link.fresh, Store.put]
    · rw [State.supplyFails, if_pos on.1]
  · refine ⟨s.resetAsserted, rfl, ?_, by rintro ⟨⟩⟩
    rw [State.resetAsserted, if_neg (by simp [on.2]), if_pos on.1, State.useFree, State.stop]
    cases s.checkpoint with
    | none => simp [on.1, Link.fresh]
    | some cp =>
      obtain ⟨full, writing, written, failed⟩ := cp
      cases writing <;> simp [on.1, Link.fresh, Store.put]

/-- Settles O8: a tick moves the clock of a part one second on. -/
theorem clockTickAdvances : Obligations.ClockTickAdvances := by
  intro s running
  have frame := State.moveClock_frame { s with now := s.now + 1 } ((s.clock + 1) % (Config.count32Max + 1))
  have clock : s.tick.clock = (s.clock + 1) % 4294967296 := State.moveClock_clock _ _
  refine ⟨s.tick, happens_event rfl running rfl, by rw [State.tick, frame], clock, fun z => ?_, ?_⟩
  · rw [clock]
    exact State.moveClock_zone? _ _ z
  · rw [State.tick, frame]

/-- Settles O11: a refusal leaves the part as it is, and no other answer carries a status of a refusal. -/
theorem refusalChangesNothing : Obligations.RefusalChangesNothing := by
  intro c s taken
  obtain ⟨f, asks, -⟩ := id taken
  have ran := exec_request s asks
  have accepts := answerTo_accepts (s := s) f
  cases answered : answerTo f s with
  | refuse status => exact ⟨status, [], s, answers_refuse asks ran taken answered, fun _ => ⟨rfl, rfl⟩⟩
  | reply status content after =>
    refine ⟨status, content, after, answers_reply asks ran taken answered, fun refused => ?_⟩
    rw [answered] at accepts
    exact absurd refused (Nat.not_le_of_lt (of_decide_eq_true accepts))

end Sys2Proof.Proofs
end

section
/-! PROOFS. The forms of the requests, read from a body and back, and the checks of a zone's requests (O12, O13). -/

namespace Sys2Proof.Machine

/-! ## An answer, from the frame of the request -/

section
variable {c : Instr} {f : Frame} {s after : State} {status : Status} {content : List Byte}

theorem TakenUp.answered (taken : TakenUp c s) (asks : c.request? = some f)
    (work : answerTo f s = .reply status content after) : Answers c s status content after :=
  answers_reply asks (exec_request s asks) taken work

theorem TakenUp.refused (taken : TakenUp c s) (asks : c.request? = some f) (work : answerTo f s = .refuse status) :
    Answers c s status [] s :=
  answers_refuse asks (exec_request s asks) taken work

/-- A body that its reader does not read is refused with SHAPE (R162). -/
theorem TakenUp.unread {α : Type} {r : Reader α} {work : α → State → Answer} (taken : TakenUp c s)
    (asks : c.request? = some f) (form : answerTo f = withBody r f.body work) (unread : readBody r f.body = none) :
    Answers c s .shape [] s :=
  taken.refused asks (by rw [form, withBody_none unread])

end

/-! ## A reader of one length (R165) -/

/-- The reader takes `n` bytes of whatever it reads. -/
def Takes {α : Type} (r : Reader α) (n : Nat) : Prop := ∀ bs a rest, r bs = some (a, rest) → bs.length = n + rest.length

theorem takes_nat (n : Nat) : Takes (readNat n) n := by
  intro bs v rest read
  rw [(readNat_some read).2, List.length_append, be_length]

theorem takes_pure {α : Type} (a : α) : Takes (pure a : Reader α) 0 := by
  intro bs b rest read
  cases read
  exact (Nat.zero_add _).symm

theorem takes_bind {α β : Type} {r : Reader α} {f : α → Reader β} {m n : Nat} (first : Takes r m) (second : ∀ a, Takes (f a) n) :
    Takes (r >>= f) (m + n) := by
  intro bs b rest read
  obtain ⟨a, mid, readFirst, readSecond⟩ := bind_some read
  rw [first _ _ _ readFirst, second a _ _ _ readSecond, Nat.add_assoc]

theorem takes_device : Takes readDevice 2 := takes_bind (takes_nat 1) fun _ => takes_bind (takes_nat 1) fun _ => takes_pure _
theorem takes_pair : Takes readPair 2 := takes_bind (takes_nat 1) fun _ => takes_bind (takes_nat 1) fun _ => takes_pure _
theorem takes_plantDefine : Takes readPlantDefine 3 := takes_bind (takes_nat 1) fun _ => takes_bind takes_device fun _ => takes_pure _
theorem takes_occupancy : Takes readOccupancy 3 := takes_bind (takes_nat 1) fun _ => takes_bind (takes_nat 2) fun _ => takes_pure _

theorem takes_seasonBegin : Takes readSeasonBegin 7 :=
  takes_bind (takes_nat 1) fun _ => takes_bind (takes_nat 4) fun _ => takes_bind (takes_nat 2) fun _ => takes_pure _

theorem takes_accountAdjust : Takes readAccountAdjust 11 :=
  takes_bind (takes_nat 1) fun _ => takes_bind (takes_nat 6) fun _ => takes_bind (takes_nat 4) fun _ => takes_pure _

theorem takes_reportSet : Takes readReportSet 3 :=
  takes_bind (takes_nat 1) fun _ => takes_bind (takes_nat 1) fun _ => takes_bind (takes_nat 1) fun _ => takes_pure _

/-- A body of another length is not read. -/
theorem Takes.unread {α : Type} {r : Reader α} {n : Nat} (takes : Takes r n) {body : List Byte} (other : body.length ≠ n) :
    readBody r body = none := by
  cases read : readBody r body with
  | none => rfl
  | some a => exact absurd (takes _ _ _ (readBody_some read)) other

/-! ## A reader spells what it has read -/

/-- Whatever the reader reads has the property, and its bytes stand at the front of what was there. -/
def Spells {α : Type} (r : Reader α) (ok : α → Prop) (bytes : α → List Byte) : Prop :=
  ∀ bs a rest, r bs = some (a, rest) → ok a ∧ bs = bytes a ++ rest

theorem spells_nat (n : Nat) : Spells (readNat n) (· < 256 ^ n) (be n) := fun _ _ _ read => readNat_some read

theorem spells_device : Spells readDevice DeviceAddr.fits DeviceAddr.bytes := by
  intro bs d rest read
  obtain ⟨l, _, readLine, read⟩ := bind_some read
  obtain ⟨a, _, readAddress, read⟩ := bind_some read
  cases read
  obtain ⟨fitsLine, rfl⟩ := readNat_some readLine
  obtain ⟨fitsAddress, rfl⟩ := readNat_some readAddress
  exact ⟨⟨fitsLine, fitsAddress⟩, (List.append_assoc ..).symm⟩

section
variable {α : Type} {r : Reader α} {ok : α → Prop} {bytes : α → List Byte}

theorem spells_optional (h : Spells r ok bytes) : Spells (readOptional r) (fun o => ∀ a ∈ o, ok a) (optional bytes) := by
  intro bs o rest whole
  obtain ⟨p, _, readPresence, read⟩ := bind_some whole
  obtain ⟨-, rfl⟩ := readNat_some readPresence
  rcases p with _ | _ | p
  · cases read
    exact ⟨by rintro _ ⟨⟩, rfl⟩
  · obtain ⟨a, _, readField, read⟩ := bind_some read
    cases read
    obtain ⟨fits, rfl⟩ := h _ _ _ readField
    exact ⟨by rintro _ ⟨⟩; exact fits, (List.append_assoc ..).symm⟩
  · cases read

theorem spells_many (h : Spells r ok bytes) (n : Nat) :
    Spells (readMany r n) (fun l => l.length = n ∧ ∀ a ∈ l, ok a) (·.flatMap bytes) := by
  induction n with
  | zero =>
    intro bs l rest read
    cases read
    exact ⟨⟨rfl, by rintro _ ⟨⟩⟩, rfl⟩
  | succ n ih =>
    intro bs l rest read
    obtain ⟨a, _, readFirst, read⟩ := bind_some read
    obtain ⟨as, _, readRest, read⟩ := bind_some read
    cases read
    obtain ⟨fits, rfl⟩ := h _ _ _ readFirst
    obtain ⟨⟨rfl, all⟩, rfl⟩ := ih _ _ _ readRest
    refine ⟨⟨rfl, fun x hx => ?_⟩, by simp⟩
    rcases List.mem_cons.mp hx with rfl | hx
    · exact fits
    · exact all x hx

theorem spells_list (h : Spells r ok bytes) :
    Spells (readList r) (fun l => l.length < 256 ∧ ∀ a ∈ l, ok a) (counted bytes) := by
  intro bs l rest whole
  obtain ⟨n, _, readCount, read⟩ := bind_some whole
  obtain ⟨few, rfl⟩ := readNat_some readCount
  obtain ⟨⟨rfl, all⟩, rfl⟩ := spells_many h n _ _ _ read
  exact ⟨⟨few, all⟩, (List.append_assoc ..).symm⟩

end

theorem spells_definition : Spells readDefinition DefinitionFields.fits DefinitionFields.bytes := by
  intro bs f rest read
  obtain ⟨ceiling, _, readCeiling, read⟩ := bind_some read
  obtain ⟨floor, _, readFloor, read⟩ := bind_some read
  obtain ⟨policy, _, readPolicy, read⟩ := bind_some read
  obtain ⟨uvRef, _, readUvRef, read⟩ := bind_some read
  obtain ⟨sensitivity, _, readSensitivity, read⟩ := bind_some read
  obtain ⟨limit, _, readLimit, read⟩ := bind_some read
  obtain ⟨derate, _, readDerate, read⟩ := bind_some read
  obtain ⟨plant, _, readPlant, read⟩ := bind_some read
  obtain ⟨dimmer, _, readDimmer, read⟩ := bind_some read
  obtain ⟨trim, _, readTrim, read⟩ := bind_some read
  obtain ⟨banks, _, readBanks, read⟩ := bind_some read
  obtain ⟨surge, _, readSurge, read⟩ := bind_some read
  obtain ⟨escalate, _, readEscalate, read⟩ := bind_some read
  cases read
  obtain ⟨h1, rfl⟩ := readNat_some readCeiling
  obtain ⟨h2, rfl⟩ := readNat_some readFloor
  obtain ⟨h3, rfl⟩ := readNat_some readPolicy
  obtain ⟨h4, rfl⟩ := spells_optional (spells_nat 2) _ _ _ readUvRef
  obtain ⟨h5, rfl⟩ := readNat_some readSensitivity
  obtain ⟨h6, rfl⟩ := spells_optional (spells_nat 1) _ _ _ readLimit
  obtain ⟨h7, rfl⟩ := spells_optional (spells_nat 1) _ _ _ readDerate
  obtain ⟨h8, rfl⟩ := readNat_some readPlant
  obtain ⟨h9, rfl⟩ := spells_optional spells_device _ _ _ readDimmer
  obtain ⟨h10, rfl⟩ := spells_optional spells_device _ _ _ readTrim
  obtain ⟨h11, rfl⟩ := spells_optional (spells_list (spells_nat 1)) _ _ _ readBanks
  obtain ⟨h12, rfl⟩ := spells_optional (spells_nat 2) _ _ _ readSurge
  obtain ⟨h13, rfl⟩ := spells_optional (spells_nat 1) _ _ _ readEscalate
  exact ⟨⟨h1, h2, h3, h4, h5, h6, h7, h8, h9, h10, h11, h12, h13⟩, by simp only [DefinitionFields.bytes, List.append_assoc]⟩

/-! The five bodies of no fixed length: a body that is read is spelled by values of its fields. -/

theorem zoneDefine_spelled {body : List Byte} {q : Nat × DefinitionFields} (read : readBody readZoneDefine body = some q) :
    q.2.fits ∧ body = BitVec.ofNat 8 q.1 :: q.2.bytes := by
  obtain ⟨z, _, readZone, read⟩ := bind_some (readBody_some read)
  obtain ⟨f, _, readFields, read⟩ := bind_some read
  cases read
  obtain ⟨-, rfl⟩ := readNat_some readZone
  obtain ⟨fits, rfl⟩ := spells_definition _ _ _ readFields
  exact ⟨fits, by simp⟩

/-- The four bytes of a binding entry as sent. -/
def entryBytes (q : Nat × Nat × Nat × Nat) : List Byte := be 1 q.1 ++ be 1 q.2.1 ++ be 1 q.2.2.1 ++ be 1 q.2.2.2

theorem zoneBind_spelled {body : List Byte} {q : Nat × List (Nat × Nat × Nat × Nat)} (read : readBody readZoneBind body = some q) :
    q.2.length < 256 ∧ body = BitVec.ofNat 8 q.1 :: counted entryBytes q.2 := by
  obtain ⟨z, _, readZone, read⟩ := bind_some (readBody_some read)
  obtain ⟨es, _, readEntries, read⟩ := bind_some read
  cases read
  obtain ⟨-, rfl⟩ := readNat_some readZone
  have entry : Spells (do let line ← readNat 1; let base ← readNat 1; let care ← readNat 1; let cls ← readNat 1
                          return (line, base, care, cls)) (fun _ => True) entryBytes := by
    intro bs q rest read
    obtain ⟨line, _, readLine, read⟩ := bind_some read
    obtain ⟨base, _, readBase, read⟩ := bind_some read
    obtain ⟨care, _, readCare, read⟩ := bind_some read
    obtain ⟨cls, _, readClass, read⟩ := bind_some read
    cases read
    obtain ⟨-, rfl⟩ := readNat_some readLine
    obtain ⟨-, rfl⟩ := readNat_some readBase
    obtain ⟨-, rfl⟩ := readNat_some readCare
    obtain ⟨-, rfl⟩ := readNat_some readClass
    exact ⟨trivial, by simp only [entryBytes, List.append_assoc]⟩
  obtain ⟨⟨few, -⟩, rfl⟩ := spells_list entry _ _ _ readEntries
  exact ⟨few, by simp⟩

theorem marksClear_spelled {body : List Byte} {q : Nat × List Nat} (read : readBody readMarksClear body = some q) :
    q.2.length < 256 ∧ body = BitVec.ofNat 8 q.1 :: counted (be 1) q.2 := by
  obtain ⟨z, _, readZone, read⟩ := bind_some (readBody_some read)
  obtain ⟨names, _, readNames, read⟩ := bind_some read
  cases read
  obtain ⟨-, rfl⟩ := readNat_some readZone
  obtain ⟨⟨few, -⟩, rfl⟩ := spells_list (spells_nat 1) _ _ _ readNames
  exact ⟨few, by simp⟩

theorem climateBand_spelled {body : List Byte} {q : Nat × Band} (read : readBody readClimateBand body = some q) :
    q.2.fits ∧ (body = BitVec.ofNat 8 q.1 :: q.2.sent ∨ body = BitVec.ofNat 8 q.1 :: q.2.sentWithout) := by
  obtain ⟨z, _, readZone, read⟩ := bind_some (readBody_some read)
  obtain ⟨rhTarget, _, readRhTarget, read⟩ := bind_some read
  obtain ⟨rhHalf, _, readRhHalf, read⟩ := bind_some read
  obtain ⟨rhGuard, _, readRhGuard, read⟩ := bind_some read
  obtain ⟨swing, _, readSwing, read⟩ := bind_some read
  obtain ⟨tempTarget, _, readTempTarget, read⟩ := bind_some read
  obtain ⟨tempHalf, _, readTempHalf, read⟩ := bind_some read
  obtain ⟨tempGuard, _, readTempGuard, read⟩ := bind_some read
  obtain ⟨allowance, _, readAllowance, read⟩ := bind_some read
  cases read
  obtain ⟨-, rfl⟩ := readNat_some readZone
  obtain ⟨h1, rfl⟩ := readNat_some readRhTarget
  obtain ⟨h2, rfl⟩ := readNat_some readRhHalf
  obtain ⟨h3, rfl⟩ := readNat_some readRhGuard
  obtain ⟨h4, rfl⟩ := readNat_some readSwing
  obtain ⟨h5, rfl⟩ := readNat_some readTempTarget
  obtain ⟨h6, rfl⟩ := readNat_some readTempHalf
  obtain ⟨h7, rfl⟩ := readNat_some readTempGuard
  obtain ⟨h8, rfl⟩ := spells_optional (spells_nat 1) _ _ _ readAllowance
  cases allowance with
  | none => exact ⟨⟨h1, h2, h3, h4, h5, h6, h7, show 4 < 256 by decide⟩, .inr (by simp [Band.sentWithout, optional])⟩
  | some v => exact ⟨⟨h1, h2, h3, h4, h5, h6, h7, h8 v rfl⟩, .inl (by simp [Band.sent, optional])⟩

theorem bankDefine_spelled {body : List Byte} {q : Nat × DeviceAddr × Nat} (read : readBody readBankDefine body = some q) :
    ∃ slew, body = [BitVec.ofNat 8 q.1, BitVec.ofNat 8 q.2.1.line, BitVec.ofNat 8 q.2.1.address] ++ optional (be 1) slew := by
  obtain ⟨b, _, readBank, read⟩ := bind_some (readBody_some read)
  obtain ⟨d, _, readLouvre, read⟩ := bind_some read
  obtain ⟨slew, _, readSlew, read⟩ := bind_some read
  cases read
  obtain ⟨-, rfl⟩ := readNat_some readBank
  obtain ⟨-, rfl⟩ := spells_device _ _ _ readLouvre
  obtain ⟨-, rfl⟩ := spells_optional (spells_nat 1) _ _ _ readSlew
  exact ⟨slew, by simp [DeviceAddr.bytes]⟩

/-! ## Bodies of any bytes, read -/

/-- A run of bytes is spelled by the count they come to. -/
theorem spelled_nat {bs : List Byte} {n : Nat} (h : bs.length = n) : ∃ v, v < 256 ^ n ∧ bs = be n v :=
  h ▸ ⟨natOf bs, natOf_lt bs, (be_natOf bs).symm⟩

theorem spelled_two {bs : List Byte} {m n : Nat} (h : bs.length = m + n) :
    ∃ v w, v < 256 ^ m ∧ w < 256 ^ n ∧ bs = be m v ++ be n w := by
  obtain ⟨v, hv, first⟩ := spelled_nat (bs := bs.take m) (n := m) (by rw [List.length_take]; omega)
  obtain ⟨w, hw, second⟩ := spelled_nat (bs := bs.drop m) (n := n) (by rw [List.length_drop]; omega)
  exact ⟨v, w, hv, hw, by rw [← first, ← second, List.take_append_drop]⟩

theorem cons_eq_be (z : Byte) (bs : List Byte) : z :: bs = be 1 z.toNat ++ bs := by simp

theorem readBody_marks (z : Byte) {names : List Byte} (few : names.length < 256) :
    readBody readMarksClear (z :: counted (fun b => [b]) names) = some (z.toNat, names.map BitVec.toNat) := by
  have form : z :: counted (fun b => [b]) names = be 1 z.toNat ++ counted (be 1) (names.map BitVec.toNat) := by
    simp [counted, List.flatMap_map]
  have reads : Reads readMarksClear (fun q : Nat × List Nat => be 1 q.1 ++ counted (be 1) q.2)
      (z.toNat, names.map BitVec.toNat) := by
    intro rest
    unfold readMarksClear
    simp only [List.append_assoc]
    rw [reader_bind _ _ _ _ _ (readNat_append 1 z.toNat _ z.isLt),
      reader_bind _ _ _ _ _ (readList_reads _ _ _ (by simpa using few) (fun v hv => ?_) _)]
    · rfl
    · obtain ⟨b, -, rfl⟩ := List.mem_map.1 hv
      exact reads_nat 1 _ b.isLt
  rw [form]
  exact readBody_reads _ _ _ reads

/-- A binding entry of four bytes as the reader gives it. -/
def entryOf (e : Byte × Byte × Byte × Byte) : Nat × Nat × Nat × Nat := (e.1.toNat, e.2.1.toNat, e.2.2.1.toNat, e.2.2.2.toNat)

theorem readBody_entries (z : Byte) {es : List (Byte × Byte × Byte × Byte)} (few : es.length < 256) :
    readBody readZoneBind (z :: counted (fun e => [e.1, e.2.1, e.2.2.1, e.2.2.2]) es) = some (z.toNat, es.map entryOf) := by
  have form : z :: counted (fun e => [e.1, e.2.1, e.2.2.1, e.2.2.2]) es
      = be 1 z.toNat ++ counted entryBytes (es.map entryOf) := by
    simp [counted, List.flatMap_map, entryBytes, entryOf]
  have reads : Reads readZoneBind (fun q : Nat × List (Nat × Nat × Nat × Nat) => be 1 q.1 ++ counted entryBytes q.2)
      (z.toNat, es.map entryOf) := by
    intro rest
    unfold readZoneBind
    simp only [List.append_assoc]
    rw [reader_bind _ _ _ _ _ (readNat_append 1 z.toNat _ z.isLt),
      reader_bind _ _ _ _ _ (readList_reads _ entryBytes _ (by simpa using few) (fun v hv => ?_) _)]
    · rfl
    · obtain ⟨e, -, rfl⟩ := List.mem_map.1 hv
      intro rest
      simp only [entryBytes, entryOf, List.append_assoc]
      rw [reader_bind _ _ _ _ _ (readNat_append 1 e.1.toNat _ e.1.isLt),
        reader_bind _ _ _ _ _ (readNat_append 1 e.2.1.toNat _ e.2.1.isLt),
        reader_bind _ _ _ _ _ (readNat_append 1 e.2.2.1.toNat _ e.2.2.1.isLt),
        reader_bind _ _ _ _ _ (readNat_append 1 e.2.2.2.toNat _ e.2.2.2.isLt)]
      rfl
  rw [form]
  exact readBody_reads _ _ _ reads

/-! ## Checks -/

section
variable {z : Nat} {s : State} (work : Zone → Answer)

theorem onZone_invalid (h : z < 1 ∨ 16 < z) : onZone z s work = .refuse .range := by
  have : validZone z = false := by rw [Bool.eq_false_iff, Ne, validZone_iff]; omega
  rw [onZone, this]
  rfl

theorem onZone_unset (h1 : 1 ≤ z) (h2 : z ≤ 16) (unset : s.zone? z = none) : onZone z s work = .refuse .state := by
  rw [onZone, (validZone_iff z).mpr ⟨h1, h2⟩, unset]
  rfl

end

theorem allSome_none {α β : Type} {f : α → Option β} {l : List α} (h : ∃ a ∈ l, f a = none) : allSome f l = none := by
  induction l with
  | nil => obtain ⟨a, ⟨⟩, -⟩ := h
  | cons b l ih =>
    obtain ⟨a, ha, bad⟩ := h
    unfold allSome
    rcases List.mem_cons.mp ha with rfl | ha
    · rw [bad]
    · rw [ih ⟨a, ha, bad⟩]
      cases f b <;> rfl

theorem Mark.ofCode?_none {n : Nat} (h : 11 ≤ n) : Mark.ofCode? n = none := List.getElem?_eq_none h

theorem bindingOf?_none {line base care cls : Nat} (h : line < 1 ∨ 2 < line ∨ 127 < base ∨ 127 < care ∨ 1 < cls) :
    bindingOf? (line, base, care, cls) = none := by
  rw [bindingOf?]
  split
  · next c known =>
    have inSet : cls ≤ 1 := by
      rcases Nat.lt_or_ge 1 cls with beyond | inSet
      · obtain ⟨n, hn⟩ := Nat.exists_eq_add_of_le' beyond
        rw [hn] at known
        cases known
      · exact inSet
    refine if_neg ?_
    rw [Bool.and_eq_true, Bool.and_eq_true, validLine_iff, decide_eq_true_iff, decide_eq_true_iff]
    omega
  · rfl

theorem Band.inRange_iff (b : Band) : b.inRange = true ↔
    ((((((((300 ≤ b.rhTarget ∧ b.rhTarget ≤ 700) ∧ 10 ≤ b.rhHalf ∧ b.rhHalf ≤ 200) ∧ b.rhGuard ≤ b.rhHalf)
      ∧ 10 ≤ b.swingLimit ∧ b.swingLimit ≤ 400) ∧ 100 ≤ b.tempTarget ∧ b.tempTarget ≤ 300)
      ∧ 5 ≤ b.tempHalf ∧ b.tempHalf ≤ 100) ∧ b.tempGuard ≤ b.tempHalf) ∧ b.trimAllowance ≤ 15) := by
  simp only [Band.inRange, Machine.inRange, Bool.and_eq_true, decide_eq_true_eq]

theorem DeviceAddr.inRange_iff (d : DeviceAddr) :
    d.inRange = true ↔ (1 ≤ d.line ∧ d.line ≤ 2) ∧ 1 ≤ d.address ∧ d.address ≤ 126 := by
  rw [DeviceAddr.inRange, Bool.and_eq_true, validLine_iff, validAddress_iff]

/-- A field outside its range fails the checks of R2. -/
theorem DefinitionFields.definition?_none {f : DefinitionFields} (bad : f.outOfRange) : f.definition? = none := by
  unfold definition?
  split
  swap
  · rfl
  next policy escalate knownPolicy knownEscalate =>
  have policyInSet : f.policy ≤ 1 := by
    rcases Nat.lt_or_ge 1 f.policy with beyond | inSet
    · obtain ⟨n, hn⟩ := Nat.exists_eq_add_of_le' beyond
      rw [hn] at knownPolicy
      cases knownPolicy
    · exact inSet
  have escalateInSet : ∀ v, f.escalate = some v → v ≤ 1 := by
    intro v hv
    rcases Nat.lt_or_ge 1 v with beyond | inSet
    · obtain ⟨n, hn⟩ := Nat.exists_eq_add_of_le' beyond
      rw [hv, hn] at knownEscalate
      cases knownEscalate
    · exact inSet
  refine if_neg fun good => ?_
  simp only [Machine.inRange, Bool.and_eq_true, decide_eq_true_eq, Option.all_eq_true, DeviceAddr.inRange_iff, List.all_eq_true,
    validBank_iff] at good
  obtain ⟨⟨⟨⟨⟨⟨⟨⟨⟨⟨⟨⟨⟨c1, c2⟩, floor⟩, u1, u2⟩, sensitivity⟩, limit⟩, derate⟩, plant⟩, dimmer⟩, trim⟩, few⟩, banks⟩, once⟩, surge⟩ :=
    good
  rcases bad with h | h | h | h | ⟨v, hv, h⟩ | h | ⟨v, hv, h⟩ | ⟨v, hv, h⟩ | h | ⟨a, ha, h⟩ | ⟨l, hl, h⟩ | ⟨v, hv, h⟩ | ⟨v, hv, h⟩
  · omega
  · omega
  · omega
  · omega
  · rw [hv, Option.getD_some] at u1 u2; omega
  · omega
  · rw [hv, Option.getD_some] at limit; omega
  · rw [hv, Option.getD_some] at derate; omega
  · omega
  · rcases ha with ha | ha
    · have := dimmer a ha; omega
    · have := trim a ha; omega
  · rw [hl, Option.getD_some] at few banks once
    rcases h with h | ⟨b, hb, h⟩ | h
    · omega
    · have := banks b hb; omega
    · exact h once
  · have := surge v hv; omega
  · have := escalateInSet v hv; omega

section
variable {s : State}

theorem State.known_eq_false {d : Option DeviceAddr} : s.known d = false ↔ ∃ a, d = some a ∧ s.device? a = none := by
  cases d <;> simp [State.known]

theorem State.ofKind_eq_false {d : Option DeviceAddr} {k : DeviceKind} (known : s.known d = true) :
    s.ofKind d k = false ↔ ∃ a e, s.device? a = some e ∧ d = some a ∧ e.kind ≠ k := by
  cases d with
  | none => simp [State.ofKind]
  | some a =>
    obtain ⟨e, he⟩ := Option.isSome_iff_exists.mp (show (s.device? a).isSome = true from known)
    simp [State.ofKind, he]

theorem State.namedElsewhere_iff {z : Nat} {d : Option DeviceAddr} : s.namedElsewhere z d = true ↔
    ∃ a k x, d = some a ∧ k ≠ z ∧ s.zone? k = some x ∧ (x.defn.dimmer = some a ∨ x.defn.trim = some a) := by
  cases d with
  | none => simp [State.namedElsewhere]
  | some a =>
    simp only [State.namedElsewhere, Option.any_some, List.any_eq_true, Prod.exists, State.mem_definedZones, Bool.and_eq_true,
      Bool.or_eq_true, bne_iff_ne, beq_iff_eq, Option.some.injEq]
    exact ⟨fun ⟨k, x, hx, other, named⟩ => ⟨a, k, x, rfl, other, hx, named⟩,
      fun ⟨_, k, x, same, other, hx, named⟩ => ⟨k, x, hx, other, same ▸ named⟩⟩

/-- How many other zones name a bank. -/
theorem State.servedZones_others (z b : Nat) : ((s.servedZones b).filter fun zr => zr.1 != z).length
    = (zoneNumbers.filter fun k => k != z && (s.zone? k).any fun x => x.defn.banks.contains b).length := by
  unfold State.servedZones State.definedZones
  rw [List.filter_filter]
  induction zoneNumbers with
  | nil => rfl
  | cons k ks ih =>
    cases hx : s.zone? k with
    | none => simpa [hx] using ih
    | some x =>
      simp only [List.filterMap_cons, List.filter_cons, hx, Option.map_some, Option.any_some]
      split
      · exact congrArg (· + 1) ih
      · exact ih

/-- The checks of R3 in their order (O13). -/
theorem State.definitionRefused_spec (z : Nat) (d : Definition) :
    (s.namesMissing d → s.definitionRefused z d = some .noSuch)
    ∧ (¬ s.namesMissing d → s.namesUnfit z d → s.definitionRefused z d = some .conflict)
    ∧ (¬ s.namesMissing d → ¬ s.namesUnfit z d → s.definitionRefused z d = none) := by
  have missing : s.namesMissing d ↔ (!s.known d.dimmer || !s.known d.trim) = true ∨ (d.banks.any fun b => (s.bank? b).isNone) = true := by
    simp only [State.namesMissing, Bool.or_eq_true, Bool.not_eq_true', State.known_eq_false, List.any_eq_true, Option.isNone_iff_eq_none]
    constructor
    · rintro (⟨a, named | named, gone⟩ | bank)
      · exact .inl (.inl ⟨a, named, gone⟩)
      · exact .inl (.inr ⟨a, named, gone⟩)
      · exact .inr bank
    · rintro ((⟨a, named, gone⟩ | ⟨a, named, gone⟩) | bank)
      · exact .inl ⟨a, .inl named, gone⟩
      · exact .inl ⟨a, .inr named, gone⟩
      · exact .inr bank
  have unfit (known : ¬ s.namesMissing d) : s.namesUnfit z d ↔ (!s.ofKind d.dimmer .dimmer || !s.ofKind d.trim .trimUnit) = true
      ∨ (s.namedElsewhere z d.dimmer || s.namedElsewhere z d.trim) = true
      ∨ (d.banks.any fun b => decide (Config.zonesPerBank ≤ ((s.servedZones b).filter fun zr => zr.1 != z).length)) = true := by
    rw [missing] at known
    simp only [not_or, Bool.or_eq_true, Bool.not_eq_true', Bool.not_eq_false] at known
    simp only [State.namesUnfit, Bool.or_eq_true, Bool.not_eq_true', State.ofKind_eq_false known.1.1, State.ofKind_eq_false known.1.2,
      State.namedElsewhere_iff, List.any_eq_true, decide_eq_true_eq, State.servedZones_others, Config.zonesPerBank]
    refine or_congr ?_ (or_congr ?_ Iff.rfl)
    · constructor
      · rintro ⟨a, e, he, named | named⟩
        · exact .inl ⟨a, e, he, named⟩
        · exact .inr ⟨a, e, he, named⟩
      · rintro (⟨a, e, he, named⟩ | ⟨a, e, he, named⟩)
        · exact ⟨a, e, he, .inl named⟩
        · exact ⟨a, e, he, .inr named⟩
    · constructor
      · rintro ⟨a, k, x, named | named, other⟩
        · exact .inl ⟨a, k, x, named, other⟩
        · exact .inr ⟨a, k, x, named, other⟩
      · rintro (⟨a, k, x, named, other⟩ | ⟨a, k, x, named, other⟩)
        · exact ⟨a, k, x, .inl named, other⟩
        · exact ⟨a, k, x, .inr named, other⟩
  unfold State.definitionRefused
  refine ⟨fun gone => ?_, fun here bad => ?_, fun here good => ?_⟩
  · rcases missing.mp gone with device | bank
    · rw [if_pos device]
    · rw [if_pos bank, ite_self]
  · have parts := (unfit here).mp bad
    rw [missing, not_or] at here
    rw [if_neg here.1, if_neg here.2]
    rcases parts with kind | named | bank
    · rw [if_pos kind]
    · rw [if_pos named, ite_self]
    · rw [if_pos bank, ite_self, ite_self]
  · rw [unfit here, not_or, not_or] at good
    rw [missing, not_or] at here
    rw [if_neg here.1, if_neg here.2, if_neg good.1, if_neg good.2.1, if_neg good.2.2]

end

end Sys2Proof.Machine

namespace Sys2Proof.Proofs

open Sys2Proof Sys2Proof.Machine

/-- Settles O12: a kind outside the catalogue has no form; a body of another length, or one that no values spell, is not read. -/
theorem refusedBeforeOwningRule : Obligations.RefusedBeforeOwningRule := by
  refine ⟨fun s kind tag body outside taken => ?_, fun s c n tag body listed other taken => ?_, fun s tag body =>
    ⟨fun unspelled taken => ?_, fun unspelled taken => ?_, fun unspelled taken => ?_, fun unspelled taken => ?_,
      fun unspelled taken => ?_⟩⟩
  · have asks : (Instr.unknownRequestKind kind tag body).request? = some ⟨tag, kind, body⟩ := by simp [Instr.request?, outside]
    have beyond : kind.toNat < 1 ∨ 31 < kind.toNat := by
      rw [inCatalogue, Bool.and_eq_false_iff, decide_eq_false_iff_not, decide_eq_false_iff_not] at outside
      omega
    have unknown : answerTo ⟨tag, kind, body⟩ s = .refuse .unknown := by
      unfold answerTo
      rcases beyond with zero | large
      · rw [show kind.toNat = 0 by omega]
        rfl
      · obtain ⟨n, hn⟩ := Nat.exists_eq_add_of_le' large
        dsimp only
        rw [hn]
        rfl
    rw [exec_request s asks, request_takenUp asks taken, State.handled, unknown, State.answer, replyKind, if_neg (by rw [← inCatalogue, outside]; exact Bool.false_ne_true)]
    rfl
  · have unread {α : Type} {r : Reader α} {f : Frame} {work : α → State → Answer} (asks : (c tag body).request? = some f)
        (form : answerTo f = withBody r f.body work) (same : f.body = body) (takes : Takes r n) :
        Answers (c tag body) s .shape [] s :=
      taken.unread asks form (takes.unread (same ▸ other))
    simp only [List.mem_cons, Prod.mk.injEq, List.not_mem_nil, or_false] at listed
    rcases listed with ⟨rfl, rfl⟩ | ⟨rfl, rfl⟩ | ⟨rfl, rfl⟩ | ⟨rfl, rfl⟩ | ⟨rfl, rfl⟩ | ⟨rfl, rfl⟩ | ⟨rfl, rfl⟩ | ⟨rfl, rfl⟩
      | ⟨rfl, rfl⟩ | ⟨rfl, rfl⟩ | ⟨rfl, rfl⟩ | ⟨rfl, rfl⟩ | ⟨rfl, rfl⟩ | ⟨rfl, rfl⟩ | ⟨rfl, rfl⟩ | ⟨rfl, rfl⟩ | ⟨rfl, rfl⟩
      | ⟨rfl, rfl⟩ | ⟨rfl, rfl⟩ | ⟨rfl, rfl⟩ | ⟨rfl, rfl⟩ | ⟨rfl, rfl⟩ | ⟨rfl, rfl⟩ | ⟨rfl, rfl⟩ | ⟨rfl, rfl⟩ | ⟨rfl, rfl⟩
    · exact unread rfl (answerTo_identify tag body) rfl (takes_pure _)
    · exact unread rfl (answerTo_timeSet tag body) rfl (takes_nat 4)
    · exact unread rfl (answerTo_timeRead tag body) rfl (takes_pure _)
    · exact unread rfl (answerTo_zoneOpen tag body) rfl (takes_nat 1)
    · exact unread rfl (answerTo_zoneClose tag body) rfl (takes_nat 1)
    · exact unread rfl (answerTo_zoneRead tag body) rfl (takes_nat 1)
    · exact unread rfl (answerTo_seasonBegin tag body) rfl takes_seasonBegin
    · exact unread rfl (answerTo_seasonEnd tag body) rfl (takes_nat 1)
    · exact unread rfl (answerTo_accountRead tag body) rfl (takes_nat 1)
    · exact unread rfl (answerTo_accountAdjust tag body) rfl takes_accountAdjust
    · exact unread rfl (answerTo_historyRead tag body) rfl (takes_nat 1)
    · exact unread rfl (answerTo_occupancy tag body) rfl takes_occupancy
    · exact unread rfl (answerTo_bankRead tag body) rfl (takes_nat 1)
    · exact unread rfl (answerTo_plantDefine tag body) rfl takes_plantDefine
    · exact unread rfl (answerTo_plantHold tag body) rfl takes_pair
    · exact unread rfl (answerTo_plantRelease tag body) rfl (takes_nat 1)
    · exact unread rfl (answerTo_plantRead tag body) rfl (takes_nat 1)
    · exact unread rfl (answerTo_lineSet tag body) rfl takes_pair
    · exact unread rfl (answerTo_lineEnrol tag body) rfl (takes_nat 1)
    · exact unread rfl (answerTo_lineEnable tag body) rfl (takes_nat 1)
    · exact unread rfl (answerTo_lineRead tag body) rfl (takes_nat 1)
    · exact unread rfl (answerTo_deviceRead tag body) rfl takes_device
    · exact unread rfl (answerTo_deviceRetire tag body) rfl takes_device
    · exact unread rfl (answerTo_reportSet tag body) rfl takes_reportSet
    · exact unread rfl (answerTo_checkpointNow tag body) rfl (takes_pure _)
    · exact unread rfl (answerTo_restart tag body) rfl (takes_pure _)
  · refine taken.unread rfl (answerTo_zoneDefine tag body) (Option.eq_none_iff_forall_ne_some.mpr fun q read => ?_)
    obtain ⟨fits, spelled⟩ := zoneDefine_spelled read
    exact unspelled _ q.2 fits spelled
  · refine taken.unread rfl (answerTo_zoneBind tag body) (Option.eq_none_iff_forall_ne_some.mpr fun q read => ?_)
    obtain ⟨few, spelled⟩ := zoneBind_spelled read
    refine unspelled (BitVec.ofNat 8 q.1) (q.2.map fun e =>
      (BitVec.ofNat 8 e.1, BitVec.ofNat 8 e.2.1, BitVec.ofNat 8 e.2.2.1, BitVec.ofNat 8 e.2.2.2)) (by simpa using few) ?_
    refine spelled.trans ?_
    simp only [counted, List.flatMap_map, List.length_map]
    exact congrArg (fun form => BitVec.ofNat 8 q.1 :: (be 1 q.2.length ++ q.2.flatMap form)) (funext fun e => by simp [entryBytes])
  · refine taken.unread rfl (answerTo_marksClear tag body) (Option.eq_none_iff_forall_ne_some.mpr fun q read => ?_)
    obtain ⟨few, spelled⟩ := marksClear_spelled read
    refine unspelled (BitVec.ofNat 8 q.1) (q.2.map (BitVec.ofNat 8)) (by simpa using few) ?_
    refine spelled.trans ?_
    simp only [counted, List.flatMap_map, List.length_map]
    exact congrArg (fun form => BitVec.ofNat 8 q.1 :: (be 1 q.2.length ++ q.2.flatMap form)) (funext fun v => be_one v)
  · refine taken.unread rfl (answerTo_climateBand tag body) (Option.eq_none_iff_forall_ne_some.mpr fun q read => ?_)
    obtain ⟨fits, sent | without⟩ := climateBand_spelled read
    · exact (unspelled _ q.2 fits).1 sent
    · exact (unspelled _ q.2 fits).2 without
  · refine taken.unread rfl (answerTo_bankDefine tag body) (Option.eq_none_iff_forall_ne_some.mpr fun q read => ?_)
    obtain ⟨slew, spelled⟩ := bankDefine_spelled read
    refine unspelled (.ofNat 8 q.1) (.ofNat 8 q.2.1.line) (.ofNat 8 q.2.1.address) (slew.map (BitVec.ofNat 8)) ?_
    cases slew <;> simpa [Machine.optional] using spelled

/-- Settles O13: the requests of a defined zone share the checks of its number; the checks behind it are those of each rule. -/
theorem zoneRequestRefusals : Obligations.ZoneRequestRefusals := by
  refine ⟨fun s c n tag z rest forms taken => ?_, fun s tag z r hr => ⟨fun names few bad taken => ?_, fun b fits bad taken => ?_,
    fun es few bad taken => ?_⟩, fun s tag z f fits taken => ?_⟩
  · have shared : ∃ f work, (c (z :: rest)).request? = some f ∧ answerTo f s = onZone z.toNat s work := by
      rcases forms with ⟨listed, length⟩ | ⟨rfl, names, few, rfl⟩ | ⟨rfl, b, fits, rfl | rfl⟩ | ⟨rfl, es, few, rfl⟩
      · have alone (none : rest.length = 0) : readBody (readNat 1) (z :: rest) = some z.toNat := by
          rw [List.length_eq_zero_iff.mp none, readBody_one]
        have front : z :: rest = be 1 z.toNat ++ rest := cons_eq_be z rest
        simp only [List.mem_cons, Prod.mk.injEq, List.not_mem_nil, or_false] at listed
        rcases listed with ⟨rfl, rfl⟩ | ⟨rfl, rfl⟩ | ⟨rfl, rfl⟩ | ⟨rfl, rfl⟩ | ⟨rfl, rfl⟩ | ⟨rfl, rfl⟩ | ⟨rfl, rfl⟩ | ⟨rfl, rfl⟩
        · exact ⟨_, _, rfl, by rw [answerTo_zoneOpen, withBody_some (alone length)]; rfl⟩
        · exact ⟨_, _, rfl, by rw [answerTo_zoneClose, withBody_some (alone length)]; rfl⟩
        · obtain ⟨a, p, ha, hp, rfl⟩ := spelled_two (m := 4) (n := 2) length
          exact ⟨_, _, rfl, by
            rw [answerTo_seasonBegin, front, ← List.append_assoc, withBody_some (readBody_seasonBegin z.isLt ha hp)]; rfl⟩
        · exact ⟨_, _, rfl, by rw [answerTo_seasonEnd, withBody_some (alone length)]; rfl⟩
        · exact ⟨_, _, rfl, by rw [answerTo_accountRead, withBody_some (alone length)]; rfl⟩
        · obtain ⟨d, q, hd, hq, rfl⟩ := spelled_two (m := 6) (n := 4) length
          exact ⟨_, _, rfl, by
            rw [answerTo_accountAdjust, front, ← List.append_assoc, withBody_some (readBody_accountAdjust z.isLt hd hq)]; rfl⟩
        · exact ⟨_, _, rfl, by rw [answerTo_historyRead, withBody_some (alone length)]; rfl⟩
        · obtain ⟨v, hv, rfl⟩ := spelled_nat length
          exact ⟨_, _, rfl, by rw [answerTo_occupancy, front, withBody_some (readBody_occupancy z.isLt hv)]; rfl⟩
      · exact ⟨_, _, rfl, by rw [answerTo_marksClear, withBody_some (readBody_marks z few)]; rfl⟩
      · exact ⟨_, _, rfl, by
          rw [answerTo_climateBand, cons_eq_be z, withBody_some (readBody_climateBand z.isLt fits)]; rfl⟩
      · exact ⟨_, _, rfl, by
          rw [answerTo_climateBand, cons_eq_be z, withBody_some (readBody_climateBand_without z.isLt fits)]; rfl⟩
      · exact ⟨_, _, rfl, by rw [answerTo_zoneBind, withBody_some (readBody_entries z few)]; rfl⟩
    obtain ⟨f, work, asks, is⟩ := shared
    exact ⟨fun outside => taken.refused asks (by rw [is, onZone_invalid _ outside]),
      fun h1 h2 unset => taken.refused asks (by rw [is, onZone_unset _ h1 h2 unset])⟩
  · refine taken.refused rfl ?_
    rw [answerTo_marksClear, withBody_some (readBody_marks z few), answerMarksClear, onZone_some _ hr]
    obtain ⟨b, hb, unknown⟩ := bad
    rw [allSome_none ⟨b.toNat, List.mem_map_of_mem hb, Mark.ofCode?_none unknown⟩]
  · refine taken.refused rfl ?_
    rw [answerTo_climateBand, cons_eq_be z, withBody_some (readBody_climateBand z.isLt fits),
      answerClimateBand, onZone_some _ hr]
    refine if_neg (?_ : ¬ b.inRange = true)
    rw [Band.inRange_iff]
    omega
  · refine taken.refused rfl ?_
    rw [answerTo_zoneBind, withBody_some (readBody_entries z few), answerZoneBind, onZone_some _ hr]
    by_cases many : 4 < es.length
    · exact if_pos (by simpa using many)
    · obtain ⟨e, he, outside⟩ := bad.resolve_left many
      rw [if_neg (by simpa using many), allSome_none ⟨entryOf e, List.mem_map_of_mem he, bindingOf?_none outside⟩]
  · have asked : answerTo ⟨tag, 0x04, z :: f.bytes⟩ s = answerZoneDefine (z.toNat, f) s := by
      rw [answerTo_zoneDefine, cons_eq_be z, withBody_some (readBody_zoneDefine z.isLt fits)]
    refine ⟨fun outside => taken.refused rfl (asked.trans ?_), fun bad => taken.refused rfl (asked.trans ?_), fun d defined h1 h2 => ?_⟩
    · have : validZone z.toNat = false := by rw [Bool.eq_false_iff, Ne, validZone_iff]; omega
      rw [answerZoneDefine, this]
      rfl
    · rw [answerZoneDefine, DefinitionFields.definition?_none bad]
      exact ite_self _
    · have checked : answerZoneDefine (z.toNat, f) s = match s.definitionRefused z.toNat d with
          | some status => .refuse status
          | none => .reply .done [] ((s.defineZone z.toNat d).noteConfiguration s) := by
        rw [answerZoneDefine, (validZone_iff _).mpr ⟨h1, h2⟩, defined]
        rfl
      obtain ⟨missing, unfit, passes⟩ := s.definitionRefused_spec z.toNat d
      exact ⟨fun gone => taken.refused rfl (by rw [asked, checked, missing gone]),
        fun here bad => taken.refused rfl (by rw [asked, checked, unfit here bad]), passes⟩

end Sys2Proof.Proofs
end

section
/-! PROOFS. The requests that read: each field of a record in the form of its reply (O14, O15). -/

namespace Sys2Proof.Machine

theorem Answers.content_eq {c : Instr} {s after : State} {status : Status} {content content' : List Byte}
    (answers : Answers c s status content after) (same : content = content') : Answers c s status content' after :=
  same ▸ answers

/-! ## The forms of a reply (R159) -/

theorem yesNo_eq (b : Bool) : yesNo b = flag b := by cases b <;> rfl

theorem ifPresent_eq {α : Type} (x : Option α) (form : α → List Byte) : ifPresent x form = optional form x := by
  cases x <;> rfl

theorem ifPresent_congr {α : Type} {x : Option α} {form form' : α → List Byte} (same : ∀ a, form a = form' a) :
    ifPresent x form = optional form' x := by
  rw [funext same, ifPresent_eq]

theorem listOf_eq {α : Type} (xs : List α) (form : α → List Byte) : listOf xs form = counted form xs := by
  simp [listOf, counted]

theorem listOf_congr {α : Type} {xs : List α} {form form' : α → List Byte} (same : ∀ a, form a = form' a) :
    listOf xs form = counted form' xs := by
  rw [funext same, listOf_eq]

theorem signed_eq (v : Int) : signed v = beInt 2 v := rfl

theorem Policy.named (x : Policy) : nameOf 0 [.visibility, .budget] x = be 1 x.code := by cases x <;> rfl

theorem Condition.named (x : Condition) :
    nameOf 0 [.free, .within, .pressure, .restricted, .exhausted, .dark] x = be 1 x.code := by cases x <;> rfl

theorem Duty.named (x : Duty) : dutyByte x = be 1 x.code := by cases x <;> rfl

theorem BandState.named (x : BandState) : classByte x = be 1 x.code := by cases x <;> rfl

theorem TrimDir.named (x : TrimDir) : nameOf 1 [.humidify, .dry] x = be 1 x.code := by cases x <;> rfl

theorem Mark.named (x : Mark) :
    nameOf 0 [.rhOut, .rhSwing, .tempOut, .lightPressure, .exhausted, .blindLight, .blindClimate, .unresolved, .accountGap,
      .accountLost, .saturated] x = be 1 x.code := by
  cases x <;> rfl

theorem BankState.named (x : BankState) : nameOf 1 [.active, .faulted] x = be 1 x.code := by cases x <;> rfl

theorem PlantState.named (x : PlantState) : nameOf 1 [.idle, .changeover, .running, .held, .faulted] x = be 1 x.code := by
  cases x <;> rfl

theorem LineState.named (x : LineState) : nameOf 0 [.off, .active, .enrolling, .recovering, .disabled] x = be 1 x.code := by
  cases x <;> rfl

theorem DeviceKind.named (x : DeviceKind) :
    nameOf 1 [.lightSensor, .climateSensor, .lightClimateSensor, .dimmer, .louvre, .trimUnit, .plantController] x
      = be 1 x.code := by
  cases x <;> rfl

theorem DeviceState.named (x : DeviceState) : nameOf 0 [.enrolled, .active, .suspect, .faulted, .absent] x = be 1 x.code := by
  cases x <;> rfl

theorem FaultReason.named (x : FaultReason) : reasonByte x = be 1 x.code := by cases x <;> rfl

theorem DeviceKind.isActuator_eq (x : DeviceKind) :
    x.isActuator = decide (x ∈ [DeviceKind.dimmer, .louvre, .trimUnit, .plantController]) := by
  cases x <;> rfl

theorem Demand.sent (d : Demand) : demandBytesOf d = d.bytes := by rw [demandBytesOf, Duty.named, Demand.bytes]

theorem Quantity.sent (q : Quantity) : signed q.value ++ yesNo q.valid = q.bytes := by rw [yesNo_eq]; rfl

theorem Bucket.sent (b : Bucket) : bucketBytes b = b.bytes := by
  have count : (if 255 ≤ b.samples then 255 else b.samples) = min b.samples 255 := by split <;> omega
  rw [bucketBytes, Bucket.bytes, count]
  cases b.rh <;> cases b.temp <;> rfl

/-! ## The demand of a zone, as its plant holds it (R19) -/

/-- The only demand of a zone in a list is found there. -/
theorem find?_zone {l : List Demand} {x : Demand} {z : Nat} (held : x ∈ l) (is : x.zone = z)
    (only : ∀ y ∈ l, y.zone = z → y = x) : l.find? (·.zone == z) = some x := by
  cases found : l.find? (·.zone == z) with
  | none => exact absurd (beq_iff_eq.mpr is) (by simpa using List.find?_eq_none.mp found x held)
  | some y => rw [only y (List.mem_of_find?_eq_some found) (by simpa using List.find?_some found)]

theorem State.demandIsSent (s : State) (z : Nat) (r : Zone) :
    s.DemandIsSent z r (optional (s.demandBytes z) r.climate.demand) := by
  refine ⟨fun none => by rw [none]; rfl, fun dm p x asked plant is only => ⟨fun served => ?_, fun notServed waits => ?_⟩⟩
  · have found := find?_zone served is fun y hy => only y (.inl hy)
    rw [asked, Machine.optional, State.demandBytes, plant]
    simp only [found, Duty.named]
    rfl
  · have missed : p.service.find? (·.zone == z) = none := by
      refine List.find?_eq_none.mpr fun y hy here => notServed ?_
      rw [← only y (.inl hy) (by simpa using here)]
      exact hy
    have found := find?_zone waits is fun y hy => only y (.inr hy)
    rw [asked, Machine.optional, State.demandBytes, plant]
    simp only [missed, found, Duty.named]
    rfl

/-! ## The zones a bank serves, and the owner of a device -/

/-- What is sent of each zone that names a bank, by its number. -/
theorem State.servedZones_sent {s : State} {b : Nat} {form : Nat → List Byte} {byRecord : Nat × Zone → List Byte}
    (same : ∀ z x, s.zone? z = some x → form z = byRecord (z, x)) :
    listOf (zoneNumbers.filter fun z => (s.zone? z).any fun x => decide (b ∈ x.defn.banks)) form
      = counted byRecord (s.servedZones b) := by
  have lists (zs : List Nat) :
      (zs.filter fun z => (s.zone? z).any fun x => decide (b ∈ x.defn.banks)).map form
        = ((zs.filterMap fun z => (s.zone? z).map fun r => (z, r)).filter fun zr => zr.2.defn.banks.contains b).map byRecord := by
    induction zs with
    | nil => rfl
    | cons z zs ih =>
      cases hx : s.zone? z with
      | none => simpa [hx] using ih
      | some x =>
        by_cases names : b ∈ x.defn.banks <;> simpa [hx, names, same z x hx] using ih
  have all := lists zoneNumbers
  have length := congrArg List.length all
  simp only [List.length_map] at length
  rw [listOf_eq, counted, length, List.flatMap_def, all, ← List.flatMap_def]
  rfl

theorem found_any {α : Type} {l : List Nat} {record : Nat → Option α} {p : α → Bool} {k : Nat}
    (found : (l.find? fun k => (record k).any p) = some k) : ∃ x, record k = some x ∧ p x = true := by
  have here := List.find?_some found
  cases hx : record k with
  | none => rw [hx] at here; cases here
  | some x => rw [hx] at here; exact ⟨x, rfl, here⟩

theorem State.owner?_owns (s : State) (d : DeviceAddr) : s.OwnedBy d (s.owner? d) := by
  unfold State.owner?
  split
  · next z found =>
    obtain ⟨x, hx, named⟩ := found_any found
    exact ⟨x, hx, by simpa using named⟩
  next noDimmer =>
  split
  · next z found =>
    obtain ⟨x, hx, named⟩ := found_any found
    exact ⟨x, hx, by simpa using named⟩
  next noTrim =>
  split
  · next b found =>
    obtain ⟨y, hy, named⟩ := found_any found
    exact ⟨y, hy, by simpa using named⟩
  next noBank =>
  split
  · next p found =>
    obtain ⟨y, hy, named⟩ := found_any found
    exact ⟨y, hy, by simpa using named⟩
  next noPlant =>
  refine ⟨fun z x hx => ⟨?_, ?_⟩, fun b y hy => ?_, fun p y hy => ?_⟩
  · simpa [hx] using List.find?_eq_none.mp noDimmer z (mem_zoneNumbers hx)
  · simpa [hx] using List.find?_eq_none.mp noTrim z (mem_zoneNumbers hx)
  · simpa [hy] using List.find?_eq_none.mp noBank b (by have := State.bank?_valid hy; simp [bankNumbers]; omega)
  · simpa [hy] using List.find?_eq_none.mp noPlant p (mem_plantNumbers hy)

/-- The entry that is found stands at the device's place. -/
theorem State.device?_addr {s : State} {d : DeviceAddr} {e : Device} (he : s.device? d = some e) : e.addr = d := by
  have here := List.find?_some he
  rw [Device.at, Bool.and_eq_true, beq_iff_eq, beq_iff_eq] at here
  obtain ⟨line, address⟩ := here
  cases d
  subst line address
  rfl

end Sys2Proof.Machine

namespace Sys2Proof.Proofs

open Sys2Proof Sys2Proof.Machine

/-- Settles O14: the content of each reply is its record, field by field in the form of R159. -/
theorem partAndZoneReads : Obligations.PartAndZoneReads := by
  refine ⟨fun s tag => ⟨fun taken => ?_, fun taken => ?_⟩, fun s tag z => ⟨fun outside taken => ?_, fun h1 h2 unset taken => ?_,
    fun r hr => ⟨fun taken => ⟨_, s.demandIsSent z.toNat r, ?_⟩, fun taken => ?_, fun taken => ?_⟩⟩⟩
  · exact (taken.answered rfl (content := identityBytes) (by rw [answerTo_identify, withBody_some readBody_nothing]; rfl)).content_eq
      (by decide)
  · refine (taken.answered rfl (by rw [answerTo_timeRead, withBody_some readBody_nothing]; rfl)).content_eq ?_
    cases s.synced <;> rfl
  all_goals have read := readBody_one z
  · have invalid : validZone z.toNat = false := by rw [Bool.eq_false_iff, Ne, validZone_iff]; omega
    exact taken.refused rfl (by rw [answerTo_zoneRead, withBody_some read, answerZoneRead, invalid]; rfl)
  · have valid : validZone z.toNat = true := (validZone_iff _).mpr ⟨h1, h2⟩
    refine (taken.answered rfl (content := be 1 z.toNat ++ be 1 0) ?_).content_eq (by simp)
    rw [answerTo_zoneRead, withBody_some read, answerZoneRead, valid, unset]
    rfl
  · have valid : validZone z.toNat = true := (validZone_iff _).mpr (State.zone?_valid hr)
    refine (taken.answered rfl (content := s.zoneBytes z.toNat r) ?_).content_eq ?_
    · rw [answerTo_zoneRead, withBody_some read, answerZoneRead, valid, hr]
      rfl
    · have valid (b : Bool) : decide (b = false) = !b := by cases b <;> rfl
      have marks : (fun m => decide (m ∈ r.marks)) = r.marks.contains := by
        funext m
        rw [List.contains_eq_mem]
      simp only [State.zoneBytes, Definition.bytes, Light.bytes, Measurement.bytes, plantByte, zoneStateCode, yesNo_eq,
        ifPresent_eq, listOf_congr Mark.named, listOf_eq, Policy.named, Condition.named, BandState.named, TrimDir.named, valid,
        marks, Zone.surge, List.append_assoc]
      cases r.defn.surgeThreshold <;> rfl
  · refine (taken.answered rfl (content := r.account.bytes) ?_).content_eq ?_
    · rw [answerTo_accountRead, withBody_some read, answerAccountRead, onZone_some _ hr]
    · rw [Account.bytes]
      congr 1
      · congr 1
        · congr 1
          cases r.account.season <;> rfl
        · cases r.account.lastSample <;> rfl
      · cases r.account.saturated <;> rfl
  · refine (taken.answered rfl (content := r.climate.historyBytes) ?_).content_eq ?_
    · rw [answerTo_historyRead, withBody_some read, answerHistoryRead, onZone_some _ hr]
    · simp only [Climate.historyBytes, yesNo_eq, ifPresent_eq, listOf_eq, Bucket.sent]

/-- Settles O15: the same of the records of a bank, a plant, a line and a device. -/
theorem recordReads : Obligations.RecordReads := by
  intro s tag n a
  have one := readBody_one n
  refine ⟨fun taken => ⟨fun r served hr is => ?_, fun valid unset => ?_, fun invalid => ?_⟩,
    fun taken => ⟨fun r hr => ⟨insertDemands r.service [], ?_, ?_, ?_⟩, fun valid unset => ?_, fun invalid => ?_⟩,
    fun taken => ⟨fun r mine hr is => ?_, fun invalid => ?_⟩,
    fun taken => ⟨fun validLine validAddress => ⟨fun e he => ⟨s.owner? ⟨n.toNat, a.toNat⟩, s.owner?_owns _, ?_⟩, fun missing => ?_⟩,
      fun invalid => ?_⟩⟩
  · have valid : validBank n.toNat = true := (validBank_iff _).mpr (State.bank?_valid hr)
    refine (taken.answered rfl (content := s.bankBytes n.toNat r) ?_).content_eq ?_
    · rw [answerTo_bankRead, withBody_some one, answerBankRead, valid, hr]
      rfl
    · rw [is, State.servedZones_sent (byRecord := fun zr => be 1 zr.1 ++ be 1 (zoneStateCode zr.2.isOpen) ++ be 1 zr.2.light.louvre)
        (fun z x hx => by simp only [hx, zoneStateCode]), ifPresent_eq, BankState.named]
      rfl
  · refine (taken.answered rfl (content := be 1 0) ?_).content_eq rfl
    rw [answerTo_bankRead, withBody_some one, answerBankRead, valid, unset]
    rfl
  · exact taken.refused rfl (by rw [answerTo_bankRead, withBody_some one, answerBankRead, invalid]; rfl)
  · simpa using insertDemands_perm r.service []
  · refine (insertDemands_inOrder r.service .nil).imp fun {x y} ordered => ?_
    rw [Demand.not_precedes_iff] at ordered
    omega
  · have valid : validPlant n.toNat = true := (validPlant_iff _).mpr (State.plant?_valid hr)
    have set {α : Type} (o : Option α) [Decidable (o ≠ none)] : decide (o ≠ none) = o.isSome := by cases o <;> simp
    refine (taken.answered rfl (content := r.bytes) ?_).content_eq ?_
    · rw [answerTo_plantRead, withBody_some one, answerPlantRead, valid, hr]
      rfl
    · simp only [PlantState.named, Duty.named, listOf_congr Demand.sent, yesNo_eq, set]
      rfl
  · refine (taken.answered rfl (content := be 1 0) ?_).content_eq rfl
    rw [answerTo_plantRead, withBody_some one, answerPlantRead, valid, unset]
    rfl
  · exact taken.refused rfl (by rw [answerTo_plantRead, withBody_some one, answerPlantRead, invalid]; rfl)
  · refine (taken.answered rfl (content := s.lineBytes n.toNat r) ?_).content_eq ?_
    · rw [answerTo_lineRead, withBody_some one, answerLineRead, onLine_some _ hr]
    · have devices : s.lineDevices n.toNat = mine := is.symm
      simp only [LineState.named, yesNo_eq, State.lineBytes, State.lineActuators, devices, funext DeviceKind.isActuator_eq]
      rw [ifPresent_congr (form' := Transaction.bytes), listOf_congr (form' := Command.bytes),
        ifPresent_congr (form' := Enrolment.bytes)]
      · exact fun e => rfl
      · intro c
        rw [Command.bytes]
        cases c.issuer <;> rfl
      · intro x
        rw [Transaction.bytes, ifPresent_congr FaultReason.named]
        cases x.ask <;> rfl
  · exact taken.refused rfl (by rw [answerTo_lineRead, withBody_some one, answerLineRead, onLine_invalid _ invalid])
  all_goals have read := readBody_device n a
  · have inRange : DeviceAddr.inRange ⟨n.toNat, a.toNat⟩ = true := by rw [DeviceAddr.inRange, validLine, validAddress]; rfl
    refine (taken.answered rfl (content := s.deviceBytes e) ?_).content_eq ?_
    · rw [answerTo_deviceRead, withBody_some read, answerDeviceRead, inRange, he]
      rfl
    · rw [State.deviceBytes, State.device?_addr he, DeviceKind.named, DeviceState.named, ifPresent_congr (form' := Reading.bytes),
        ifPresent_congr (form' := fun f : FaultRecord => be 1 f.reason.code ++ be 4 f.clock), ifPresent_congr (form' := Owner.bytes)]
      · rw [Device.reportBytes]
        cases e.reported <;> cases e.acked <;> rfl
      · intro o
        cases o <;> rfl
      · intro f
        rw [FaultReason.named]
      · intro x
        obtain ⟨lux, uv, rh, temp, clock, arrived⟩ := x
        cases lux <;> cases uv <;> cases rh <;> cases temp <;> simp [Reading.bytes, ← Quantity.sent]
  · have inRange : DeviceAddr.inRange ⟨n.toNat, a.toNat⟩ = true := by rw [DeviceAddr.inRange, validLine, validAddress]; rfl
    exact taken.refused rfl (by rw [answerTo_deviceRead, withBody_some read, answerDeviceRead, inRange, missing]; rfl)
  · have outside : DeviceAddr.inRange ⟨n.toNat, a.toNat⟩ = false := by
      rw [DeviceAddr.inRange, Bool.and_eq_false_iff]
      exact invalid
    exact taken.refused rfl (by rw [answerTo_deviceRead, withBody_some read, answerDeviceRead, outside]; rfl)

end Sys2Proof.Proofs
end

section
/-! PROOFS. The host link: frames received, sent and taken up (O16 to O18). -/

namespace Sys2Proof.Machine

/-! ## The receive assembly (R160) -/

/-- The part with the receive assembly inside these bytes, or hunting. -/
def State.withRx (s : State) (rx : Option (List Byte)) : State := { s with link := { s.link with rx } }

theorem State.withRx_self {s : State} {rx : Option (List Byte)} (h : s.link.rx = rx) : s.withRx rx = s := by
  subst h
  rfl

theorem State.withRx_feedOutput (s : State) (rx : Option (List Byte)) : (s.withRx rx).feedOutput = s.feedOutput.withRx rx := by
  unfold State.feedOutput State.chooseFrame State.sendReply State.sendNotice State.sendFrame
  show (if s.link.output.isSome then _ else if s.link.replies.isEmpty || s.notices.isEmpty then _ else _) = _
  repeat' split
  all_goals first | rfl | simp_all [State.withRx, State.useFree]

section
variable {s : State} {b : Byte} {stop : Bool} {rx : Option (List Byte)}

theorem State.receiveByte_kept (made : assemble s.link.rx b stop = (rx, none)) :
    s.receiveByte b stop = (s.withRx rx).feedOutput := by
  rw [State.receiveByte, made]
  rfl

theorem State.receiveByte_ends {f : Frame} (made : assemble s.link.rx b stop = (rx, some f)) :
    s.receiveByte b stop = (s.withRx rx).arrive f := by
  rw [State.receiveByte, made]
  rfl

theorem exec_byte (running : s.running = true) : exec (.uartByteReceived b stop) s = .next (s.receiveByte b stop) := by
  show Host.Outcome.next (if s.running then _ else _) = _
  rw [running]
  rfl

theorem receiveAll_cons {bs : List Byte} {t : State} (ran : exec (.uartByteReceived b true) s = .next t) :
    receiveAll (b :: bs) s = receiveAll bs t := by
  rw [receiveAll, ran]

end

/-- Bytes short of what the length byte announces are no frame yet. -/
theorem assembled_short {len : Byte} {rest : List Byte} (short : rest.length < len.toNat + 2) : assembled (len :: rest) = none := by
  unfold assembled
  split
  · next l tag kind more shape =>
    cases shape
    simp only [List.length_cons] at short
    exact if_neg (by omega)
  · rfl

theorem Frame.checked_length (f : Frame) : f.checked.length = f.body.length + 3 := by
  simp [Frame.checked]

/-- The bytes a frame is checked over, with two check bytes behind them, are that frame where the check is theirs (R159). -/
theorem assembled_checked {f : Frame} {check : List Byte} (fits : f.body.length ≤ 253) (two : check.length = 2) :
    assembled (f.checked ++ check) = some (if check = be 2 (crc16 f.checked).toNat then some f else none) := by
  have length : (BitVec.ofNat 8 (f.body.length + 2)).toNat = f.body.length + 2 := by
    rw [BitVec.toNat_ofNat]
    omega
  have spells : f.checked ++ check = BitVec.ofNat 8 (f.body.length + 2) :: f.tag :: f.kind :: (f.body ++ check) := by
    simp [Frame.checked]
  have agrees : crc16 f.checked = checkOf check ↔ check = be 2 (crc16 f.checked).toNat := by
    have fitsCheck := natOf_lt check
    have spelled := be_natOf check
    rw [two] at fitsCheck spelled
    constructor
    · intro same
      rw [same, checkOf, BitVec.toNat_ofNat, Nat.mod_eq_of_lt (by omega), spelled]
    · intro same
      rw [checkOf, same, natOf_be 2 _ (crc16 f.checked).isLt, BitVec.ofNat_toNat, BitVec.setWidth_eq]
  rw [spells, assembled, length, if_pos (by rw [List.length_append, two]), Nat.add_sub_cancel, List.take_left, List.drop_left]
  simp only [agrees]

/-! ## Serving the intake (R161) -/

theorem replyKind_eq (kind : Byte) :
    replyKind kind = if 1 ≤ kind.toNat ∧ kind.toNat ≤ 0x1F then kind + 0x80 else 0xFF := by
  simp only [replyKind, Bool.and_eq_true, decide_eq_true_eq]

section
variable {s : State} {f : Frame}

theorem State.deliver_room (room : s.link.intake.length < 4) :
    s.deliver f = { s with link := { s.link with intake := s.link.intake ++ [f] } } := if_pos room

theorem State.deliver_full (full : 4 ≤ s.link.intake.length) (room : s.link.replies.length < 8) :
    s.deliver f = { s with link := { s.link with replies := s.link.replies ++
      [⟨f.tag, if 1 ≤ f.kind.toNat ∧ f.kind.toNat ≤ 0x1F then f.kind + 0x80 else 0xFF, [0x10]⟩] } } := by
  rw [← replyKind_eq]
  exact (if_neg (Nat.not_lt.mpr full)).trans (if_pos room)

theorem State.deliver_discarded (full : 4 ≤ s.link.intake.length) (noRoom : 8 ≤ s.link.replies.length) : s.deliver f = s :=
  (if_neg (Nat.not_lt.mpr full)).trans (if_neg (Nat.not_lt.mpr noRoom))

end

section
variable {s : State}

theorem State.handled_pending (s : State) (f : Frame) : (s.handled f).pending = s.pending :=
  ((pending_kept s.pending).alone fun _ => trivial).handled trivial rfl

theorem State.beginCheckpoint_running (s : State) : s.beginCheckpoint.running = s.running := by
  unfold State.beginCheckpoint
  split
  · rfl
  · split
    · rfl
    · unfold State.continueCheckpoint State.beginAccountWrite
      cases s.nextDefined 0 with
      | some next => rfl
      | none =>
        have offered := (State.offer_blocks { s with checkpoint := none } (.storeDone 0 0) .none).running
        dsimp only
        unfold State.completeCheckpoint
        dsimp only
        repeat' split
        all_goals exact offered

theorem State.beginRestart_running (s : State) : s.beginRestart.running = s.running := by
  have dropped := (BlocksOnly.foldl _ State.dropEnrolment_blocks lineNumbers s).running
  unfold State.beginRestart
  dsimp only
  split <;> exact dropped

theorem Asked.running {kind : Byte} {t : State} (asked : Asked kind s t) : t.running = s.running := by
  refine asked.cases (w := ⟨False, False, False, False⟩) (P := fun t => t.running = s.running) False.elim False.elim
    (fun w => w.running) (fun v => ?_) (fun _ _ => False.elim) (fun r => ?_) s.beginCheckpoint_running s.beginRestart_running
  · rw [State.moveClock_frame]; rfl
  · rw [State.noteConfiguration, State.setReport_frame]; rfl

theorem State.handled_running (s : State) (f : Frame) : (s.handled f).running = s.running := by
  have left := answerTo_asked s f
  unfold State.handled
  rw [(State.feedOutput_aside _).running, (State.leaveIntake_aside _).running]
  cases answered : answerTo f s with
  | refuse status => rfl
  | reply status content after =>
    rw [answered] at left
    exact Asked.running (t := after) left

/-- What is served leaves the intake; nothing joins it. -/
theorem State.serve_shrinks (now : Nat → Bool) (n : Nat) (s : State) :
    (s.serve now n).link.intake.length ≤ s.link.intake.length := by
  induction n generalizing s with
  | zero => exact le_rfl
  | succ n ih =>
    unfold State.serve
    split
    · next f rest front =>
      split
      · split
        · refine (ih _).trans ?_
          rw [(s.useFree.handled_intake f).1, List.length_tail]
          exact Nat.sub_le _ _
        · exact le_rfl
      · exact le_rfl
    · exact le_rfl

/-- Where each is taken up, none is left, or no more may be (R161). -/
theorem State.serve_all {n : Nat} (enough : s.link.intake.length ≤ n) :
    (s.serve (fun _ => true) n).link.intake = [] ∨ (s.serve (fun _ => true) n).mayTakeUp = false := by
  induction n generalizing s with
  | zero => exact .inl (List.length_eq_zero_iff.mp (Nat.le_zero.mp enough))
  | succ n ih =>
    unfold State.serve
    split
    · next f rest front =>
      split
      · refine ih ?_
        rw [(s.useFree.handled_intake f).1, State.useFree_link, front]
        rw [front] at enough
        exact Nat.le_of_succ_le_succ enough
      · next busy => exact .inr (Bool.not_eq_true _ ▸ busy)
    · next none => exact .inl none

end

/-! ## The output (R164) -/

theorem Frame.isRestartReply_eq (s : State) (f : Frame) :
    (s.restarting.isSome && f.isRestartReply) = decide (s.restarting ≠ none ∧ f.kind = 0x9F ∧ f.body = [0x00]) := by
  rw [Frame.isRestartReply, Bool.eq_iff_iff]
  simp [Option.isSome_iff_ne_none, Status.code]

section
variable {s : State}

theorem State.sendReply_some {f : Frame} {rest : List Frame} (front : s.link.replies = f :: rest) :
    s.sendReply = { s with link := { s.link with
      replies := rest
      output := some ⟨f.wire, decide (s.restarting ≠ none ∧ f.kind = 0x9F ∧ f.body = [0x00])⟩ } } := by
  rw [← Frame.isRestartReply_eq, State.sendReply, front]
  rfl

theorem State.sendNotice_some {n : Notice} {rest : List Notice} (front : s.notices = n :: rest) :
    s.sendNotice = { s with notices := rest, link := { s.link with output := some ⟨n.frame.wire, false⟩ } } := by
  rw [State.sendNotice, front]
  rfl

theorem State.chooseFrame_reply {f : Frame} {rest : List Frame} (front : s.link.replies = f :: rest) :
    s.chooseFrame = s.sendReply := by rw [State.chooseFrame, front]; rfl

theorem State.chooseFrame_notice (none : s.link.replies = []) : s.chooseFrame = s.sendNotice := by
  rw [State.chooseFrame, none]
  rfl

theorem State.chooseFrame_nothing (noReply : s.link.replies = []) (noNotice : s.notices = []) : s.chooseFrame = s := by
  rw [State.chooseFrame_notice noReply, State.sendNotice, noNotice]

theorem State.feedOutput_busy (busy : s.link.output ≠ none) : s.feedOutput = s := by
  rw [State.feedOutput, if_pos (Option.isSome_iff_ne_none.mpr busy)]

theorem State.feedOutput_idle (idle : s.link.output = none) (one : s.link.replies = [] ∨ s.notices = []) :
    s.feedOutput = s.chooseFrame := by
  rw [State.feedOutput, if_neg (by simp [idle]), if_pos (by simpa using one)]

end

/-- The part whose output has finished its frame. -/
def State.idleOutput (s : State) : State := { s with link := { s.link with output := none } }

/-- A frame other than RESTART's reply has been sent. -/
theorem exec_frameSent {s : State} {sense : TermSense} {o : Sending} (running : s.running = true) (sends : s.link.output = some o)
    (plain : o.restartReply = false) : exec (.outputFrameSent sense) s = .next s.idleOutput.chooseFrame.serveSome := by
  show Host.Outcome.next (if s.running then s.frameSent sense else s) = _
  rw [running, State.frameSent, sends]
  show Host.Outcome.next (if o.restartReply then _ else _) = _
  rw [plain]
  rfl

theorem NoticeBody.sent_eq (b : NoticeBody) : b.sent = (b.kindCode, b.level, b.bytes) := by
  cases b
  case start cause lost => cases cause <;> cases lost <;> rfl
  case markSet m => cases m <;> rfl
  case deviceFault line address reason failures => cases reason <;> rfl
  case lineHung hangs abandoned => cases abandoned <;> rfl
  case enrolDone complete found added absent notAdded => cases complete <;> rfl
  case plantDuty duty level count => cases duty <;> rfl
  case plantFault reason duty => cases reason <;> cases duty <;> rfl
  all_goals rfl

theorem NoticeBody.bytes_length (b : NoticeBody) : b.bytes.length ≤ 8 := by
  cases b
  case lineHung hangs abandoned => cases abandoned <;> exact of_decide_eq_true rfl
  all_goals exact of_decide_eq_true rfl

theorem Subject.sent_eq (x : Subject) : x.sent = x.bytes := by cases x <;> rfl

end Sys2Proof.Machine

namespace Sys2Proof.Proofs

open Sys2Proof Sys2Proof.Machine

/-- Settles O16: a frame meets the intake after those that wait have been served, or not; and each row of the receive assembly. -/
theorem framesAreReceived : Obligations.FramesAreReceived := by
  refine ⟨fun s u v f full running hu hfull hv => ?_, fun s c f running asks => ?_, fun s b stop running => ⟨?_, fun hunts bad => ?_,
    fun hunts => ?_, fun bs inside => ⟨?_, fun empty bad => ?_, fun empty low high => ?_, fun len rest is short => ?_,
    fun len rest check low length two is wrong => ?_⟩⟩⟩
  · have delivered : v = u.deliver f := by rw [hv, hfull, ← replyKind_eq]; rfl
    subst hu
    refine ⟨?_, fun waiting may => ⟨fun now => ?_, fun later => ?_⟩⟩
    · rw [delivered]
      show Host.Outcome.next (if s.running then _ else _) = _
      rw [running]
      rfl
    all_goals
      obtain ⟨g, rest, front⟩ : ∃ g rest, s.link.intake = g :: rest := by
        cases h : s.link.intake with
        | nil => rw [h] at waiting; cases waiting
        | cons g rest => exact ⟨g, rest, rfl⟩
      have first := State.serveSome_cons (s := { s with link := { s.link with rx := none } }) (f := g) (rest := rest) front may
    · have room : (State.serveSome { s with link := { s.link with rx := none } }).link.intake.length < 4 := by
        rw [first, if_pos now]
        refine Nat.lt_of_le_of_lt (State.serve_shrinks _ _ _) ?_
        rw [(State.handled_intake _ _).1, List.length_tail]
        show s.link.intake.length - 1 < 4
        omega
      exact ⟨room, by rw [hv, if_pos room]⟩
    · rw [if_neg (by rw [later]; exact Bool.false_ne_true)] at first
      have replies := ((State.mayTakeUp_true s).mp may).2
      rw [delivered, first, hfull]
      exact State.deliver_full waiting.ge replies
  · have ran := exec_request s asks
    have arrives (busy : s.mayTakeUp = false) : Happens c s (s.deliver f) := by
      rw [Happens, ran, request, running, busy, Bool.and_false, ← State.arrive_busy busy]
      rfl
    refine ⟨fun waits => ?_, fun busy room => ?_, fun busy fullIntake room => ?_, fun busy fullIntake fullReplies => ?_⟩
    · rw [exec_request _ asks, request]
      have waits : (({ s with link := { s.link with rx := none } } : State).link.intake.isEmpty
          && ({ s with link := { s.link with rx := none } } : State).mayTakeUp) = false := by
        rw [Bool.and_eq_false_iff]
        exact waits.symm.imp (by simp) id
      rw [waits]
      show Host.Outcome.next (if s.running then _ else s) = .next (if s.running then _ else _)
      rw [running]
      rfl
    · exact State.deliver_room room ▸ arrives busy
    · exact State.deliver_full fullIntake room ▸ arrives busy
    · have arrived := arrives busy
      rwa [State.deliver_discarded fullIntake fullReplies] at arrived
  · exact happens_event (work := (·.withRx none)) rfl running rfl
  all_goals
    have received (b : Byte) (stop : Bool) {rx : Option (List Byte)} (made : assemble s.link.rx b stop = (rx, none)) :
        Happens (.uartByteReceived b stop) s (s.withRx rx) := by
      rw [Happens, exec_byte running, State.receiveByte_kept made]
  · have made : assemble s.link.rx b stop = (none, none) := by
      rw [hunts, assemble]
      rcases bad with other | rfl
      · simpa using fun _ => other
      · rfl
    have kept := received b stop made
    rwa [State.withRx_self hunts] at kept
  · exact received _ _ (by rw [hunts]; rfl)
  all_goals rw [inside] at received
  · exact received _ _ rfl
  · refine received _ _ ?_
    have bad : badLength b = true := by rw [badLength, Bool.or_eq_true, decide_eq_true_iff, decide_eq_true_iff]; exact bad
    rw [empty, assemble, bad]
    rfl
  · refine received _ _ ?_
    have good : badLength b = false := by
      rw [badLength, Bool.or_eq_false_iff, decide_eq_false_iff_not, decide_eq_false_iff_not]
      omega
    rw [empty, assemble, good]
    rfl
  · refine received _ _ ?_
    have unfinished : assembled (bs ++ [b]) = none := by
      rw [is]
      exact assembled_short (by simpa using short)
    rw [assemble, unfinished, is]
    rfl
  · refine received _ _ ?_
    obtain ⟨tag, kind, body, rfl⟩ : ∃ tag kind body, rest = tag :: kind :: body := by
      match rest, length with
      | [], length => rw [List.length_nil] at length; omega
      | [_], length => rw [List.length_singleton] at length; omega
      | tag :: kind :: body, _ => exact ⟨tag, kind, body, rfl⟩
    have small := len.isLt
    simp only [List.length_cons] at length
    have checked : (⟨tag, kind, body⟩ : Frame).checked = len :: tag :: kind :: body := by
      rw [Frame.checked, be_one, length, BitVec.ofNat_toNat, BitVec.setWidth_eq]
      rfl
    have finished := assembled_checked (f := ⟨tag, kind, body⟩) (check := check) (by show body.length ≤ 253; omega) two
    rw [checked, if_neg wrong, List.cons_append, ← List.cons_append, ← is] at finished
    have begun : bs.isEmpty = false := by
      cases bs with
      | nil =>
        have := congrArg List.length is
        simp [two] at this
      | cons => rfl
    rw [assemble, finished, begun]
    rfl

/-- Settles O17: byte for byte the assembly holds what has come of the frame, and the last byte delivers it. -/
theorem frameRoundTrip : Obligations.FrameRoundTrip := by
  intro s f fits running hunts fed
  have arrived : exec (.frameReceived f.tag f.kind f.body) s = .next ((s.withRx none).arrive f) := by
    show Host.Outcome.next (if s.running then _ else _) = _
    rw [running]
    rfl
  have keeps (rx : Option (List Byte)) : (s.withRx rx).feedOutput = s.withRx rx := by rw [State.withRx_feedOutput, fed]
  have taken {pre : List Byte} {b : Byte} {rx : Option (List Byte)} (made : assemble (some pre) b true = (rx, none)) :
      exec (.uartByteReceived b true) (s.withRx (some pre)) = .next (s.withRx rx) := by
    rw [exec_byte (s := s.withRx (some pre)) running, State.receiveByte_kept (s := s.withRx (some pre)) made]
    exact congrArg _ (keeps rx)
  have two : (be 2 (crc16 f.checked).toNat).length = 2 := be_length _ _
  have total : (f.checked ++ be 2 (crc16 f.checked).toNat).length = f.body.length + 5 := by
    rw [List.length_append, two, f.checked_length]
  have front : f.checked = BitVec.ofNat 8 (f.body.length + 2) :: f.tag :: f.kind :: f.body := by simp [Frame.checked]
  have count : (BitVec.ofNat 8 (f.body.length + 2)).toNat = f.body.length + 2 := by rw [BitVec.toNat_ofNat]; omega
  have rest (bs pre : List Byte) (split : pre ++ bs = f.checked ++ be 2 (crc16 f.checked).toNat) (more : bs ≠ []) :
      receiveAll bs (s.withRx (some pre)) = .next ((s.withRx none).arrive f) := by
    induction bs generalizing pre with
    | nil => exact absurd rfl more
    | cons b bs ih =>
      have sizes := (congrArg List.length split).trans total
      rw [List.length_append, List.length_cons] at sizes
      have good : (pre.isEmpty && badLength b) = false := by
        cases pre with
        | nil =>
          rw [front] at split
          rw [(List.cons.inj split).1, badLength, count]
          simp
          omega
        | cons => rfl
      cases bs with
      | nil =>
        have made : assemble (some pre) b true = (none, some f) := by
          rw [assemble, good, split, assembled_checked (by omega) two, if_pos rfl]
          rfl
        rw [receiveAll_cons (exec_byte (s := s.withRx (some pre)) running), State.receiveByte_ends (s := s.withRx (some pre)) made]
        rfl
      | cons b' bs =>
        have unfinished : assembled (pre ++ [b]) = none := by
          obtain ⟨len, tail, shape⟩ : ∃ len tail, pre ++ [b] = len :: tail := by
            cases pre with
            | nil => exact ⟨b, [], rfl⟩
            | cons a pre => exact ⟨a, pre ++ [b], rfl⟩
          have whole : pre ++ [b] ++ (b' :: bs) = f.checked ++ be 2 (crc16 f.checked).toNat := by
            rw [List.append_assoc]
            exact split
          have length : tail.length + 1 = pre.length + 1 := by rw [← List.length_cons, ← shape, List.length_append]; rfl
          rw [shape, front] at whole
          rw [shape, (List.cons.inj whole).1]
          refine assembled_short ?_
          rw [count]
          simp only [List.length_cons] at sizes
          omega
        have made : assemble (some pre) b true = (some (pre ++ [b]), none) := by
          rw [assemble, good, unfinished]
          rfl
        rw [receiveAll_cons (taken made)]
        exact ih (pre ++ [b]) (by rw [List.append_assoc]; exact split) (by simp)
  have start : exec (.uartByteReceived 0xA5 true) s = .next (s.withRx (some [])) := by
    rw [exec_byte running, State.receiveByte_kept (rx := some []) (by rw [hunts]; rfl), keeps]
  rw [arrived, Frame.wire, List.cons_append, receiveAll_cons start]
  exact rest _ [] rfl (by rw [front]; simp)

/-- Settles O18: the output, the serving of the intake, and the frame of a notice, each by its rule. -/
theorem outputChoosesNext : Obligations.OutputChoosesNext := by
  refine ⟨fun s sense o running sends plain => ?_, fun s => ⟨fun waits => ?_, fun f rest u front none room hu => ?_⟩,
    fun f c u asks taken => ?_, fun s running empty => ?_, fun s => ⟨State.feedOutput_busy, fun idle noReply noNotice => ?_,
      fun f rest n more t u idle ht hu => ⟨fun front none => ?_, fun none front => ?_, fun frontReply frontNotice => ?_⟩⟩, fun n => ?_⟩
  · rw [exec_frameSent running sends plain]
    refine ⟨fun f rest front => ?_, fun n rest none front => ?_, fun noReply noNotice => ?_⟩
    · rw [State.chooseFrame_reply (s := s.idleOutput) front, State.sendReply_some (s := s.idleOutput) front]
      rfl
    · rw [State.chooseFrame_notice (s := s.idleOutput) none, State.sendNotice_some (s := s.idleOutput) front]
      rfl
    · rw [State.chooseFrame_nothing (s := s.idleOutput) noReply noNotice]
      rfl
  · rcases waits with none | restarts | full
    · exact State.serveSome_nil none
    · exact State.serveSome_busy (s.mayTakeUp_false.mpr (.inl restarts))
    · exact State.serveSome_busy (s.mayTakeUp_false.mpr (.inr full))
  · have may := s.mayTakeUp_true.mpr ⟨none, room⟩
    have handled : u = s.useFree.handled f := hu
    have first := State.serveSome_cons front may
    rw [handled]
    refine ⟨fun now => ?_, fun later => ?_, ?_, fun running empty => ?_⟩
    · rw [first, if_pos now]
    · rw [first, if_neg (by rw [later]; exact Bool.false_ne_true)]
      rfl
    · rw [(State.handled_intake _ _).1, State.useFree_link, front, List.tail_cons]
    · have pending : (s.useFree.handled f).pending = [] := (State.handled_pending _ _).trans empty
      have runs : (s.useFree.handled f).running = true := (State.handled_running _ _).trans running
      rw [step, empty, step, pending]
      show Host.Outcome.next s.idle = .next (s.useFree.handled f).idle
      rw [State.idle, running, State.idle, runs, if_pos rfl, if_pos rfl, State.serveIntake_cons front may]
  · rw [exec_request u asks, request_takenUp asks taken]
  · refine ⟨s.serveIntake, ?_, ?_⟩
    · rw [step, empty]
      show Host.Outcome.next s.idle = _
      rw [State.idle, running]
      rfl
    · exact (State.serve_all le_rfl).imp id (State.mayTakeUp_false _).mp
  · rw [State.feedOutput_idle idle (.inl noReply), State.chooseFrame_nothing noReply noNotice]
  · rw [State.feedOutput_idle idle (.inr none), State.chooseFrame_reply front, State.sendReply_some front, ht]
  · rw [State.feedOutput_idle idle (.inl none), State.chooseFrame_notice none, State.sendNotice_some front, hu]
  · have both : (s.link.replies.isEmpty || s.notices.isEmpty) = false := by rw [frontReply, frontNotice]; rfl
    rw [State.feedOutput, if_neg (by simp [idle]), both, ht, hu]
    show (if Config.replyTakenFirst s.freeIx then s.useFree.sendReply else s.useFree.sendNotice) = _
    rw [State.sendReply_some (s := s.useFree) (f := f) (rest := rest) frontReply,
      State.sendNotice_some (s := s.useFree) (n := n) (rest := more) frontNotice]
    rfl
  · rw [NoticeBody.sent_eq, Subject.sent_eq]
    exact ⟨n.body.bytes_length, rfl, rfl⟩

end Sys2Proof.Proofs
end

section
/-! PROOFS. Zones and their accounts: creating, opening and closing a zone, the band and the occupancy, the requests that write an
account, runs of samples, and the target of a review (O19, O22, O24, O26, O29, O43). -/

namespace Sys2Proof.Machine

/-! ## The configuration after a request (R168) -/

/-- The configuration tells a zone whose stored part differs, or is there in one state alone. -/
theorem State.configuration_ne {s t : State} {z : Nat} (valid : 1 ≤ z ∧ z ≤ 16)
    (differs : (t.zone? z).map Zone.stored ≠ (s.zone? z).map Zone.stored) : t.configuration ≠ s.configuration := by
  intro same
  have zones := congrArg (fun c => slot? c.zones z) same
  simp only [State.configuration, slot?_tableOf, if_pos valid, Option.some.injEq] at zones
  exact differs zones

/-- A request that has changed the configuration leaves the changed flag yes. -/
theorem State.noteConfiguration_changed {s t : State} (changed : t.configuration ≠ s.configuration) :
    t.noteConfiguration s = { t with configChanged := true } := by
  rw [State.noteConfiguration, decide_eq_true changed, Bool.or_true]

theorem State.noteConfiguration_putZone {s : State} {z : Nat} {r : Zone} (hr : s.zone? z = some r) (r' : Zone) :
    (s.putZone z r').noteConfiguration s
      = { s.putZone z r' with configChanged := s.configChanged || decide (r'.stored ≠ r.stored) } := by
  rw [State.noteConfiguration, decide_eq_decide.2 (State.configuration_putZone_iff hr)]
  rfl

/-! ## Creating a zone (R1, R4) -/

/-- A zone number that is valid fits its byte, and its zone is UNSET or defined. -/
theorem lt_of_validZone {z : Nat} (h : validZone z = true) : z < 256 := by
  have := (validZone_iff z).1 h
  omega

theorem State.zone?_lt {s : State} {z : Nat} {r : Zone} (hr : s.zone? z = some r) : z < 256 := by
  have := State.zone?_valid hr
  omega

theorem State.defineZone_unset {s : State} {z : Nat} (d : Definition) (unset : s.zone? z = none) :
    s.defineZone z d = s.putZone z (Zone.created d s.clock s.now) := by rw [State.defineZone, unset]

/-- ZONE DEFINE that passes its checks is answered with the part in which the zone is defined. -/
theorem answerZoneDefine_defined {s : State} {z : Nat} {f : DefinitionFields} {d : Definition} (valid : validZone z = true)
    (hd : f.definition? = some d) (passes : s.definitionRefused z d = none) :
    answerZoneDefine (z, f) s = .reply .done [] ((s.defineZone z d).noteConfiguration s) := by
  simp only [answerZoneDefine, valid, Bool.not_true, Bool.false_eq_true, if_false, hd, passes]

theorem TakenUp.zoneDefined {s : State} {tag : Byte} {z : Nat} {f : DefinitionFields} {d : Definition}
    (taken : TakenUp (.zoneDefine tag (be 1 z ++ f.bytes)) s) (valid : validZone z = true) (fits : f.fits)
    (hd : f.definition? = some d) (passes : s.definitionRefused z d = none) :
    Answers (.zoneDefine tag (be 1 z ++ f.bytes)) s .done [] ((s.defineZone z d).noteConfiguration s) := by
  refine taken.answered rfl ?_
  rw [answerTo_zoneDefine, withBody_some (readBody_zoneDefine (lt_of_validZone valid) fits)]
  exact answerZoneDefine_defined valid hd passes

/-! ## Opening and closing (R8, R9) -/

section
variable {s : State} {z : Nat} {r : Zone} (hr : s.zone? z = some r)
include hr

theorem State.openZone_noted :
    (s.openZone z).noteConfiguration s = { s.putZone z { r with isOpen := true } with
      configChanged := s.configChanged || !r.isOpen } := by
  rw [State.openZone, State.modZone_some _ hr, State.noteConfiguration_putZone hr]
  cases h : r.isOpen <;> simp [Zone.stored, h]

theorem State.closeZone_closed (closed : r.isOpen = false) : (s.closeZone z).noteConfiguration s = s := by
  rw [State.closeZone, hr]
  simp [closed, State.noteConfiguration]

/-- The record of a zone as it closes, before its dimmer command. -/
def Zone.closed (r : Zone) : Zone := { r with isOpen := false, light := { r.light with dimmer := 0, louvre := 100 } }

/-- An OPEN zone closes, and level 0 is placed for its dimmer device. -/
theorem State.closeZone_open (opened : r.isOpen = true) :
    s.closeZone z = { s.putZone z (r.closed.owing (r.light.refreshOwed || r.defn.dimmer.any (refusesFor s.lines))) with
      lines := placedFor s.lines r.defn.dimmer 0 (.governor z) } := by
  have closes : s.closeZone z = (s.putZone z r.closed).placeDimmer z r.defn.dimmer 0 := by
    rw [State.closeZone, hr]
    simp only [opened, if_true]
    rfl
  have placed := State.placeDimmer_eq (target := r.defn.dimmer) 0 (State.zone?_putZone r.closed hr) fun _ named => named
  rw [State.putZone_putZone] at placed
  exact closes.trans placed

theorem State.closeZone_noted (opened : r.isOpen = true) :
    (s.closeZone z).noteConfiguration s
      = { s.putZone z (r.closed.owing (r.light.refreshOwed || r.defn.dimmer.any (refusesFor s.lines))) with
          lines := placedFor s.lines r.defn.dimmer 0 (.governor z), configChanged := true } := by
  have record := State.zone?_putZone (r.closed.owing (r.light.refreshOwed || r.defn.dimmer.any (refusesFor s.lines))) hr
  rw [State.closeZone_open hr opened]
  refine State.noteConfiguration_changed (State.configuration_ne (State.zone?_valid hr) ?_)
  refine (congrArg (Option.map Zone.stored) record).trans_ne ?_
  rw [hr]
  simp [Zone.stored, Zone.closed, Zone.owing, opened]

/-! ## The band, and the occupancy (R61, R114) -/

theorem answerClimateBand_installs {b : Band} (ok : b.inRange = true) :
    answerClimateBand (z, b) s = .reply .done [] { s.putZone z (r.withBand b) with
      configChanged := s.configChanged || decide (r.band ≠ some b) } := by
  rw [answerClimateBand, onZone_some _ hr]
  simp only [ok, if_true]
  rw [State.noteConfiguration_putZone hr]
  have stored : (r.withBand b).stored ≠ r.stored ↔ r.band ≠ some b := by
    simp [Zone.stored, Zone.withBand, eq_comm]
  rw [decide_eq_decide.2 stored]

/-! ## Requests that write the account (R30, R32, R34) -/

theorem answerSeasonBegin_begins {a p : Nat} (a1 : 1 ≤ a) (a2 : a ≤ 300000000) (p1 : 1 ≤ p) (p2 : p ≤ 8784) :
    answerSeasonBegin (z, a, p) s
      = .reply .done r.account.closingBytes (s.setAccount z r (r.account.beginSeason a p s.clock)) := by
  rw [answerSeasonBegin, onZone_some _ hr]
  simp [inRange, a1, a2, p1, p2]

theorem answerSeasonBegin_range {a p : Nat} (h : a < 1 ∨ 300000000 < a ∨ p < 1 ∨ 8784 < p) :
    answerSeasonBegin (z, a, p) s = .refuse .range := by
  rw [answerSeasonBegin, onZone_some _ hr]
  refine if_neg fun ok => ?_
  simp only [inRange, Bool.and_eq_true, decide_eq_true_eq] at ok
  omega

end

/-- The zone's record with another account (log entry 39). -/
def Zone.withAccount (r : Zone) (a : Account) : Zone :=
  { r with account := a, light := { r.light with spent := a.isExhausted } }

theorem optionalSeason_eq (x : Option Season) :
    Machine.optional Season.bytes x = x.elim [0] fun x => [1] ++ be 4 x.allowance ++ be 2 x.plannedHours ++ be 4 x.start := by
  cases x <;> simp [Machine.optional, Season.bytes]

theorem Account.adjusted_dose (a : Account) (d q : Nat) :
    (a.adjusted d q).dose = if d ≤ 1099511627775 then d else 1099511627775 := Nat.min_def

/-- A season just begun has all its allowance left. -/
theorem Account.beginSeason_fresh (a : Account) {allowance : Nat} (some : 1 ≤ allowance) (hours clock : Nat) :
    (a.beginSeason allowance hours clock).isExhausted = false := by
  simp only [Account.isExhausted_eq, Account.beginSeason, Option.any_some, decide_eq_false_iff_not]
  omega

/-- The adjusted dose stands at its limit exactly where the dose sent reaches it. -/
theorem Account.adjusted_atLimit (a : Account) (d q : Nat) :
    (a.adjusted d q).atLimit = decide (1099511627775 ≤ d) := by
  have dose := a.adjusted_dose d q
  simp only [Account.atLimit, dose, Config.doseLimit]
  rw [Bool.eq_iff_iff, beq_iff_eq, decide_eq_true_eq]
  split <;> omega

/-! ## Runs of samples (R25) -/

theorem Account.dose_le_sampledAll (xs : List SampleInput) (a : Account) (room : (a.sampledAll xs).dose < 1099511627775) :
    a.dose ≤ (a.sampledAll xs).dose := by
  induction xs generalizing a with
  | nil => exact le_rfl
  | cons x xs ih =>
    have later := ih (a.sampled x.clock x.lux x.weight x.isOpen) room
    have limited := lt_of_le_of_lt later room
    rw [Account.sampledAll] at room ⊢
    refine le_trans ?_ later
    rw [Account.sampled_eq] at limited ⊢
    dsimp only at limited ⊢
    omega

/-! ## The target of a light review (R39 to R42) -/

section
variable {d : Definition} {a : Account} {x : Season}

theorem budget_unseasoned (none : a.season = none) : budget d a = (d.ceiling, d.ceiling, .free) := by rw [budget, none]

section
variable (season : a.season = some x)
include season

theorem budget_spent (spent : a.remaining x ≤ 0) :
    budget d a = if d.policy = .visibility then (d.floor, 0, .exhausted) else (0, 0, .dark) := by
  rw [budget, season]
  simp only [spent, if_true]
  cases d.policy <;> rfl

/-- The permitted level where some allowance is left: it per second of remaining open time. -/
def Account.permitted (a : Account) (x : Season) : Nat := (a.remaining x).toNat / a.openTimeLeft x

theorem budget_within (left : 0 < a.remaining x) (within : d.floor ≤ a.permitted x) :
    budget d a = (min (a.permitted x) d.ceiling, a.permitted x,
      if d.policy = .budget ∧ min (a.permitted x) d.ceiling = 0 then .dark else .within) := by
  have floor : d.floor ≤ (a.remaining x).toNat / a.openTimeLeft x := within
  rw [budget, season]
  simp only [left.not_ge, if_false, floor, if_true]
  rfl

theorem budget_short (left : 0 < a.remaining x) (short : a.permitted x < d.floor) :
    budget d a = if d.policy = .visibility then (d.floor, a.permitted x, .pressure)
      else (a.permitted x, a.permitted x, if a.permitted x = 0 then .dark else .restricted) := by
  have floor : ¬ d.floor ≤ (a.remaining x).toNat / a.openTimeLeft x := short.not_ge
  rw [budget, season]
  simp only [left.not_ge, if_false, floor]
  cases d.policy <;> simp [Account.permitted]

end

/-- The target lies between 0 and the ceiling, whatever row applies. -/
theorem budget_le_ceiling (ordered : d.floor ≤ d.ceiling) : (budget d a).1 ≤ d.ceiling := by
  cases season : a.season with
  | none => rw [budget_unseasoned season]
  | some x =>
    by_cases spent : a.remaining x ≤ 0
    · rw [budget_spent season spent]
      split
      · exact ordered
      · exact Nat.zero_le _
    · by_cases within : d.floor ≤ a.permitted x
      · rw [budget_within season (not_le.1 spent) within]
        exact Nat.min_le_right _ _
      · rw [budget_short season (not_le.1 spent) (not_le.1 within)]
        split
        · exact ordered
        · exact (not_le.1 within).le.trans ordered

theorem floor_le_budget (ordered : d.floor ≤ d.ceiling) (policy : d.policy = .visibility) : d.floor ≤ (budget d a).1 := by
  cases season : a.season with
  | none =>
    rw [budget_unseasoned season]
    exact ordered
  | some x =>
    by_cases spent : a.remaining x ≤ 0
    · rw [budget_spent season spent, if_pos policy]
    · by_cases within : d.floor ≤ a.permitted x
      · rw [budget_within season (not_le.1 spent) within]
        exact le_min within ordered
      · rw [budget_short season (not_le.1 spent) (not_le.1 within), if_pos policy]

theorem Account.openTimeLeft_eq (a : Account) (x : Season) :
    (a.openTimeLeft x : Int) = max 3600 ((x.plannedHours : Int) * 3600 - a.openSeconds) := by
  unfold Account.openTimeLeft
  omega

/-- The permitted level is the quotient, rounded down. -/
theorem Account.permitted_spec (left : 0 < a.remaining x) :
    (a.permitted x : Int) * a.openTimeLeft x ≤ a.remaining x
      ∧ a.remaining x < (a.permitted x + 1) * a.openTimeLeft x := by
  have positive : 0 < a.openTimeLeft x := lt_of_lt_of_le (by decide) (Nat.le_max_left 3600 _)
  have whole : ((a.remaining x).toNat : Int) = a.remaining x := Int.toNat_of_nonneg left.le
  rw [← whole]
  exact ⟨by exact_mod_cast Nat.div_mul_le_self _ _, by exact_mod_cast Nat.lt_mul_of_div_lt (Nat.lt_succ_self _) positive⟩

end

end Sys2Proof.Machine

namespace Sys2Proof.Proofs

open Sys2Proof Sys2Proof.Machine

/-- Settles O19: the zone created is the one record written, and the configuration changes with it. -/
theorem zoneDefineCreates : Obligations.ZoneDefineCreates := by
  intro s tag z f d valid fits hd passes unset taken
  have range := (validZone_iff z).1 valid
  have record := State.zone?_putZone_same (s := s) (Zone.created d s.clock s.now) range.1 range.2
  have changed : (s.putZone z (Zone.created d s.clock s.now)).configuration ≠ s.configuration :=
    State.configuration_ne range (by rw [record, unset]; exact Option.some_ne_none _)
  have answered := taken.zoneDefined valid fits hd passes
  rw [State.defineZone_unset d unset, State.noteConfiguration_changed changed] at answered
  exact ⟨_, answered, record, fun k hk => State.zone?_putZone_ne s _ hk, rfl⟩

/-- Settles O22: a zone closed is written with its refresh owed where its command has failed at once, as `State.closeZone_open`
says. -/
theorem zoneOpenAndClose : Obligations.ZoneOpenAndClose := by
  intro s tag z r hr
  have answerClose {t : State} (taken : TakenUp (.zoneClose tag [z]) s)
      (closes : (s.closeZone z.toNat).noteConfiguration s = t) : Answers (.zoneClose tag [z]) s .done [] t := by
    refine taken.answered rfl ?_
    rw [answerTo_zoneClose, withBody_some (readBody_one z), answerZoneClose, onZone_some _ hr, closes]
  refine ⟨fun taken => taken.answered rfl ?_, fun taken => ⟨fun closed => ?_, fun opened => ?_⟩⟩
  · rw [answerTo_zoneOpen, withBody_some (readBody_one z), answerZoneOpen, onZone_some _ hr, State.openZone_noted hr]
    rfl
  · exact answerClose taken (State.closeZone_closed hr closed)
  · have closes := State.closeZone_noted hr opened
    refine ⟨_, _, answerClose taken closes, State.zone?_putZone _ hr, fun k hk => State.zone?_putZone_ne s _ hk, rfl,
      fun none => ?_, fun d l named hl => ⟨fun takes => ?_, fun refuses => ?_⟩⟩
    · simp [none, placedFor]
    · simp only [named, Option.any_some, refusesFor_eq hl, takes, placedFor, Option.elim_some, placedOn_takes _ _ hl takes]
      exact ⟨Bool.or_false _, trivial⟩
    · simp only [named, Option.any_some, refusesFor_eq hl, refuses, placedFor, Option.elim_some, placedOn_refuses _ _ hl refuses]
      exact ⟨Bool.or_true _, trivial⟩

/-- Settles O43: the band and the count are written to the zone's record alone. -/
theorem bandAndOccupancy : Obligations.BandAndOccupancy := by
  intro s tag z r hr
  refine ⟨fun b ok taken => taken.answered rfl ?_, fun b ok allowance taken => taken.answered rfl ?_,
    fun n fits taken => taken.answered rfl ?_⟩
  · rw [answerTo_climateBand, withBody_some (readBody_climateBand (State.zone?_lt hr) (Band.fits_of_inRange ok)),
      answerClimateBand_installs hr ok]
    rfl
  · have same : { b with trimAllowance := 4 } = b := by rw [← allowance]
    rw [answerTo_climateBand, withBody_some (readBody_climateBand_without (State.zone?_lt hr) (Band.fits_of_inRange ok)),
      same, answerClimateBand_installs hr ok]
    simp only [Zone.withBand, allowance]
    rfl
  · rw [answerTo_occupancy, withBody_some (readBody_occupancy (State.zone?_lt hr) fits), answerOccupancy, onZone_some _ hr]
    simp only [Zone.surge, ← yesNo_eq]
    cases r.defn.surgeThreshold with
    | none => rfl
    | some th => simp [yesNo, Config.occupancyMax]

/-- Settles O24: each request installs an account by `State.setAccount`; ACCOUNT ADJUST then evaluates SATURATED. -/
theorem seasonsAndAdjustment : Obligations.SeasonsAndAdjustment := by
  intro s tag z r hr
  have small := State.zone?_lt hr
  refine ⟨fun a p a1 a2 p1 p2 taken => taken.answered rfl ?_, fun a p ha hp outside taken => taken.refused rfl ?_,
    fun taken => taken.answered rfl ?_, fun d q hd hq taken => ?_⟩
  · rw [answerTo_seasonBegin, withBody_some (readBody_seasonBegin small (by omega) (by omega)),
      answerSeasonBegin_begins hr a1 a2 p1 p2, Account.closingBytes, optionalSeason_eq, ← yesNo_eq,
      State.setAccount, Account.beginSeason_fresh _ a1]
    cases r.account.season <;> rfl
  · rw [answerTo_seasonBegin, withBody_some (readBody_seasonBegin small ha hp), answerSeasonBegin_range hr outside]
  · rw [answerTo_seasonEnd, withBody_some (readBody_nat small), answerSeasonEnd, onZone_some _ hr,
      Account.endingBytes, optionalSeason_eq]
    cases r.account.season <;> rfl
  · have work : answerTo ⟨tag, 0x0D, be 1 z ++ be 6 d ++ be 4 q⟩ s = .reply .done
        (be 5 r.account.dose ++ be 2 r.account.residue ++ be 4 r.account.openSeconds ++ be 5 (r.account.adjusted d q).dose)
        ((s.setAccount z r (r.account.adjusted d q)).evalMark z .saturated (r.account.adjusted d q).atLimit) := by
      rw [answerTo_accountAdjust, withBody_some (readBody_accountAdjust small hd hq), answerAccountAdjust, onZone_some _ hr]
    rw [Account.adjusted_dose, Account.adjusted_atLimit] at work
    have installed := State.zone?_putZone (r.withAccount (r.account.adjusted d q)) hr
    have evaluated := State.putZone_evalMark_evaluated (r.withAccount (r.account.adjusted d q)) .saturated
      (decide (1099511627775 ≤ d)) hr
    refine ⟨_, taken.answered rfl work, ⟨_, State.evalMark_zone? _ _ installed, ?_, ?_, ?_⟩, evaluated.offered,
      evaluated.others, evaluated.frame⟩
    · rw [← r.account.adjusted_dose d q]
      rfl
    · simp [Zone.withAccount]
    · simp only [Zone.withAccount, Account.isExhausted_eq]
      rfl

/-- Settles O26: below the limit no sample is cut off, and each divides its product with the residue by 1024. -/
theorem samplesLoseNothing : Obligations.SamplesLoseNothing := by
  intro a xs
  induction xs generalizing a with
  | nil => intro _; simp [Account.sampledAll, Account.products]
  | cons x xs ih =>
    intro room
    have rest := ih (a.sampled x.clock x.lux x.weight x.isOpen) room
    have limited := lt_of_le_of_lt (Account.dose_le_sampledAll xs _ room) room
    rw [Account.sampledAll, Account.products, rest]
    rw [Account.sampled_eq] at limited ⊢
    dsimp only at limited ⊢
    omega

/-- Settles O29: the rows of R42 are the equations of `budget`. -/
theorem reviewTargetRange : Obligations.ReviewTargetRange := by
  intro d a
  refine ⟨budget_unseasoned, fun x R T season hR hT => ?_,
    fun ordered => ⟨budget_le_ceiling ordered, fun policy _ => floor_le_budget ordered policy⟩⟩
  obtain rfl : R = a.remaining x := by rw [hR, Account.remaining, Nat.cast_mul]; rfl
  obtain rfl : T = a.openTimeLeft x := hT.trans (a.openTimeLeft_eq x).symm
  refine ⟨fun spent policy => ?_, fun spent policy => ?_, fun left => ?_⟩
  · rw [budget_spent season spent, if_pos policy]
  · rw [budget_spent season spent, policy]
    rfl
  · obtain ⟨below, above⟩ := Account.permitted_spec left
    refine ⟨a.permitted x, below, above, fun policy within => ?_, fun policy short => ?_, fun policy within => ?_,
      fun policy short => ?_⟩
    · simp [budget_within season left within, policy]
    · simp [budget_short season left short, policy]
    · simp only [budget_within season left within, policy, true_and]
    · simp [budget_short season left short, policy]

end Sys2Proof.Proofs
end

section
/-! PROOFS. The marks that MARKS CLEAR tests, and the binding of a zone with the resolution of its channels (O21, O23). -/

namespace Sys2Proof.Machine

/-! ## MARKS CLEAR (R17, R18) -/

theorem BandState.isOut_iff (b : BandState) : b.isOut = true ↔ b = .outLow ∨ b = .outHigh := by cases b <;> simp [BandState.isOut]

/-- The zone's record after MARKS CLEAR has named these marks. -/
def Zone.cleared (r : Zone) (now : Nat) (named : List Mark) : Zone :=
  { r with marks := r.marks.filter fun m => decide ¬ (m ∈ named ∧ r.markHolds now m = false) }

theorem State.clearMarks_eq {s : State} {z : Nat} {r : Zone} (hr : s.zone? z = some r) (named : List Mark) :
    s.clearMarks z named = (s.putZone z (r.cleared s.now named)).followAlarm := by
  have kept : (r.marks.filter fun m => !(named.contains m && !r.markHolds s.now m))
      = r.marks.filter fun m => decide ¬ (m ∈ named ∧ r.markHolds s.now m = false) :=
    List.filter_congr fun m _ => by simp
  rw [State.clearMarks, State.modZone_some _ hr, kept]
  rfl

theorem Zone.keptMarks_eq (r : Zone) (now : Nat) (named : List Mark) :
    r.keptMarks now named = allMarks.filter fun m => decide (m ∈ named) && r.markHolds now m :=
  List.filter_congr fun m _ => by simp

theorem Zone.keptMarks_eq_nil_iff (r : Zone) (now : Nat) (named : List Mark) :
    r.keptMarks now named = [] ↔ ∀ m ∈ named, r.markHolds now m = false := by
  simp [Zone.keptMarks, List.filter_eq_nil_iff, mem_allMarks]

theorem answerMarksClear_cleared {s : State} {z : Nat} {r : Zone} (hr : s.zone? z = some r) (named : List Mark) :
    answerMarksClear (z, named.map Mark.code) s
      = .reply (if r.keptMarks s.now named = [] then .done else .partly)
          (if r.keptMarks s.now named = [] then [] else counted (fun m => be 1 m.code) (r.keptMarks s.now named))
          (s.clearMarks z named) := by
  have read : allSome Mark.ofCode? (named.map Mark.code) = some named := by
    simpa using allSome_map Mark.ofCode? Mark.code id named fun m _ => Mark.ofCode?_code m
  rw [answerMarksClear, onZone_some _ hr]
  dsimp only
  rw [read]
  by_cases none : r.keptMarks s.now named = []
  · simp [none]
  · simp [none]

theorem Zone.exhausted_holds_iff (r : Zone) (now : Nat) :
    r.markHolds now .exhausted = true ↔ (r.reviewDue ≤ now ∧ r.light.spent = true)
      ∨ (now < r.reviewDue ∧ ∃ x, r.account.season = some x ∧ (x.allowance : Int) * 3600 - r.account.dose ≤ 0) := by
  simp only [Zone.markHolds, Account.isExhausted_eq]
  by_cases due : r.reviewDue ≤ now
  · simp [due, due.not_gt]
  · simp [due, not_le.1 due, Option.any_eq_true]

/-! ## Binding (R105, R106) -/

theorem DeviceKind.carries_iff (k : DeviceKind) :
    (k.carries .light = true ↔ k = .lightSensor ∨ k = .lightClimateSensor)
      ∧ (k.carries .climate = true ↔ k = .climateSensor ∨ k = .lightClimateSensor) := by
  cases k <;> simp [DeviceKind.carries]

/-- 127 masks the seven bits of an address. -/
theorem testBit_masked (n care i : Nat) :
    (n &&& care &&& 127).testBit i = (n.testBit i && care.testBit i && decide (i < 7)) := by
  rw [Nat.testBit_and, Nat.testBit_and, show 127 = 2 ^ 7 - 1 from rfl, Nat.testBit_two_pow_sub_one]

theorem Binding.covers_iff (b : Binding) (address : Nat) :
    b.covers address = true ↔ ∀ i, i < 7 → b.care.testBit i = true → address.testBit i = b.base.testBit i := by
  rw [Binding.covers, beq_iff_eq]
  constructor
  · intro same i low cared
    have bit : (address &&& b.care &&& 127).testBit i = (b.base &&& b.care &&& 127).testBit i := by rw [same]
    rw [testBit_masked, testBit_masked, cared, decide_eq_true low] at bit
    simpa only [Bool.and_true] using bit
  · intro agrees
    refine Nat.eq_of_testBit_eq fun i => ?_
    rw [testBit_masked, testBit_masked]
    by_cases low : i < 7
    · cases cared : b.care.testBit i with
      | false => simp
      | true => rw [agrees i low cared]
    · simp [low]

/-- The zone's record with these binding entries. -/
def Zone.bound (r : Zone) (bs : List Binding) : Zone := { r with measure := { r.measure with bindings := bs } }

theorem Zone.bound_stored (r : Zone) (bs : List Binding) : (r.bound bs).stored ≠ r.stored ↔ r.measure.bindings ≠ bs := by
  simp [Zone.stored, Zone.bound, eq_comm]

theorem answerZoneBind_binds {s : State} {z : Nat} {r : Zone} {bs : List Binding} (hr : s.zone? z = some r) (few : bs.length ≤ 4)
    (ranges : ∀ b ∈ bs, b.inRange) :
    answerZoneBind (z, bs.map fun b => (b.line, b.base, b.care, b.cls.code)) s
      = .reply .done (be 1 bs.length ++ bs.map fun b => BitVec.ofNat 8 (s.devices.countP fun e => b.binds e))
          { s.putZone z (r.bound bs) with
            configChanged := s.configChanged || decide (r.measure.bindings ≠ bs) } := by
  have read : allSome bindingOf? (bs.map fun b => (b.line, b.base, b.care, b.cls.code)) = some bs := by
    have := allSome_map bindingOf? (fun b : Binding => (b.line, b.base, b.care, b.cls.code)) id bs fun b hb => by
      obtain ⟨line, base, care⟩ := ranges b hb
      simp [bindingOf?, line, base, care]
    simpa using this
  have counts : counted (fun b => be 1 (s.bindCount b)) bs
      = be 1 bs.length ++ bs.map fun b => BitVec.ofNat 8 (s.devices.countP fun e => b.binds e) := by
    simp [counted, State.bindCount, List.countP_eq_length_filter, List.map_eq_flatMap]
  have noted := State.noteConfiguration_putZone hr (r.bound bs)
  rw [decide_eq_decide.2 (r.bound_stored bs)] at noted
  rw [answerZoneBind, onZone_some _ hr, if_neg (by simpa using few), ← noted, ← counts]
  dsimp only
  rw [read]
  rfl

theorem State.boundTo_sublist (s : State) (bs : List Binding) (c : QuantityClass) : (s.boundTo bs c).Sublist s.devices :=
  List.filter_sublist

theorem State.mem_boundTo (s : State) (bs : List Binding) (c : QuantityClass) (e : Device) :
    e ∈ s.boundTo bs c ↔ e ∈ s.devices ∧ ∃ b ∈ bs, b.cls = c ∧ b.binds e = true := by
  simp [State.boundTo]

/-! ## The mean of fresh valid readings (R107, R108) -/

theorem Device.supplies_eq (e : Device) (now : Nat) (q : Reading → Option Quantity) :
    e.supplies now q = (e.reading.filter fun r => decide (now ≤ r.arrived + 30)).bind fun r =>
      (q r).bind fun v => if v.valid then some v.value else none := by
  unfold Device.supplies
  cases e.reading with
  | none => rfl
  | some r =>
    have fresh : now - r.arrived ≤ Config.freshSeconds ↔ now ≤ r.arrived + 30 := by
      simp only [Config.freshSeconds]
      omega
    by_cases h : now ≤ r.arrived + 30
    · simp only [fresh, h, if_true, Option.filter_some, decide_true, Option.bind_some]
      cases q r <;> rfl
    · simp [fresh, h, Option.filter]

/-- A quotient by twice the count, rounded down after half of it has been added, is the nearest. -/
theorem halves_of_ediv {x n : Int} (positive : 0 < n) :
    2 * n * ((2 * x + n) / (2 * n)) ≤ 2 * x + n ∧ 2 * x - n < 2 * n * ((2 * x + n) / (2 * n)) := by
  have below := Int.mul_ediv_self_le (x := 2 * x + n) (k := 2 * n) (by omega)
  have above := Int.lt_mul_ediv_self_add (x := 2 * x + n) (k := 2 * n) (by omega)
  omega

theorem roundedMean_spec {sum : Int} {n : Nat} (some : 0 < n) :
    (0 ≤ sum → 2 * sum - n < 2 * n * roundedMean sum n ∧ 2 * n * roundedMean sum n ≤ 2 * sum + n)
      ∧ (sum < 0 → 2 * sum - n ≤ 2 * n * roundedMean sum n ∧ 2 * n * roundedMean sum n < 2 * sum + n) := by
  have positive : (0 : Int) < n := by exact_mod_cast some
  refine ⟨fun up => ?_, fun down => ?_⟩
  · rw [roundedMean, if_pos up]
    exact (halves_of_ediv positive).symm
  · obtain ⟨below, above⟩ := halves_of_ediv (x := -sum) positive
    rw [roundedMean, if_neg down.not_ge, mul_neg]
    omega

/-! ## Resolution (R108 to R110) -/

section
variable (c : Channel) (now : Nat)

theorem Channel.settle_fresh : c.settle now true = ⟨false, now⟩ := rfl

theorem Channel.settle_kept {c : Channel} {now : Nat} (recent : now < c.lastFresh + 30) : c.settle now false = c := by
  have young : ¬ Config.freshSeconds ≤ now - c.lastFresh := by
    simp only [Config.freshSeconds]
    omega
  simp [Channel.settle, young]

theorem Channel.settle_blind {c : Channel} {now : Nat} (old : c.lastFresh + 30 ≤ now) :
    c.settle now false = ⟨true, c.lastFresh⟩ := by
  have age : Config.freshSeconds ≤ now - c.lastFresh := by
    simp only [Config.freshSeconds]
    omega
  simp [Channel.settle, age]

end

theorem decide_ne_none {α : Type} [DecidableEq (Option α)] (x : Option α) : decide (x ≠ none) = x.isSome := by
  cases x <;> simp

/-- One of two quantities is fresh, and the channel is valid; or neither is. -/
theorem Channel.settle_of_either {α β : Type} {x : Option α} {y : Option β} (c : Channel) (now : Nat) (h : x ≠ none ∨ y ≠ none) :
    c.settle now (x.isSome || y.isSome) = ⟨false, now⟩ := by
  have fresh : (x.isSome || y.isSome) = true := by simpa [Option.isSome_iff_ne_none] using h
  rw [fresh, Channel.settle_fresh]

end Sys2Proof.Machine

namespace Sys2Proof.Proofs

open Sys2Proof Sys2Proof.Machine

/-- Settles O23: the part cleared is the zone's record written with the alarm line following; each mark's condition is read off
`Zone.markHolds`; and a review fixes its finding with the target. -/
theorem marksClearTests : Obligations.MarksClearTests := by
  refine ⟨fun s tag z r named hr few taken => ?_, fun r now m => ?_, fun s z r running hr due => ?_⟩
  · have work : answerTo ⟨tag, 0x09, be 1 z ++ counted (fun m => be 1 m.code) named⟩ s = _ :=
      (congrFun (answerTo_marksClear tag _) s).trans
        ((withBody_some (readBody_marksClear (State.zone?_lt hr) few)).trans (answerMarksClear_cleared hr named))
    rw [State.clearMarks_eq hr] at work
    refine ⟨_, _, _, taken.answered rfl work, ?_, fun k hk => ?_, ?_, fun level => ?_, fun pulse => ?_, fun none => ?_,
      fun some => ?_⟩
    · exact (State.zone?_congr (State.followAlarm_zones _) _).trans (State.zone?_putZone (r.cleared s.now named) hr)
    · exact (State.zone?_congr (State.followAlarm_zones _) _).trans (State.zone?_putZone_ne s _ hk)
    · rw [State.followAlarm_frame]
      rfl
    · rw [State.followAlarm_level (s := s.putZone z (r.cleared s.now named)) level]
      rfl
    · rw [State.followAlarm_pulse (s := s.putZone z (r.cleared s.now named)) pulse]
      rfl
    · rw [if_pos ((r.keptMarks_eq_nil_iff _ _).2 none), if_pos ((r.keptMarks_eq_nil_iff _ _).2 none)]
      exact ⟨rfl, rfl⟩
    · have kept : r.keptMarks s.now named ≠ [] := fun none => by
        obtain ⟨m, hm, holds⟩ := some
        exact Bool.false_ne_true (((r.keptMarks_eq_nil_iff _ _).1 none m hm).symm.trans holds)
      rw [if_neg kept, if_neg kept, r.keptMarks_eq]
      exact ⟨rfl, rfl⟩
  · cases m with
    | rhOut => exact BandState.isOut_iff _
    | tempOut => exact BandState.isOut_iff _
    | lightPressure => simp [Zone.markHolds, Condition.isPressed_eq]
    | exhausted => exact r.exhausted_holds_iff now
    | saturated => simp [Zone.markHolds, Account.atLimit, Config.doseLimit]
    | rhSwing | blindLight | blindClimate | unresolved | accountGap | accountLost => simp [Zone.markHolds]
  · exact ⟨_, _, happens_event (work := (·.lightReview z)) rfl running (State.lightReview_eq hr due),
      State.afterReview_zone? hr _, r.account.isExhausted_eq⟩

/-- Settles O21: the entries are written and counted; each further clause is what one function of the measurement does. -/
theorem zoneBindReplaces : Obligations.ZoneBindReplaces := by
  refine ⟨fun s tag z r bs hr few ranges taken => taken.answered rfl ?_, fun b e => ?_,
    fun s bs c => ⟨s.boundTo_sublist bs c, s.mem_boundTo bs c⟩, fun set now q values hv => ?_, fun m now lux uv => ?_,
    fun m now rh temp => ?_⟩
  · rw [answerTo_zoneBind, withBody_some (readBody_zoneBind (State.zone?_lt hr) (by omega) ranges),
      answerZoneBind_binds hr few ranges]
    rfl
  · obtain ⟨light, climate⟩ := e.kind.carries_iff
    simp only [Binding.binds, Bool.and_eq_true, beq_iff_eq, bne_iff_ne, b.covers_iff]
    cases b.cls
    · rw [light]; tauto
    · rw [climate]; tauto
  · have supplied : set.filterMap (fun e => e.supplies now q) = values := by
      rw [hv]
      exact List.filterMap_congr fun e _ => e.supplies_eq now q
    cases hvs : values with
    | nil => exact ⟨fun _ => by rw [freshMean, supplied, hvs], fun n some => absurd rfl some⟩
    | cons v vs =>
      refine ⟨fun none => (List.cons_ne_nil _ _ none).elim, fun n _ hn => ?_⟩
      rw [hn]
      exact ⟨_, by rw [freshMean, supplied, hvs], roundedMean_spec (Nat.succ_pos _)⟩
  · refine ⟨_, rfl, ?_, ?_, ?_, ?_, ?_, m.light.settle_of_either now, ?_, ?_⟩
    · simp only [Measurement.resolveLight, decide_ne_none]
    · rintro v rfl; simp [Measurement.resolveLight]
    · rintro rfl; simp [Measurement.resolveLight]
    · rintro v rfl; simp [Measurement.resolveLight]
    · rintro rfl; simp [Measurement.resolveLight]
    · rintro rfl rfl recent; exact Channel.settle_kept recent
    · rintro rfl rfl old; exact Channel.settle_blind old
  · refine ⟨_, rfl, ?_, ?_, ?_, ?_, ?_, m.climate.settle_of_either now, ?_, ?_⟩
    · simp only [Measurement.resolveClimate, decide_ne_none]
    · rintro v rfl; simp [Measurement.resolveClimate]
    · rintro rfl; simp [Measurement.resolveClimate]
    · rintro v rfl; simp [Measurement.resolveClimate]
    · rintro rfl; simp [Measurement.resolveClimate]
    · rintro rfl rfl recent; exact Channel.settle_kept recent
    · rintro rfl rfl old; exact Channel.settle_blind old

end Sys2Proof.Proofs
end

section
/-! PROOFS. What the placing of commands and the work of a plant leave as it is: what the configuration keeps of every record, and
everything of the lines but their queues; and ZONE DEFINE of a defined zone (O20). -/

namespace Sys2Proof.Machine

/-! ## The set-up stands (R168) -/

/-- The line without its queue. -/
def Line.unqueued (l : Line) : Line := { l with queue := [] }

/-- What commands that fail at once, and pulses that end, change of a zone: a refresh may be owed and trim unavailable, and a pulse
in flight may have ended. -/
structure Zone.Touched (r r' : Zone) : Prop where
  record : r' = { r with
    light := { r.light with refreshOwed := r'.light.refreshOwed }
    climate := { r.climate with
      pulse := r'.climate.pulse, trimUnavailable := r'.climate.trimUnavailable, offOwed := r'.climate.offOwed } }
  owed : r.light.refreshOwed = true → r'.light.refreshOwed = true
  idle : r.climate.pulse = none → r'.climate.pulse = none

theorem Zone.Touched.refl (r : Zone) : r.Touched r := ⟨rfl, id, id⟩

theorem Zone.Touched.trans {r q x : Zone} (h : r.Touched q) (k : q.Touched x) : r.Touched x where
  record := by rw [k.record, h.record]
  owed := k.owed ∘ h.owed
  idle := k.idle ∘ h.idle

theorem Zone.Touched.stored {r r' : Zone} (h : r.Touched r') : r'.stored = r.stored := by rw [h.record]; rfl

/-- The plant names the device it named, and holds no demand that it did not hold. -/
structure Plant.Touched (r r' : Plant) : Prop where
  controller : r'.controller = r.controller
  demands : r'.demands ⊆ r.demands

/-- A plant with the demands it held. -/
theorem Plant.Touched.of_lists {r r' : Plant} (controller : r'.controller = r.controller) (service : r'.service = r.service)
    (waiting : r'.waiting = r.waiting) : r.Touched r' :=
  ⟨controller, by rw [Plant.demands, Plant.demands, service, waiting]; exact List.Subset.refl _⟩

theorem Plant.Touched.refl (r : Plant) : r.Touched r := .of_lists rfl rfl rfl

theorem Plant.Touched.trans {r q x : Plant} (h : r.Touched q) (k : q.Touched x) : r.Touched x :=
  ⟨k.controller.trans h.controller, fun _ hx => h.demands (k.demands hx)⟩

/-- The records of a table stay where they are, each related to what it was. -/
def Kept? {α : Type} (related : α → α → Prop) (before after : Nat → Option α) : Prop :=
  ∀ k, (before k = none → after k = none) ∧ ∀ r, before k = some r → ∃ r', after k = some r' ∧ related r r'

theorem Kept?.of_eq {α : Type} {related : α → α → Prop} {before after : Nat → Option α} (refl : ∀ r, related r r)
    (same : ∀ k, after k = before k) : Kept? related before after :=
  fun k => ⟨fun none => (same k).trans none, fun r some => ⟨r, (same k).trans some, refl r⟩⟩

theorem Kept?.trans {α : Type} {related : α → α → Prop} {a b c : Nat → Option α}
    (chain : ∀ {r q x}, related r q → related q x → related r x) (h : Kept? related a b) (k : Kept? related b c) :
    Kept? related a c := by
  refine fun n => ⟨(k n).1 ∘ (h n).1, fun r some => ?_⟩
  obtain ⟨q, someB, first⟩ := (h n).2 r some
  obtain ⟨x, someC, second⟩ := (k n).2 q someB
  exact ⟨x, someC, chain first second⟩

/-- One record of the table has been written. -/
theorem Kept?.put {α : Type} {related : α → α → Prop} {before after : Nat → Option α} {n : Nat} {r r' : α}
    (refl : ∀ r, related r r) (was : before n = some r) (is : after n = some r') (others : ∀ k, k ≠ n → after k = before k)
    (rel : related r r') : Kept? related before after := by
  intro k
  by_cases hk : k = n
  · refine ⟨fun none => ?_, fun q some => ⟨r', by rw [hk, is], ?_⟩⟩
    · rw [hk, was] at none
      cases none
    · rw [hk, was] at some
      cases some
      exact rel
  · exact ⟨fun none => (others k hk).trans none, fun q some => ⟨q, (others k hk).trans some, refl q⟩⟩

/-- Equal parts make equal tables. -/
theorem Kept?.map_eq {α β : Type} {related : α → α → Prop} {before after : Nat → Option α} {f : α → β}
    (h : Kept? related before after) (part : ∀ {r r'}, related r r' → f r' = f r) (k : Nat) :
    (after k).map f = (before k).map f := by
  cases was : before k with
  | none => rw [(h k).1 was, Option.map_none]
  | some r =>
    obtain ⟨r', is, rel⟩ := (h k).2 r was
    rw [is, Option.map_some, Option.map_some, part rel]

/-- Devices and settings stand, and of the other records what the configuration keeps: zones and plants are touched at most, a bank
keeps its device and its slew, and a line differs in its queue alone. -/
structure SameSetup (s t : State) : Prop where
  zones : Kept? Zone.Touched s.zone? t.zone?
  banks : Kept? (fun r r' : Bank => r'.louvre = r.louvre ∧ r'.slew = r.slew) s.bank? t.bank?
  plants : Kept? Plant.Touched s.plant? t.plant?
  lines : Kept? (fun r r' : Line => r'.unqueued = r.unqueued) s.line? t.line?
  devices : t.devices = s.devices
  report : t.report = s.report

/-- A step that leaves the tables as they are. -/
theorem SameSetup.of_tables {s t : State} (zones : t.zones = s.zones) (banks : t.banks = s.banks) (plants : t.plants = s.plants)
    (lines : t.lines = s.lines) (devices : t.devices = s.devices) (report : t.report = s.report) : SameSetup s t where
  zones := .of_eq Zone.Touched.refl fun k => State.zone?_congr zones k
  banks := .of_eq (fun _ => ⟨rfl, rfl⟩) fun k => by rw [State.bank?, State.bank?, banks]
  plants := .of_eq Plant.Touched.refl fun k => State.plant?_congr plants k
  lines := .of_eq (fun _ => rfl) fun k => State.line?_congr lines k
  devices := devices
  report := report

theorem SameSetup.refl (s : State) : SameSetup s s := .of_tables rfl rfl rfl rfl rfl rfl

theorem SameSetup.trans {s t u : State} (h : SameSetup s t) (k : SameSetup t u) : SameSetup s u where
  zones := h.zones.trans (fun h k => h.trans k) k.zones
  banks := h.banks.trans (fun h k => ⟨k.1.trans h.1, k.2.trans h.2⟩) k.banks
  plants := h.plants.trans (fun h k => h.trans k) k.plants
  lines := h.lines.trans (fun h k => k.trans h) k.lines
  devices := k.devices.trans h.devices
  report := k.report.trans h.report

/-- A line keeps all but its queue. -/
theorem SameSetup.lineState {s t : State} (h : SameSetup s t) (k : Nat) :
    (t.line? k).map (·.state) = (s.line? k).map (·.state) :=
  h.lines.map_eq (fun {r r'} same => show r'.unqueued.state = r.unqueued.state by rw [same]) k

theorem SameSetup.configuration {s t : State} (h : SameSetup s t) : t.configuration = s.configuration := by
  have limits (k : Nat) : (t.line? k).map (·.retryLimit) = (s.line? k).map (·.retryLimit) :=
    h.lines.map_eq (fun {r r'} same => show r'.unqueued.retryLimit = r.unqueued.retryLimit by rw [same]) k
  have banks (k : Nat) : (t.bank? k).map (fun r => (⟨r.louvre, r.slew⟩ : StoredBank))
      = (s.bank? k).map fun r => ⟨r.louvre, r.slew⟩ := h.banks.map_eq (fun same => by rw [same.1, same.2]) k
  have zones (k : Nat) : (t.zone? k).map Zone.stored = (s.zone? k).map Zone.stored := h.zones.map_eq (·.stored) k
  have plants (k : Nat) : (t.plant? k).map (·.controller) = (s.plant? k).map (·.controller) :=
    h.plants.map_eq (·.controller) k
  simp only [State.configuration, zones, plants, h.devices, h.report, limits, banks]

section
variable {s : State}

theorem SameSetup.putZone {z : Nat} {r r' : Zone} (hr : s.zone? z = some r) (touched : r.Touched r') :
    SameSetup s (s.putZone z r') :=
  { SameSetup.refl s with
    zones := .put Zone.Touched.refl hr (State.zone?_putZone r' hr) (fun _ => State.zone?_putZone_ne s r') touched }

theorem SameSetup.putBank {b : Nat} {r r' : Bank} (hr : s.bank? b = some r) (louvre : r'.louvre = r.louvre)
    (slew : r'.slew = r.slew) : SameSetup s (s.putBank b r') :=
  { SameSetup.refl s with
    banks := .put (fun _ => ⟨rfl, rfl⟩) hr (State.bank?_putBank r' hr) (fun _ => State.bank?_putBank_ne s r') ⟨louvre, slew⟩ }

theorem SameSetup.putPlant {p : Nat} {r r' : Plant} (hr : s.plant? p = some r) (touched : r.Touched r') :
    SameSetup s (s.putPlant p r') :=
  { SameSetup.refl s with
    plants := .put Plant.Touched.refl hr (State.plant?_putPlant r' hr) (fun _ => State.plant?_putPlant_ne s r') touched }

theorem SameSetup.putLine {l : Nat} {r : Line} (hr : s.line? l = some r) (queue : List Command) :
    SameSetup s (s.putLine l { r with queue := queue }) :=
  { SameSetup.refl s with
    lines := .put (fun _ => rfl) hr (State.line?_putLine _ hr) (fun _ => State.line?_putLine_ne s _) rfl }

theorem SameSetup.modZone {z : Nat} {f : Zone → Zone} (touched : ∀ r : Zone, r.Touched (f r)) : SameSetup s (s.modZone z f) := by
  unfold State.modZone
  split
  case h_1 r hr => exact .putZone hr (touched r)
  case h_2 => exact .refl s

theorem SameSetup.modBank {b : Nat} {f : Bank → Bank} (louvre : ∀ r, (f r).louvre = r.louvre) (slew : ∀ r, (f r).slew = r.slew) :
    SameSetup s (s.modBank b f) := by
  unfold State.modBank
  split
  case h_1 r hr => exact .putBank hr (louvre r) (slew r)
  case h_2 => exact .refl s

theorem State.followAlarm_setup : SameSetup s s.followAlarm := .of_tables (by simp) (by simp) (by simp) (by simp) (by simp) (by simp)

theorem State.offer_setup (b : NoticeBody) (x : Subject) : SameSetup s (s.offer b x) :=
  .of_tables (by simp) (by simp) (by simp) (by simp) (by simp) (by simp)

theorem State.plantFault_setup (p : Nat) (reason : PlantFaultReason) : SameSetup s (s.plantFault p reason) := by
  unfold State.plantFault
  split
  case h_1 r hr =>
    split
    · exact .refl s
    · refine .trans (.trans ?_ State.followAlarm_setup) (State.offer_setup _ _)
      exact .putPlant hr ⟨rfl, r.returnService_demands.subset⟩
  case h_2 => exact .refl s

theorem State.commandFailed_setup (i : Issuer) (d : DeviceAddr) : SameSetup s (s.commandFailed i d) := by
  unfold State.commandFailed
  split
  · cases i with
    | governor z => exact .modZone fun _ => ⟨rfl, fun _ => rfl, id⟩
    | bank b => exact .modBank (fun _ => rfl) fun _ => rfl
    | tracker z =>
      refine .modZone fun r => ?_
      dsimp only
      split
      · exact .refl r
      · exact ⟨rfl, id, fun _ => rfl⟩
    | arbiter p => exact State.plantFault_setup p _
  · exact .refl s

theorem State.place_setup (d : DeviceAddr) (v : Nat) (i : Issuer) : SameSetup s (s.place d v i) := by
  rcases s.place_cases d v i with ⟨l, hl, -, placed⟩ | ⟨l, -, -, failed⟩ | ⟨-, nothing⟩
  · rw [placed]
    exact .putLine hl _
  · rw [failed]
    exact State.commandFailed_setup i d
  · rw [nothing]
    exact .refl s

theorem State.placeDimmer_setup (z : Nat) (d : Option DeviceAddr) (v : Nat) : SameSetup s (s.placeDimmer z d v) := by
  cases d with
  | none => exact .refl s
  | some d => exact State.place_setup d v _

theorem State.endPulse_setup (z : Nat) : SameSetup s (s.endPulse z) := by
  unfold State.endPulse
  split
  case h_1 r hr =>
    split
    · exact SameSetup.trans (.putZone hr (by exact ⟨rfl, id, fun _ => rfl⟩)) (State.place_setup _ _ _)
    · exact .refl s
  case h_2 => exact .refl s

theorem State.placeDuty_setup (p : Nat) (duty : Duty) : SameSetup s (s.placeDuty p duty) := by
  unfold State.placeDuty
  split
  case h_1 r hr => exact SameSetup.trans (.putPlant hr (by exact .of_lists rfl rfl rfl)) (State.place_setup _ _ _)
  case h_2 => exact .refl s

theorem State.serviceBegins_foldl_setup (ds : List Demand) : SameSetup s (ds.foldl (fun s d => s.serviceBegins d.zone) s) := by
  induction ds generalizing s with
  | nil => exact .refl s
  | cons d ds ih => exact (State.endPulse_setup d.zone).trans ih

theorem State.enterRunning_setup (p : Nat) : SameSetup s (s.enterRunning p) := by
  unfold State.enterRunning
  split
  case h_1 r hr =>
    refine .trans (.trans ?_ (State.offer_setup _ _)) (State.serviceBegins_foldl_setup _)
    split
    · exact .putPlant hr (.of_lists rfl rfl rfl)
    · exact SameSetup.trans (.putPlant hr (by exact .of_lists rfl rfl rfl)) (State.placeDuty_setup _ _)
  case h_2 => exact .refl s

theorem State.enterChangeover_setup (p : Nat) : SameSetup s (s.enterChangeover p) := by
  unfold State.enterChangeover
  split
  case h_1 r hr => exact SameSetup.trans (.putPlant hr (by exact .of_lists rfl rfl rfl)) (State.placeDuty_setup _ _)
  case h_2 => exact .refl s

theorem State.enterIdle_setup (p : Nat) : SameSetup s (s.enterIdle p) := by
  unfold State.enterIdle
  split
  case h_1 r hr =>
    dsimp only
    split
    · exact .putPlant hr (.of_lists rfl rfl rfl)
    · exact SameSetup.trans (.putPlant hr (by exact .of_lists rfl rfl rfl)) (State.placeDuty_setup _ _)
  case h_2 => exact .refl s

theorem Plant.serving_subset (r : Plant) (duty : Duty) : (r.serving duty).demands ⊆ r.demands :=
  fun _ hx => List.mem_append_right _ ((filter_duty_perm r.waiting duty).subset hx)

theorem Plant.drop_subset (r : Plant) (z : Nat) : (r.drop z).demands ⊆ r.demands := by
  intro x hx
  simp only [Plant.demands, Plant.drop, List.mem_append, List.mem_filter] at hx ⊢
  exact hx.imp (·.1) (·.1)

theorem Plant.drop_others (r : Plant) (z : Nat) : ∀ x ∈ (r.drop z).demands, x.zone ≠ z := by
  simp [Plant.demands, Plant.drop, or_imp]

theorem State.select_setup (p : Nat) : SameSetup s (s.select p) := by
  cases hr : s.plant? p with
  | none =>
    rw [State.select_none hr]
    exact .refl s
  | some r =>
    cases waiting : r.waiting with
    | nil =>
      rw [State.select_idle hr waiting]
      have stopped : SameSetup s (s.putPlant p r.stopTimers) := .putPlant hr (.of_lists rfl rfl rfl)
      exact stopped.trans (State.enterIdle_setup p)
    | cons h rest =>
      have serves : SameSetup s (s.putPlant p (r.serving h.duty)) := .putPlant hr ⟨rfl, r.serving_subset _⟩
      rw [State.select_serving hr waiting]
      split
      · exact serves.trans (State.enterRunning_setup p)
      · exact serves.trans (State.enterChangeover_setup p)

theorem State.preemptTest_setup (p : Nat) : SameSetup s (s.preemptTest p) := by
  unfold State.preemptTest
  split
  case h_1 r hr =>
    split
    · have returned : SameSetup s (s.putPlant p r.returnService) := .putPlant hr ⟨rfl, r.returnService_demands.subset⟩
      exact returned.trans (State.select_setup p)
    · exact .refl s
  case h_2 => exact .refl s

/-- Zone `z`'s demand has gone from the plant, and the rest of a withdrawal touches what is left at most. -/
theorem State.withdraw_setup_after {p : Nat} {r : Plant} (hr : s.plant? p = some r) (z : Nat) :
    SameSetup (s.putPlant p (r.drop z)) (s.withdraw p z) := by
  rw [State.withdraw, hr]
  dsimp only
  split
  · split
    · exact State.select_setup p
    · exact State.preemptTest_setup p
  · exact .refl _

theorem State.withdraw_setup (p z : Nat) : SameSetup s (s.withdraw p z) := by
  cases hr : s.plant? p with
  | none =>
    rw [State.withdraw, hr]
    exact .refl s
  | some r =>
    have dropped : SameSetup s (s.putPlant p (r.drop z)) := .putPlant hr ⟨rfl, r.drop_subset z⟩
    exact dropped.trans (State.withdraw_setup_after hr z)

end

/-! ## A command in a queue (R141) -/

/-- The command takes the place of the one for its address. -/
theorem enqueueCommand_replaces {c x : Command} {pre post : List Command} (same : x.address = c.address)
    (apart : ((pre ++ x :: post).map (·.address)).Nodup) : enqueueCommand c (pre ++ x :: post) = pre ++ c :: post := by
  have others : ∀ y, y ∈ pre ∨ y ∈ post → y.address ≠ c.address := by
    intro y hy is
    have nodup := List.nodup_middle.1 (by simpa using apart : (pre.map (·.address) ++ x.address :: post.map (·.address)).Nodup)
    refine (List.nodup_cons.1 nodup).1 ?_
    rw [same, ← is, ← List.map_append]
    exact List.mem_map_of_mem (List.mem_append.2 hy)
  have kept (q : List Command) (h : ∀ y ∈ q, y.address ≠ c.address) :
      q.map (fun y => if y.address == c.address then c else y) = q :=
    (List.map_congr_left fun y hy => if_neg (by simpa using h y hy)).trans (List.map_id _)
  rw [enqueueCommand, if_pos (by simp [same]), List.map_append, List.map_cons, kept pre fun y hy => others y (.inl hy),
    kept post fun y hy => others y (.inr hy), if_pos (by simp [same])]

/-- A command whose address has none in the queue joins its end. -/
theorem enqueueCommand_joins {c : Command} {q : List Command} (new : ∀ x ∈ q, x.address ≠ c.address) :
    enqueueCommand c q = q ++ [c] := if_neg (by simpa using new)

theorem mem_enqueueCommand_self (c : Command) (q : List Command) : c ∈ enqueueCommand c q := by
  unfold enqueueCommand
  split
  · next there =>
    obtain ⟨x, hx, same⟩ := List.any_eq_true.1 there
    exact List.mem_map.2 ⟨x, hx, if_pos same⟩
  · simp

theorem mem_enqueueCommand_of_ne {c x : Command} {q : List Command} (hx : x ∈ q) (other : x.address ≠ c.address) :
    x ∈ enqueueCommand c q := by
  unfold enqueueCommand
  split
  · exact List.mem_map.2 ⟨x, hx, if_neg (by simpa using other)⟩
  · simp [hx]

section
variable {s : State} {d : DeviceAddr} {v : Nat} {i : Issuer}

/-- A command placed on a line that takes commands stands in its queue. -/
theorem State.place_queued {l : Line} (hl : s.line? d.line = some l) (takes : l.state.takesCommands = true) :
    ∃ l', (s.place d v i).line? d.line = some l' ∧ ⟨d.address, v, i⟩ ∈ l'.queue := by
  rw [State.place_takes hl takes]
  exact ⟨_, State.line?_putLine _ hl, mem_enqueueCommand_self _ _⟩

/-- A command for another device stays in its queue. -/
theorem State.place_queue_kept {k : Nat} {l : Line} {c : Command} (hl : s.line? k = some l) (queued : c ∈ l.queue)
    (other : (⟨k, c.address⟩ : DeviceAddr) ≠ d) : ∃ l', (s.place d v i).line? k = some l' ∧ c ∈ l'.queue := by
  rcases s.place_cases d v i with ⟨x, hx, -, placed⟩ | ⟨x, -, -, failed⟩ | ⟨-, nothing⟩
  · rw [placed]
    by_cases hk : k = d.line
    · rw [← hk, hl] at hx
      cases hx
      rw [← hk]
      exact ⟨_, State.line?_putLine _ hl, mem_enqueueCommand_of_ne queued fun is => other (by rw [is, hk])⟩
    · exact ⟨l, (State.line?_putLine_ne _ _ hk).trans hl, queued⟩
  · rw [failed, State.line?_congr (State.commandFailed_lines s i d)]
    exact ⟨l, hl, queued⟩
  · rw [nothing]
    exact ⟨l, hl, queued⟩

end

/-! ## ZONE DEFINE of a defined zone (R5 to R7) -/

section
variable {s : State} {z : Nat} {r : Zone} {d : Definition}

theorem Zone.redefined_eq (r : Zone) (d : Definition) : r.redefined d = { r with
    defn := d, light := { r.light with refreshOwed := r.light.refreshOwed || decide (r.defn.dimmer ≠ d.dimmer) }
    climate := { r.climate with
      demand := if r.defn.plant = d.plant then r.climate.demand else none
      pulse := if r.defn.trim = d.trim then r.climate.pulse else none
      trimUnavailable := decide (r.defn.trim = d.trim) && r.climate.trimUnavailable
      offOwed := decide (r.defn.trim = d.trim) && r.climate.offOwed } } := by
  have dimmer : (r.defn.dimmer != d.dimmer) = decide (r.defn.dimmer ≠ d.dimmer) := by
    rw [Bool.eq_iff_iff, bne_iff_ne, decide_eq_true_iff]
  have trim : (r.defn.trim == d.trim) = decide (r.defn.trim = d.trim) := by
    rw [Bool.eq_iff_iff, beq_iff_eq, decide_eq_true_iff]
  simp only [Zone.redefined, dimmer, trim, decide_eq_true_iff]

/-- Nothing but the definition of a record changes where plant, dimmer and trim device are the same. -/
theorem Zone.redefined_same (plant : r.defn.plant = d.plant) (dimmer : r.defn.dimmer = d.dimmer) (trim : r.defn.trim = d.trim) :
    r.redefined d = { r with defn := d } := by
  simp [Zone.redefined_eq, plant, dimmer, trim]

theorem Zone.redefined_stored (r : Zone) (d : Definition) : (r.redefined d).stored ≠ r.stored ↔ r.defn ≠ d := by
  refine not_congr ⟨fun same => (congrArg StoredZone.defn same).symm, fun same => ?_⟩
  rw [Zone.stored, Zone.stored, same]
  rfl

theorem State.leavePlant_stays (h : r.defn.plant = d.plant ∨ r.climate.demand = none) : s.leavePlant z r d = s := by
  rw [State.leavePlant]
  split
  · rfl
  · next moved => rw [h.resolve_left moved]

theorem State.leavePlant_withdraws {dm : ZoneDemand} (moved : r.defn.plant ≠ d.plant) (held : r.climate.demand = some dm) :
    s.leavePlant z r d = s.withdraw dm.plant z := by rw [State.leavePlant, if_neg moved, held]

theorem State.leavePlant_setup : SameSetup s (s.leavePlant z r d) := by
  by_cases stays : r.defn.plant = d.plant ∨ r.climate.demand = none
  · rw [State.leavePlant_stays stays]
    exact .refl s
  · obtain ⟨moved, held⟩ := not_or.1 stays
    obtain ⟨dm, hdm⟩ := Option.ne_none_iff_exists'.1 held
    rw [State.leavePlant_withdraws moved hdm]
    exact State.withdraw_setup _ _

theorem State.leaveDimmer_stays (h : r.defn.dimmer = d.dimmer ∨ r.defn.dimmer = none) : s.leaveDimmer z r d = s := by
  rw [State.leaveDimmer]
  split
  · rfl
  · next moved =>
    rw [h.resolve_left moved]
    rfl

theorem State.leaveDimmer_places {a : DeviceAddr} (moved : r.defn.dimmer ≠ d.dimmer) (had : r.defn.dimmer = some a) :
    s.leaveDimmer z r d = s.place a 0 (.governor z) := by
  rw [State.leaveDimmer, if_neg moved, had]
  rfl

theorem State.leaveDimmer_setup : SameSetup s (s.leaveDimmer z r d) := by
  rw [State.leaveDimmer]
  split
  · exact .refl s
  · exact State.placeDimmer_setup z _ 0

theorem State.leaveTrim_stays (h : r.defn.trim = d.trim ∨ r.climate.pulse = none) : s.leaveTrim z r d = s := by
  rw [State.leaveTrim]
  split
  · rfl
  · next moved => rw [h.resolve_left moved]

theorem State.leaveTrim_places {x : Pulse} (moved : r.defn.trim ≠ d.trim) (pulsed : r.climate.pulse = some x) :
    s.leaveTrim z r d = s.place x.device 0 (.tracker z) := by
  rw [State.leaveTrim, if_neg moved, pulsed]
  rfl

theorem State.leaveTrim_setup : SameSetup s (s.leaveTrim z r d) := by
  rw [State.leaveTrim]
  split
  · exact .refl s
  · split
    · exact State.place_setup _ _ _
    · exact .refl s

/-- The part as the new definition has been written, and what the old devices and the old plant are then sent. -/
theorem State.defineZone_redefined (hr : s.zone? z = some r) : s.defineZone z d
    = (((s.putZone z (r.redefined d)).leavePlant z r d).leaveDimmer z r d).leaveTrim z r d := by rw [State.defineZone, hr]

theorem State.defineZone_setup (hr : s.zone? z = some r) : SameSetup (s.putZone z (r.redefined d)) (s.defineZone z d) := by
  rw [State.defineZone_redefined hr]
  exact (State.leavePlant_setup.trans State.leaveDimmer_setup).trans State.leaveTrim_setup

/-- The configuration changes exactly where the definition does. -/
theorem State.defineZone_noted (hr : s.zone? z = some r) : (s.defineZone z d).noteConfiguration s
    = { s.defineZone z d with configChanged := s.configChanged || decide (r.defn ≠ d) } := by
  have changed : (s.defineZone z d).configuration ≠ s.configuration ↔ r.defn ≠ d := by
    rw [(State.defineZone_setup hr).configuration, State.configuration_putZone_iff hr, Zone.redefined_stored]
  rw [State.noteConfiguration, decide_eq_decide.2 changed, (State.defineZone_blocks s z d).configChanged]

end

end Sys2Proof.Machine

namespace Sys2Proof.Proofs

open Sys2Proof Sys2Proof.Machine

/-- Settles O20: the definition is written, and the three commands and withdrawals that follow touch the zone and the lines at most
as `SameSetup` says. -/
theorem zoneDefineReplaces : Obligations.ZoneDefineReplaces := by
  intro s tag z f d r fits hd passes hr valid taken
  have answered := taken.zoneDefined valid fits hd passes
  rw [State.defineZone_noted hr] at answered
  have whole := State.defineZone_redefined (d := d) hr
  generalize h1 : s.putZone z (r.redefined d) = s1 at whole
  generalize h2 : s1.leavePlant z r d = s2 at whole
  generalize h3 : s2.leaveDimmer z r d = s3 at whole
  generalize h4 : s3.leaveTrim z r d = s4 at whole
  have setup2 : SameSetup s1 s2 := h2 ▸ State.leavePlant_setup
  have setup3 : SameSetup s2 s3 := h3 ▸ State.leaveDimmer_setup
  have setup4 : SameSetup s3 s4 := h4 ▸ State.leaveTrim_setup
  have takesIn {t : State} (setup : SameSetup s1 t) {k : Nat} {l : Line} (hl : s.line? k = some l) :
      ∃ q, t.line? k = some q ∧ q.state = l.state := by
    have state := setup.lineState k
    rw [← h1, State.line_putZone, hl] at state
    exact Option.map_eq_some_iff.1 state
  rw [whole] at answered
  refine ⟨_, s1, s2, s3, s4, answered, ?_, ?_, ?_, ?_, ?_, ?_, ?_, rfl, ?_, ?_⟩
  · rw [← h1, Zone.redefined_eq]
  · rintro h
    rw [← h2, State.leavePlant_stays h]
  · intro dm moved held
    have withdrawn := State.leavePlant_withdraws (s := s1) (z := z) moved held
    rw [h2] at withdrawn
    refine ⟨withdrawn, fun pl hpl x hx => ?_⟩
    cases hp : s1.plant? dm.plant with
    | none => cases (((setup2.trans setup3).trans setup4).plants dm.plant).1 hp ▸ hpl
    | some old =>
      have after : SameSetup (s1.putPlant dm.plant (old.drop z)) s4 :=
        ((withdrawn ▸ State.withdraw_setup_after hp z).trans setup3).trans setup4
      obtain ⟨pl', is, touched⟩ := (after.plants dm.plant).2 _ (State.plant?_putPlant _ hp)
      cases is.symm.trans hpl
      exact old.drop_others z x (touched.demands hx)
  · intro h
    rw [← h3, State.leaveDimmer_stays h]
  · intro a moved had
    have placed := State.leaveDimmer_places (s := s2) (z := z) moved had
    rw [h3] at placed
    refine ⟨placed, fun l l' hl takes hl' apart => ?_⟩
    obtain ⟨q, hq, state⟩ := takesIn setup2 hl
    obtain ⟨q3, hq3, queued⟩ := State.place_queued (v := 0) (i := .governor z) hq (state ▸ takes)
    rw [← placed] at hq3
    have final : ∃ q4, s4.line? a.line = some q4 ∧ (⟨a.address, 0, .governor z⟩ : Command) ∈ q4.queue := by
      by_cases stays : r.defn.trim = d.trim ∨ r.climate.pulse = none
      · rw [← h4, State.leaveTrim_stays stays]
        exact ⟨q3, hq3, queued⟩
      · obtain ⟨trimMoved, pulsed⟩ := not_or.1 stays
        obtain ⟨x, hx⟩ := Option.ne_none_iff_exists'.1 pulsed
        rw [← h4, State.leaveTrim_places trimMoved hx]
        exact State.place_queue_kept hq3 queued fun is => apart x hx is.symm
    obtain ⟨q4, hq4, there⟩ := final
    cases hq4.symm.trans hl'
    exact there
  · intro h
    rw [← h4, State.leaveTrim_stays h]
  · intro x moved pulsed
    have placed := State.leaveTrim_places (s := s3) (z := z) moved pulsed
    rw [h4] at placed
    refine ⟨placed, fun l l' hl takes hl' => ?_⟩
    obtain ⟨q, hq, state⟩ := takesIn (setup2.trans setup3) hl
    obtain ⟨q4, hq4, queued⟩ := State.place_queued (v := 0) (i := .tracker z) hq (state ▸ takes)
    rw [← placed] at hq4
    cases hq4.symm.trans hl'
    exact queued
  · have written : s1.zone? z = some (r.redefined d) := h1 ▸ State.zone?_putZone _ hr
    obtain ⟨r', is, touched⟩ := (((setup2.trans setup3).trans setup4).zones z).2 _ written
    obtain ⟨record, owed, idle⟩ := touched
    rw [Zone.redefined_eq] at record owed idle
    refine ⟨r', is, congrArg (·.defn) record, congrArg (·.isOpen) record, congrArg (·.marks) record,
      congrArg (·.account) record, congrArg (·.band) record, congrArg (·.measure) record, congrArg (·.sampleDue) record,
      congrArg (·.reviewDue) record, congrArg (·.climateDue) record, congrArg (·.light.dimmer) record, fun moved => ?_,
      fun moved => ?_, fun moved => ⟨?_, congrArg (·.climate.trimCount) record⟩⟩
    · exact (congrArg (·.climate.demand) record).trans (if_neg moved)
    · exact owed (by simp [moved])
    · exact idle (if_neg moved)
  · intro plant dimmer trim
    rw [← h4, State.leaveTrim_stays (.inl trim), ← h3, State.leaveDimmer_stays (.inl dimmer), ← h2,
      State.leavePlant_stays (.inl plant), ← h1, Zone.redefined_same plant dimmer trim]
    rfl

end Sys2Proof.Proofs
end

section
/-! PROOFS. Commands placed, and BANK DEFINE (O31, O33). -/

namespace Sys2Proof.Machine

/-! ## The device of a bank or a plant (R51, R97) -/

section
variable {s : State} {d : DeviceAddr}

theorem State.known_of {e : Device} (he : s.device? d = some e) : s.known (some d) = true := by simp [State.known, he]

theorem State.known_of_none (none : s.device? d = none) : s.known (some d) = false := by simp [State.known, none]

theorem State.ofKind_of {e : Device} (k : DeviceKind) (he : s.device? d = some e) :
    s.ofKind (some d) k = decide (e.kind = k) := by
  rw [Bool.eq_iff_iff]
  simp [State.ofKind, he]

theorem mem_bankNumbers (b : Nat) : b ∈ bankNumbers ↔ 1 ≤ b ∧ b ≤ 8 := by
  rw [bankNumbers, List.mem_range'_1]
  omega

theorem State.louvreElsewhere_iff (b : Nat) :
    s.louvreElsewhere b d = true ↔ ∃ k r, k ≠ b ∧ s.bank? k = some r ∧ r.louvre = d := by
  simp only [State.louvreElsewhere, List.any_eq_true, Bool.and_eq_true, bne_iff_ne, Option.any_eq_true, beq_iff_eq]
  constructor
  · rintro ⟨k, -, other, r, hr, names⟩
    exact ⟨k, r, other, hr, names⟩
  · rintro ⟨k, r, other, hr, names⟩
    exact ⟨k, (mem_bankNumbers k).2 (State.bank?_valid hr), other, r, hr, names⟩

theorem State.controllerElsewhere_iff (p : Nat) :
    s.controllerElsewhere p d = true ↔ ∃ k r, k ≠ p ∧ s.plant? k = some r ∧ r.controller = d := by
  simp only [State.controllerElsewhere, List.any_eq_true, Bool.and_eq_true, bne_iff_ne, Option.any_eq_true, beq_iff_eq]
  constructor
  · rintro ⟨k, -, other, r, hr, names⟩
    exact ⟨k, r, other, hr, names⟩
  · rintro ⟨k, r, other, hr, names⟩
    exact ⟨k, mem_plantNumbers hr, other, r, hr, names⟩

/-! ## BANK DEFINE (R51) -/

/-- The configuration tells a bank that is new, or names another device or another slew. -/
theorem State.configuration_putBank_iff {b : Nat} (r : Bank) (valid : 1 ≤ b ∧ b ≤ 8) :
    (s.putBank b r).configuration ≠ s.configuration
      ↔ (s.bank? b).map (fun r => (r.louvre, r.slew)) ≠ some (r.louvre, r.slew) := by
  refine not_congr ⟨fun same => ?_, fun same => ?_⟩
  · have banks := congrArg (fun c => slot? c.banks b) same
    simp only [State.configuration, slot?_tableOf, if_pos valid, State.bank?_putBank_same r valid.1 valid.2] at banks
    cases was : s.bank? b with
    | none => simp [was] at banks
    | some q => simpa [was, eq_comm] using banks
  · have banks : tableOf 8 (fun k => ((s.putBank b r).bank? k).map fun r => (⟨r.louvre, r.slew⟩ : StoredBank))
        = tableOf 8 fun k => (s.bank? k).map fun r => ⟨r.louvre, r.slew⟩ := by
      refine tableOf_congr _ _ _ fun k _ _ => ?_
      by_cases hk : k = b
      · obtain ⟨q, hq, stored⟩ := Option.map_eq_some_iff.1 same
        obtain ⟨louvre, slew⟩ := Prod.mk.inj stored
        rw [hk, State.bank?_putBank_same r valid.1 valid.2, hq, Option.map_some, Option.map_some, louvre, slew]
      · rw [State.bank?_putBank_ne s r hk]
    simp only [State.configuration, banks]
    rfl

/-- The record that BANK DEFINE writes: that of a new bank, or the old one with the device, the slew and closure 100. -/
def Bank.defined (old : Option Bank) (d : DeviceAddr) (slew now : Nat) : Bank :=
  { state := .active, louvre := d, slew, target := (old.map (·.target)).getD 0, commanded := 100
    stepDue := (old.map (·.stepDue)).getD (now + 30) }

theorem State.defineBank_eq {b : Nat} (slew : Nat) (valid : 1 ≤ b ∧ b ≤ 8) :
    s.defineBank b d slew = { s.putBank b ((Bank.defined (s.bank? b) d slew s.now).faultedIf (refusesFor s.lines d)) with
      lines := placedOn s.lines d 100 (.bank b) } := by
  have written : s.defineBank b d slew = (s.putBank b (Bank.defined (s.bank? b) d slew s.now)).placeClosure b := by
    rw [State.defineBank]
    cases s.bank? b <;> rfl
  have placed := State.placeClosure_eq
    (State.bank?_putBank_same (s := s) (Bank.defined (s.bank? b) d slew s.now) valid.1 valid.2)
  rw [State.putBank_putBank] at placed
  exact written.trans placed

theorem State.defineBank_noted {b : Nat} (slew : Nat) (valid : 1 ≤ b ∧ b ≤ 8) :
    (s.defineBank b d slew).noteConfiguration s
      = { s.putBank b ((Bank.defined (s.bank? b) d slew s.now).faultedIf (refusesFor s.lines d)) with
          lines := placedOn s.lines d 100 (.bank b)
          configChanged := s.configChanged || decide ((s.bank? b).map (fun r => (r.louvre, r.slew)) ≠ some (d, slew)) } := by
  have lines : SameSetup (s.putBank b (Bank.defined (s.bank? b) d slew s.now)) (s.defineBank b d slew) := by
    have written : s.defineBank b d slew = (s.putBank b (Bank.defined (s.bank? b) d slew s.now)).placeClosure b := by
      rw [State.defineBank]
      cases s.bank? b <;> rfl
    rw [written, State.placeClosure, State.bank?_putBank_same _ valid.1 valid.2]
    exact State.place_setup _ _ _
  have changed : (s.defineBank b d slew).configuration ≠ s.configuration
      ↔ (s.bank? b).map (fun r => (r.louvre, r.slew)) ≠ some (d, slew) := by
    rw [lines.configuration]
    exact State.configuration_putBank_iff _ valid
  rw [State.noteConfiguration, decide_eq_decide.2 changed, State.defineBank_eq slew valid]
  rfl

section
variable {b slew : Nat} (okBank : validBank b = true) (okDevice : d.inRange = true) (okSlew : inRange 1 50 slew = true)
include okBank okDevice okSlew

theorem answerBankDefine_noSuch (none : s.device? d = none) : answerBankDefine (b, d, slew) s = .refuse .noSuch := by
  simp [answerBankDefine, okBank, okDevice, okSlew, State.known_of_none none]

variable {e : Device} (he : s.device? d = some e)
include he

theorem answerBankDefine_conflict (h : e.kind ≠ .louvre ∨ ∃ k r, k ≠ b ∧ s.bank? k = some r ∧ r.louvre = d) :
    answerBankDefine (b, d, slew) s = .refuse .conflict := by
  by_cases kind : e.kind = .louvre
  · have elsewhere := (State.louvreElsewhere_iff b).2 (h.resolve_left (not_not.2 kind))
    simp [answerBankDefine, okBank, okDevice, okSlew, State.known_of he, State.ofKind_of _ he, kind, elsewhere]
  · simp [answerBankDefine, okBank, okDevice, okSlew, State.known_of he, State.ofKind_of _ he, kind]

theorem answerBankDefine_defined (kind : e.kind = .louvre) (free : ∀ k r, k ≠ b → s.bank? k = some r → r.louvre ≠ d) :
    answerBankDefine (b, d, slew) s = .reply .done [] ((s.defineBank b d slew).noteConfiguration s) := by
  have elsewhere : s.louvreElsewhere b d = false := by
    rw [Bool.eq_false_iff, Ne, State.louvreElsewhere_iff]
    rintro ⟨k, r, other, hr, names⟩
    exact free k r other hr names
  simp [answerBankDefine, okBank, okDevice, okSlew, State.known_of he, State.ofKind_of _ he, kind, elsewhere]

end

theorem answerBankDefine_range {b slew : Nat} (h : ¬ (validBank b = true ∧ inRange 1 50 slew = true ∧ d.inRange = true)) :
    answerBankDefine (b, d, slew) s = .refuse .range := by
  refine if_pos ?_
  by_cases bank : validBank b = true
  · by_cases range : inRange 1 50 slew = true
    · simp [Bool.eq_false_iff.2 fun ok => h ⟨bank, range, ok⟩]
    · simp [Bool.eq_false_iff.2 range]
  · simp [Bool.eq_false_iff.2 bank]

theorem inRange_iff (lo hi v : Nat) : inRange lo hi v = true ↔ lo ≤ v ∧ v ≤ hi := by simp [inRange]

end

end Sys2Proof.Machine

namespace Sys2Proof.Proofs

open Sys2Proof Sys2Proof.Machine

/-- Settles O33: a line that takes commands queues the command; else the failure is returned, which the issuer's own rule
describes. -/
theorem placedCommandsQueueOrFail : Obligations.PlacedCommandsQueueOrFail := by
  intro s d v i l hl
  refine ⟨fun takes => ⟨State.place_takes hl takes, fun pre x post queue same apart => ?_, fun new => enqueueCommand_joins new⟩,
    fun refuses => ?_⟩
  · rw [queue] at apart ⊢
    exact enqueueCommand_replaces same apart
  · have fails : s.place d v i = s.commandFailed i d := by
      rcases s.place_cases d v i with ⟨x, hx, takes, -⟩ | ⟨x, -, -, failed⟩ | ⟨none, -⟩
      · cases hl.symm.trans hx
        exact absurd (refuses.symm.trans takes) Bool.false_ne_true
      · exact failed
      · cases hl.symm.trans none
    obtain ⟨unnamed, named⟩ := s.commandFailed_spec i d
    rw [fails]
    refine ⟨s.commandFailed_lines i d, (State.commandFailed_setup i d).devices, unnamed, ?_, ?_, ?_, ?_⟩
    · rintro z r rfl hr names
      exact named (by simp [State.issuerNames, hr, names]) r hr
    · rintro b r rfl hr rfl
      exact named (by simp [State.issuerNames, hr]) r hr
    · rintro z r rfl hr names available
      exact ((named (by simp [State.issuerNames, hr, names]) : TrimFaults s _ z) r hr).2 available
    · rintro p r rfl hr rfl up
      have faults : PlantFaults s _ p .commandFailed := named (by simp [State.issuerNames, hr])
      obtain ⟨r', is, record, waiting, -⟩ := (faults r hr).2 up
      exact ⟨r', is, by rw [record], by rw [record], by rw [record], waiting, by rw [record], by rw [record], by rw [record],
        by rw [record], by rw [record]⟩

/-- Settles O31: the record written and the command placed are those of `State.defineBank_noted`; the checks stand in the order of
`answerBankDefine`. -/
theorem bankDefineCloses : Obligations.BankDefineCloses := by
  have small {b : Nat} (ok : validBank b = true) : b < 256 := by
    have := (validBank_iff b).1 ok
    omega
  have defaulted {slew : Option Nat} (ok : ∀ v ∈ slew, 1 ≤ v ∧ v ≤ 50) : inRange 1 50 (slew.getD 10) = true := by
    cases slew with
    | none => rfl
    | some v => exact (inRange_iff 1 50 v).2 (ok v rfl)
  refine ⟨fun s tag b d e l slew okBank okDevice okSlew he kind free hl taken => ?_,
    fun s tag b d slew hb hd hslew taken => ⟨fun outside => ?_, fun okBank okDevice okSlew => ⟨fun none => ?_, fun e he bad => ?_⟩⟩⟩
  · have fits : ∀ v ∈ slew, v < 256 := fun v hv => by
      have := okSlew v hv
      omega
    have valid := (validBank_iff b).1 okBank
    have work := answerBankDefine_defined okBank okDevice (defaulted okSlew) he kind free
    rw [State.defineBank_noted _ valid] at work
    have body := readBody_bankDefine (small okBank) (DeviceAddr.fits_of_inRange okDevice) fits
    refine ⟨_, if l.state.takesCommands then .active else .faulted,
      taken.answered rfl ((congrFun (answerTo_bankDefine tag _) s).trans ((withBody_some body).trans work)), ?_⟩
    · have record := State.bank?_putBank_same (s := s)
        ((Bank.defined (s.bank? b) d (slew.getD 10) s.now).faultedIf (refusesFor s.lines d)) valid.1 valid.2
      rw [refusesFor_eq hl] at record ⊢
      refine ⟨fun none => ?_, fun r hr => ?_, fun takes => ⟨if_pos takes, placedOn_takes _ _ hl takes⟩,
        fun refuses => ⟨if_neg (Bool.eq_false_iff.1 refuses), placedOn_refuses _ _ hl refuses⟩,
        fun k hk => State.bank?_putBank_ne s _ hk, rfl⟩
      · refine record.trans ?_
        rw [none]
        cases l.state.takesCommands <;> rfl
      · refine record.trans ?_
        rw [hr]
        cases l.state.takesCommands <;> rfl
  all_goals
    refine taken.refused rfl ?_
    rw [answerTo_bankDefine, withBody_some (readBody_bankDefine hb hd hslew)]
  · refine answerBankDefine_range ?_
    rintro ⟨okBank, okSlew, okDevice⟩
    rw [validBank_iff] at okBank
    rw [inRange_iff] at okSlew
    rw [DeviceAddr.inRange_iff] at okDevice
    rcases outside with h | h | h | h | h | h | ⟨v, hv, h⟩
    case inr.inr.inr.inr.inr.inr => rw [hv, Option.getD_some] at okSlew; omega
    all_goals omega
  · exact answerBankDefine_noSuch okBank okDevice (defaulted okSlew) none
  · exact answerBankDefine_conflict okBank okDevice (defaulted okSlew) he bad

end Sys2Proof.Proofs
end

section
/-! PROOFS. The plant's record and the part after a selection, PLANT HOLD, PLANT RELEASE and the refutation of PLANT DEFINE's statement
(O35, O36, O37). -/

namespace Sys2Proof.Machine

section
variable {s : State}

/-! ## A command of a plant (R94, R95) -/

theorem State.place_lines (d : DeviceAddr) (v : Nat) (i : Issuer) : (s.place d v i).lines = placedOn s.lines d v i := by
  rw [State.place_eq]

/-- A device whose line takes commands. -/
theorem refusesFor_takes {lines : Vector Line 2} {d : DeviceAddr} {l : Line} (hl : slot? lines d.line = some l)
    (takes : l.state.takesCommands = true) : refusesFor lines d = false := by rw [refusesFor_eq hl, takes]; rfl

theorem State.place_unrefused {d : DeviceAddr} (v : Nat) (i : Issuer) (takes : refusesFor s.lines d = false) :
    s.place d v i = { s with lines := placedOn s.lines d v i } := by
  rw [State.place_eq, takes]
  rfl

/-- The plant after a command whose issuer it is has been placed: FAULTED with its demands waiting where the line refuses it. -/
def Plant.afterCommand (r : Plant) (refused : Bool) : Plant :=
  if refused then { r.returnService.stopTimers with state := .faulted } else r

theorem State.plantFault_plants {p : Nat} {r : Plant} (hr : s.plant? p = some r) (up : r.state ≠ .faulted)
    (reason : PlantFaultReason) : (s.plantFault p reason).plants = slotSet s.plants p (some (r.afterCommand true)) := by
  rw [State.plantFault, hr]
  dsimp only
  rw [if_neg (by simpa using up), State.offer_plants, State.followAlarm_plants]
  rfl

theorem State.place_arbiter_plants {p : Nat} {r : Plant} (hr : s.plant? p = some r) (up : r.state ≠ .faulted) (v : Nat) :
    (s.place r.controller v (.arbiter p)).plants
      = slotSet s.plants p (some (r.afterCommand (refusesFor s.lines r.controller))) := by
  have same : slotSet s.plants p (some r) = s.plants := congrArg State.plants (State.putPlant_same hr)
  have named : s.issuerNames (.arbiter p) r.controller = true := by simp [State.issuerNames, hr]
  rw [State.place_eq]
  cases refusesFor s.lines r.controller with
  | false => exact same.symm
  | true =>
    show (s.commandFailed (.arbiter p) r.controller).plants = _
    rw [State.commandFailed, if_pos named]
    exact State.plantFault_plants hr up _

/-- A plant written, and then a command of its own. -/
theorem State.putPlant_place_plants {p : Nat} {y r : Plant} (hy : s.plant? p = some y) (up : r.state ≠ .faulted) (v : Nat) :
    ((s.putPlant p r).place r.controller v (.arbiter p)).plants
      = slotSet s.plants p (some (r.afterCommand (refusesFor s.lines r.controller))) := by
  rw [State.place_arbiter_plants (State.plant?_putPlant r hy) up, State.putPlant_plants, slotSet_slotSet]
  rfl

/-! ## Service begins (R75) -/

theorem State.endPulse_none {z : Nat} (none : ∀ r, s.zone? z = some r → r.climate.pulse = none) : s.endPulse z = s := by
  unfold State.endPulse
  split
  case h_1 r hr => rw [none r hr]
  case h_2 => rfl

theorem State.endPulse_notices (z : Nat) : (s.endPulse z).notices = s.notices := by
  have failed (u : State) (d : DeviceAddr) : (u.commandFailed (.tracker z) d).notices = u.notices := by
    unfold State.commandFailed State.trimFault State.modZone
    split
    · dsimp only
      split <;> rfl
    · rfl
  unfold State.endPulse
  split
  · split
    · rw [State.place_eq]
      dsimp only
      split
      · exact failed _ _
      · rfl
    · rfl
  · rfl

theorem State.serviceBegins_foldl_notices (q : List Demand) :
    (q.foldl (fun s d => s.serviceBegins d.zone) s).notices = s.notices := by
  induction q generalizing s with
  | nil => rfl
  | cons d q ih => exact ih.trans (State.endPulse_notices d.zone)

/-- Service begins changes nothing where no zone served has a pulse in flight. -/
theorem State.serviceBegins_foldl_none {q : List Demand}
    (none : ∀ d x, d ∈ q → s.zone? d.zone = some x → x.climate.pulse = none) :
    q.foldl (fun s d => s.serviceBegins d.zone) s = s := by
  induction q with
  | nil => rfl
  | cons d q ih =>
    have idle : s.serviceBegins d.zone = s := State.endPulse_none fun r hr => none d r (List.mem_cons_self ..) hr
    rw [List.foldl_cons, idle]
    exact ih fun e x he => none e x (List.mem_cons_of_mem _ he)

/-! ## A selection (R85, R86, R92) -/

/-- The plant as it enters IDLE, RUNNING or CHANGEOVER by a selection, with its duty commanded. -/
def Plant.idled (r : Plant) : Plant :=
  { r.stopTimers with state := .idle, commanded := .neutral, target := .neutral, serviceLevel := 0 }

def Plant.performing (r : Plant) (duty : Duty) (now : Nat) : Plant :=
  { r.serving duty with state := .running, commanded := duty, minRunDue := some (now + 600), minRunElapsed := false }

def Plant.changing (r : Plant) (duty : Duty) (now : Nat) : Plant :=
  { r.serving duty with state := .changeover, commanded := duty, changeDue := some (now + 120) }

/-- The part as the duty command of a plant that enters RUNNING has been sent, where one is due. -/
def State.dutySent (s : State) (p : Nat) (r : Plant) (duty : Duty) : State :=
  if r.commanded = duty then s.putPlant p (r.performing duty s.now)
  else (s.putPlant p (r.performing duty s.now)).place r.controller duty.code (.arbiter p)

/-- The duty command of a plant whose controller's line takes commands. -/
theorem State.dutySent_taken {p : Nat} {r : Plant} (accepts : refusesFor s.lines r.controller = false) (duty : Duty) :
    s.dutySent p r duty = { s.putPlant p (r.performing duty s.now) with
      lines := if r.commanded = duty then s.lines else placedOn s.lines r.controller duty.code (.arbiter p) } := by
  unfold State.dutySent
  split
  · rfl
  · exact State.place_unrefused _ _ accepts

section
variable {p : Nat} {r : Plant} (hr : s.plant? p = some r)
include hr

theorem State.select_rests (waiting : r.waiting = []) (physical : r.physical = .neutral) (commanded : r.commanded = .neutral) :
    s.select p = s.putPlant p r.idled :=
  ((State.select_spec s p r hr).1 r.idled waiting rfl).1 physical commanded

theorem State.select_sends_neutral (waiting : r.waiting = []) (h : r.physical ≠ .neutral ∨ r.commanded ≠ .neutral) :
    s.select p = (s.putPlant p r.idled).place r.controller 0 (.arbiter p) :=
  ((State.select_spec s p r hr).1 r.idled waiting rfl).2 h

section
variable {h : Demand} {rest : List Demand} (waiting : r.waiting = h :: rest)
include waiting

theorem State.select_changes (physical : r.physical ≠ h.duty) :
    s.select p = (s.putPlant p (r.changing h.duty s.now)).place r.controller h.duty.code (.arbiter p) := by
  rw [State.select_serving hr waiting, if_neg physical, State.enterChangeover, State.plant?_putPlant _ hr]
  dsimp only
  rw [State.putPlant_putPlant, State.placeDuty_put _ _ hr]
  rfl

theorem State.select_runs (physical : r.physical = h.duty) :
    s.select p = (r.serving h.duty).service.foldl (fun s d => s.serviceBegins d.zone)
      ((s.dutySent p r h.duty).offer (.plantDuty h.duty (r.serving h.duty).serviceLevel (r.serving h.duty).service.length)
        (.plant p)) := by
  obtain ⟨u, v, hu, still, sent, entered⟩ :=
    State.enterRunning_spec (s.putPlant p (r.serving h.duty)) p _ (State.plant?_putPlant (r.serving h.duty) hr)
  have written : u = s.putPlant p (r.performing h.duty s.now) := by rw [hu, State.putPlant_putPlant]; rfl
  have done : v = s.dutySent p r h.duty := by
    rw [State.dutySent, ← written]
    split
    · next same => exact still same
    · next other => exact sent other
  rw [State.select_serving hr waiting, if_pos physical, entered, State.serviceBegins_foldl_map, done]
  rfl

end

/-- The plant after a selection; `refused` says whether its controller's line refuses a command. -/
def Plant.selected (r : Plant) (now : Nat) (refused : Bool) : Plant :=
  match r.waiting with
  | [] => r.idled.afterCommand (refused && !(r.physical == .neutral && r.commanded == .neutral))
  | h :: _ =>
    if r.physical = h.duty then (r.performing h.duty now).afterCommand (refused && r.commanded != h.duty)
    else (r.changing h.duty now).afterCommand refused

theorem State.dutySent_plants (duty : Duty) : (s.dutySent p r duty).plants
    = slotSet s.plants p (some ((r.performing duty s.now).afterCommand (refusesFor s.lines r.controller && r.commanded != duty))) := by
  unfold State.dutySent
  split
  · next same =>
    rw [same, bne_self_eq_false, Bool.and_false]
    rfl
  · next other =>
    rw [bne_iff_ne.2 other, Bool.and_true]
    exact State.putPlant_place_plants (r := r.performing duty s.now) hr (by simp [Plant.performing]) _

/-- The plants after a selection. -/
theorem State.select_plants :
    (s.select p).plants = slotSet s.plants p (some (r.selected s.now (refusesFor s.lines r.controller))) := by
  cases waiting : r.waiting with
  | nil =>
    simp only [Plant.selected, waiting]
    by_cases rests : r.physical = .neutral ∧ r.commanded = .neutral
    · rw [State.select_rests hr waiting rests.1 rests.2]
      simp [rests, Plant.afterCommand]
    · rw [State.select_sends_neutral hr waiting (not_and_or.1 rests)]
      have sends : (r.physical == .neutral && r.commanded == .neutral) = false := by
        rw [Bool.eq_false_iff]
        simpa using rests
      rw [sends, Bool.not_false, Bool.and_true]
      exact State.putPlant_place_plants (r := r.idled) hr (by simp [Plant.idled]) 0
  | cons h rest =>
    simp only [Plant.selected, waiting]
    by_cases physical : r.physical = h.duty
    · rw [State.select_runs hr waiting physical, (State.serviceBegins_foldl_keeps _ _).1, State.offer_plants,
        State.dutySent_plants hr, if_pos physical]
    · rw [State.select_changes hr waiting physical, if_neg physical]
      exact State.putPlant_place_plants (r := r.changing h.duty s.now) hr (by simp [Plant.changing]) _

theorem State.select_plant? : (s.select p).plant? p = some (r.selected s.now (refusesFor s.lines r.controller)) := by
  rw [State.plant?, State.select_plants hr]
  exact State.plant?_putPlant (r.selected s.now (refusesFor s.lines r.controller)) hr

theorem State.select_plant?_ne {k : Nat} (hk : k ≠ p) : (s.select p).plant? k = s.plant? k := by
  rw [State.plant?, State.select_plants hr]
  exact State.plant?_putPlant_ne s (r.selected s.now (refusesFor s.lines r.controller)) hk

end

/-- A command leaves what the plant is and holds, but for where its demands wait. -/
theorem Plant.afterCommand_keeps (r : Plant) (refused : Bool) : (r.afterCommand refused).controller = r.controller
    ∧ (r.afterCommand refused).physical = r.physical ∧ (r.afterCommand refused).commanded = r.commanded
    ∧ (r.afterCommand refused).target = r.target ∧ (r.afterCommand refused).arrivals = r.arrivals := by
  cases refused <;> exact ⟨rfl, rfl, rfl, rfl, rfl⟩

theorem Plant.selected_keeps (r : Plant) (now : Nat) (refused : Bool) : (r.selected now refused).controller = r.controller
    ∧ (r.selected now refused).physical = r.physical ∧ (r.selected now refused).arrivals = r.arrivals := by
  unfold Plant.selected
  split
  · obtain ⟨controller, physical, -, -, arrivals⟩ := r.idled.afterCommand_keeps
      (refused && !(r.physical == .neutral && r.commanded == .neutral))
    exact ⟨controller, physical, arrivals⟩
  · next h _ _ =>
    split
    · obtain ⟨controller, physical, -, -, arrivals⟩ := (r.performing h.duty now).afterCommand_keeps (refused && r.commanded != h.duty)
      exact ⟨controller, physical, arrivals⟩
    · obtain ⟨controller, physical, -, -, arrivals⟩ := (r.changing h.duty now).afterCommand_keeps refused
      exact ⟨controller, physical, arrivals⟩

/-- On a line that takes commands the plant is IDLE, RUNNING or in CHANGEOVER. -/
theorem Plant.selected_taken (r : Plant) (now : Nat) : r.selected now false =
    r.waiting.head?.elim r.idled fun h =>
      if r.physical = h.duty then r.performing h.duty now else r.changing h.duty now := by
  unfold Plant.selected
  cases r.waiting <;> simp [Plant.afterCommand]

/-! ## PLANT HOLD (R99) -/

/-- The plant HELD at a duty. -/
def Plant.held (r : Plant) (duty : Duty) : Plant :=
  { r.returnService.stopTimers with state := .held, target := duty, commanded := duty }

theorem State.holdPlant_eq {p : Nat} {r : Plant} {l : Line} (hr : s.plant? p = some r) (duty : Duty)
    (hl : s.line? r.controller.line = some l) (takes : l.state.takesCommands = true) :
    s.holdPlant p duty = (s.putPlant p (r.held duty)).putLine r.controller.line
      { l with queue := enqueueCommand ⟨r.controller.address, duty.code, .arbiter p⟩ l.queue } := by
  rw [State.holdPlant, hr]
  dsimp only
  rw [State.placeDuty_put _ _ hr]
  exact State.place_takes (s := s.putPlant p (r.held duty)) hl takes

theorem Duty.ofCode?_none {v : Nat} (h : 4 < v) : Duty.ofCode? v = none := by
  obtain ⟨n, rfl⟩ := Nat.exists_eq_add_of_lt h
  rw [show 4 + n + 1 = n + 5 by omega]
  rfl

end

end Sys2Proof.Machine

namespace Sys2Proof.Proofs

open Sys2Proof Sys2Proof.Machine

/-- Settles O36: the plant is written HELD, and its duty command joins the queue. -/
theorem plantHoldHolds : Obligations.PlantHoldHolds := by
  refine ⟨fun s tag p duty valid taken => ?_, fun s tag p duty outside taken => ?_⟩
  · have form : be 1 p ++ be 1 duty.code = [BitVec.ofNat 8 p, BitVec.ofNat 8 duty.code] := by simp
    have small : (BitVec.ofNat 8 p).toNat = p := by
      have := (validPlant_iff p).1 valid
      rw [BitVec.toNat_ofNat]
      omega
    have code : (BitVec.ofNat 8 duty.code).toNat = duty.code := by
      rw [BitVec.toNat_ofNat]
      exact Nat.mod_eq_of_lt duty.code_lt
    have asked : answerTo ⟨tag, 0x14, be 1 p ++ be 1 duty.code⟩ s = answerPlantHold (p, duty.code) s := by
      rw [answerTo_plantHold, form, withBody_some (readBody_pair _ _), small, code]
    refine ⟨fun r l hr up hl takes => ?_, fun h => taken.refused rfl (asked.trans ?_)⟩
    · have work : answerPlantHold (p, duty.code) s = .reply .done [] (s.holdPlant p duty) := by
        simp [answerPlantHold, valid, hr, up]
      rw [State.holdPlant_eq hr duty hl takes] at work
      exact ⟨_, r.held duty, taken.answered rfl (asked.trans work), State.plant?_putPlant (r.held duty) hr, rfl,
        fun x => mem_insertDemands x _ _, fun k hk => State.plant?_putPlant_ne s (r.held duty) hk, rfl⟩
    · rcases h with unset | ⟨r, hr, down⟩
      · simp [answerPlantHold, valid, unset]
      · simp [answerPlantHold, valid, hr, down]
  · refine taken.refused rfl ?_
    rw [answerTo_plantHold, withBody_some (readBody_pair _ _), answerPlantHold]
    by_cases valid : validPlant p.toNat = true
    · have range := (validPlant_iff _).1 valid
      have none := Duty.ofCode?_none (v := duty.toNat) (by omega)
      simp [none]
    · simp [Bool.eq_false_iff.2 valid]

/-- Settles O37: a HELD plant selects, and every selection is `State.select_spec`; with the line taking commands the plant's record
is `Plant.selected_taken`, and the lines are those of the one command placed. -/
theorem plantReleaseSelects : Obligations.PlantReleaseSelects := by
  refine ⟨fun s tag p valid taken => ⟨fun unheld => taken.refused rfl ?_, fun r hr held => ?_⟩,
    fun s tag p outside taken => taken.refused rfl ?_, State.select_spec⟩
  · rw [answerTo_plantRelease, withBody_some (readBody_one p), answerPlantRelease, valid]
    cases hr : s.plant? p.toNat with
    | none => rfl
    | some r => simp [unheld r hr]
  · have work : answerTo ⟨tag, 0x15, [p]⟩ s = .reply .done [] (s.select p.toNat) := by
      rw [answerTo_plantRelease, withBody_some (readBody_one p), answerPlantRelease, valid, hr]
      simp [held]
    refine ⟨_, taken.answered rfl work, State.select_spec s _, fun l unserved hl takes => ?_⟩
    have record := State.select_plant? hr
    have accepts : refusesFor s.lines r.controller = false := refusesFor_takes hl takes
    obtain ⟨controller, physical, arrivals⟩ := r.selected_keeps s.now false
    rw [accepts] at record
    refine ⟨_, record, controller, physical, arrivals, fun k hk => State.select_plant?_ne hr hk,
      (State.select_setup _).devices, ?_, (State.select_blocks s _).clock, fun waiting => ?_, fun h rest waiting => ?_⟩
    · exact (State.select_climate 0 s _).banks
    · rw [r.selected_taken, waiting]
      refine ⟨rfl, rfl, unserved, rfl, rfl, ?_⟩
      by_cases rests : r.physical = .neutral ∧ r.commanded = .neutral
      · rw [State.select_rests hr waiting rests.1 rests.2]
        exact ⟨rfl, rfl, fun _ _ => rfl, fun sends => absurd rests (not_and_or.2 sends)⟩
      · rw [State.select_sends_neutral hr waiting (not_and_or.1 rests), State.place_unrefused _ _ (by exact accepts)]
        exact ⟨rfl, rfl, fun physical commanded => absurd ⟨physical, commanded⟩ rests, fun _ => rfl⟩
    · have picked : r.selected s.now false
          = if r.physical = h.duty then r.performing h.duty s.now else r.changing h.duty s.now := by
        rw [r.selected_taken, waiting]
        rfl
      rw [picked]
      by_cases runs : r.physical = h.duty
      · rw [if_pos runs, State.select_runs hr waiting runs]
        refine ⟨rfl, rfl, rfl, rfl, rfl, fun _ => ⟨rfl, rfl, rfl, ?_, fun quiet => ?_⟩, fun other => absurd runs other⟩
        · rw [State.serviceBegins_foldl_notices, State.offer_notices, State.dutySent_taken accepts]
          rfl
        · rw [State.dutySent_taken accepts, State.serviceBegins_foldl_none]
          · exact ⟨State.offer_zones _ _ _, State.offer_lines _ _ _⟩
          · intro d x hd hx
            exact quiet d x hd (by rwa [State.zone?, State.offer_zones] at hx)
      · rw [if_neg runs, State.select_changes hr waiting runs, State.place_unrefused _ _ (by exact accepts)]
        exact ⟨rfl, rfl, rfl, rfl, rfl, fun same => absurd same runs, fun _ => ⟨rfl, rfl, rfl, rfl, rfl, rfl, rfl⟩⟩
  · have invalid : validPlant p.toNat = false := by
      rw [Bool.eq_false_iff, Ne, validPlant_iff]
      omega
    rw [answerTo_plantRelease, withBody_some (readBody_one p), answerPlantRelease, invalid]
    rfl

/-- The part with plant 1 serving a demand for NEUTRAL, which no raise makes but the statement does not exclude. -/
def neutralServed : State := Tests.moving [⟨3, .neutral, 3, 1⟩] [] .active

/-- Refutes O35: the plant given another controller is physically in NEUTRAL, so a selection whose head asks for NEUTRAL enters
RUNNING at once, with a minimum run, where the statement says that there is none. -/
theorem not_plantDefineCreates : ¬ Obligations.PlantDefineCreates := by
  intro h
  have taken : TakenUp (.plantDefine 7 (be 1 1 ++ be 1 2 ++ be 1 31)) neutralServed := Tests.ready (by decide +kernel)
  have others : ∀ k r, k ≠ 1 → neutralServed.plant? k = some r → r.controller ≠ ⟨2, 31⟩ := fun k r hk hr =>
    absurd (Tests.forPlants (P := fun k _ => k = 1) (by decide +kernel) k r hr) hk
  obtain ⟨r, hr, moved⟩ : ∃ r, neutralServed.plant? 1 = some r ∧ r.controller ≠ ⟨2, 31⟩ := ⟨_, rfl, by decide +kernel⟩
  obtain ⟨l, hl⟩ := State.line?_some neutralServed (l := 2) (by decide) (by decide)
  have device : neutralServed.device? ⟨2, 31⟩ = some (Tests.active 2 31 .plantController) := by decide +kernel
  obtain ⟨-, -, t, r', -, ⟨f, -, after⟩, hr', -, -, -, never, -⟩ :=
    (h.1 neutralServed 7 1 ⟨2, 31⟩ _ (by decide) (by decide) device rfl others taken).2.2 r l _ hr moved hl rfl
  have ran : ((Tests.run (.plantDefine 7 (be 1 1 ++ be 1 2 ++ be 1 31)) neutralServed).plant? 1).map (·.minRunDue)
      = some (some 1600) := by decide +kernel
  have plants : (Tests.run (.plantDefine 7 (be 1 1 ++ be 1 2 ++ be 1 31)) neutralServed).plant? 1 = t.plant? 1 := by
    rw [Tests.run, after]
    exact (State.feedOutput_aside _).plant? 1
  rw [plants, hr', Option.map_some, never] at ran
  cases ran

end Sys2Proof.Proofs
end

section
/-! PROOFS. The timers of a plant, and what a raise, an update and a withdrawal do to it (O38). -/

namespace Sys2Proof.Machine

section
variable {s : State} {p : Nat}

/-! ## The preemption test (R90) -/

theorem Plant.preempted_iff (r : Plant) : r.preempted = true ↔
    r.state = .running ∧ r.minRunElapsed = true ∧ ∃ h, r.waiting.head? = some h ∧ r.serviceLevel < h.level := by
  simp [Plant.preempted, Option.any_eq_true, and_assoc]

/-- The preemption test finds nothing in a plant that is not RUNNING, in its minimum run, or without a demand above its service level. -/
theorem Plant.preempted_eq_false {r : Plant}
    (h : r.state ≠ .running ∨ r.minRunElapsed = false ∨ ∀ h, r.waiting.head? = some h → h.level ≤ r.serviceLevel) :
    r.preempted = false := by
  refine Bool.eq_false_iff.2 fun preempted => ?_
  obtain ⟨running, elapsed, first, head, above⟩ := r.preempted_iff.1 preempted
  rcases h with other | short | low
  · exact other running
  · exact nomatch short.symm.trans elapsed
  · exact absurd (low first head) (Nat.not_le.2 above)

section
variable {y r : Plant} (hy : s.plant? p = some y)
include hy

theorem State.putPlant_preemptTest :
    (s.putPlant p r).preemptTest p = if r.preempted then (s.putPlant p r.returnService).select p else s.putPlant p r := by
  rw [State.preemptTest, State.plant?_putPlant r hy]
  dsimp only
  rw [State.putPlant_putPlant]

theorem State.putPlant_preempted {h : Demand} (running : r.state = .running) (elapsed : r.minRunElapsed = true)
    (head : r.waiting.head? = some h) (above : r.serviceLevel < h.level) :
    (s.putPlant p r).preemptTest p = (s.putPlant p r.returnService).select p := by
  rw [State.putPlant_preemptTest hy, if_pos (r.preempted_iff.2 ⟨running, elapsed, h, head, above⟩)]

theorem State.putPlant_unpreempted
    (h : r.state ≠ .running ∨ r.minRunElapsed = false ∨ ∀ h, r.waiting.head? = some h → h.level ≤ r.serviceLevel) :
    (s.putPlant p r).preemptTest p = s.putPlant p r := by
  rw [State.putPlant_preemptTest hy, Plant.preempted_eq_false h]
  rfl

end

/-! ## The two timers (R91 to R93) -/

theorem State.minimumRunExpiry_due {r : Plant} {due : Nat} (hr : s.plant? p = some r) (running : r.state = .running)
    (timer : r.minRunDue = some due) (past : due ≤ s.now) :
    s.minimumRunExpiry p = (s.putPlant p { r with minRunElapsed := true, minRunDue := none }).preemptTest p := by
  simp [State.minimumRunExpiry, hr, running, timer, State.expired, State.reached, past]

theorem State.changeoverTimerExpiry_due {r : Plant} {due : Nat} (hr : s.plant? p = some r) (moving : r.state = .changeover)
    (timer : r.changeDue = some due) (past : due ≤ s.now) :
    s.changeoverTimerExpiry p = (s.putPlant p { r with changeExpired := true, changeDue := none }).completeChangeover p := by
  simp [State.changeoverTimerExpiry, hr, moving, timer, State.expired, State.reached, past]

theorem State.completeChangeover_waits {r : Plant} (hr : s.plant? p = some r) (unacked : r.changeAcked = false) :
    s.completeChangeover p = s := by
  simp [State.completeChangeover, hr, unacked]

theorem State.completeChangeover_done {r : Plant} (hr : s.plant? p = some r) (moving : r.state = .changeover)
    (expired : r.changeExpired = true) (acked : r.changeAcked = true) :
    s.completeChangeover p = if r.service.isEmpty then (s.putPlant p r.stopTimers).select p
      else (s.putPlant p r.stopTimers).enterRunning p := by
  simp [State.completeChangeover, hr, moving, expired, acked]

theorem State.changeoverTimerExpiry_done {r : Plant} {due : Nat} (hr : s.plant? p = some r) (moving : r.state = .changeover)
    (timer : r.changeDue = some due) (past : due ≤ s.now) (acked : r.changeAcked = true) :
    s.changeoverTimerExpiry p = if r.service.isEmpty then (s.putPlant p r.stopTimers).select p
      else (s.putPlant p r.stopTimers).enterRunning p := by
  have due := State.plant?_putPlant { r with changeExpired := true, changeDue := none } hr
  rw [State.changeoverTimerExpiry_due hr moving timer past, State.completeChangeover_done due moving rfl acked,
    State.putPlant_putPlant]
  rfl

/-- A selection of a plant whose head's duty differs from its target takes the demands returned back as waiting. -/
theorem Plant.selected_waits {r : Plant} {h : Demand} {x : Demand} (head : r.waiting.head? = some h) (hx : x ∈ r.waiting)
    (other : x.duty ≠ h.duty) (now : Nat) (refused : Bool) : x ∈ (r.selected now refused).waiting := by
  have kept (q : Plant) (b : Bool) (hq : x ∈ q.waiting) : x ∈ (q.afterCommand b).waiting := by
    cases b with
    | false => exact hq
    | true => exact (mem_insertDemands x _ _).2 (.inr hq)
  obtain ⟨rest, waiting⟩ := List.head?_eq_some_iff.1 head
  have served : x ∈ r.waiting.filter fun d => d.duty != h.duty := List.mem_filter.2 ⟨hx, by simpa using other⟩
  unfold Plant.selected
  rw [waiting]
  dsimp only
  split
  · exact kept _ _ served
  · exact kept _ _ served

theorem Plant.selected_none {r : Plant} (none : r.waiting = []) (now : Nat) (refused : Bool) : r.selected now refused
    = r.idled.afterCommand (refused && !(r.physical == .neutral && r.commanded == .neutral)) := by
  unfold Plant.selected
  rw [none]

theorem Plant.selected_changing {r : Plant} {h : Demand} {rest : List Demand} (waiting : r.waiting = h :: rest)
    (other : r.physical ≠ h.duty) (now : Nat) (refused : Bool) :
    r.selected now refused = (r.changing h.duty now).afterCommand refused := by
  unfold Plant.selected
  rw [waiting]
  exact if_neg other

theorem Plant.selected_head {r : Plant} {h : Demand} (head : r.waiting.head? = some h) (now : Nat) (refused : Bool) :
    (r.selected now refused).target = h.duty ∧ (r.selected now refused).minRunElapsed = false := by
  obtain ⟨rest, waiting⟩ := List.head?_eq_some_iff.1 head
  unfold Plant.selected
  rw [waiting]
  dsimp only
  split
  · cases refused && r.commanded != h.duty <;> exact ⟨rfl, rfl⟩
  · cases refused <;> exact ⟨rfl, rfl⟩

/-- The demands returned stand behind a head whose level is above theirs. -/
theorem Plant.returnService_head {r : Plant} {h : Demand} (head : r.waiting.head? = some h)
    (above : topLevel r.service < h.level) : r.returnService.waiting.head? = some h := by
  obtain ⟨rest, waiting⟩ := List.head?_eq_some_iff.1 head
  obtain ⟨q, same⟩ := insertDemands_head h rest r.service fun d hd => by
    have := level_le_topLevel d r.service hd
    rw [Demand.not_precedes_iff]
    omega
  rw [Plant.returnService, waiting, same]
  rfl

/-! ## Arrival numbers (R83) -/

theorem Demand.ranked_arrival (all : List Demand) (d : Demand) :
    (Demand.ranked all d).arrival = (all.filter fun e => e.arrival < d.arrival).length + 1 := rfl

theorem Demand.ranked_le {all : List Demand} {d : Demand} (hd : d ∈ all) : (Demand.ranked all d).arrival ≤ all.length := by
  rw [Demand.ranked_arrival]
  exact List.length_filter_lt_length_iff_exists.2 ⟨d, hd, by simp⟩

/-- Ranks stand in the order of the arrivals. -/
theorem Demand.ranked_lt {all : List Demand} {d e : Demand} (hd : d ∈ all) :
    d.arrival < e.arrival ↔ (Demand.ranked all d).arrival < (Demand.ranked all e).arrival := by
  have mono {a b : Demand} (h : a.arrival ≤ b.arrival) : (Demand.ranked all a).arrival ≤ (Demand.ranked all b).arrival := by
    refine Nat.succ_le_succ (List.monotone_filter_right all fun x hx => ?_).length_le
    simp only [decide_eq_true_eq] at hx ⊢
    omega
  refine ⟨fun earlier => ?_, fun lower => Nat.lt_of_not_le fun later => absurd (mono later) (Nat.not_le.2 lower)⟩
  refine Nat.succ_lt_succ ?_
  have nested : (all.filter fun x => decide (x.arrival < d.arrival))
      = (all.filter fun x => decide (x.arrival < e.arrival)).filter fun x => decide (x.arrival < d.arrival) := by
    rw [List.filter_filter]
    refine List.filter_congr fun x _ => ?_
    rw [← Bool.decide_and, decide_eq_decide]
    omega
  rw [nested]
  exact List.length_filter_lt_length_iff_exists.2 ⟨d, List.mem_filter.2 ⟨hd, by simpa using earlier⟩, by simp⟩

theorem Plant.numbered_spec (r : Plant) : r.Numbered r.numbered := by
  refine ⟨fun room => if_neg room, fun full => ⟨fun d => (Demand.ranked r.demands d).arrival, ?_, fun d hd => ?_, fun d e hd _ => ?_⟩⟩
  · have renumbered : r.numbered = r.renumber := if_pos full
    rw [renumbered, Plant.renumber_eq, ← List.length_append]
    rfl
  · have here : d ∈ r.demands := List.mem_append.2 hd
    rw [← List.length_append]
    exact ⟨Nat.succ_pos _, Demand.ranked_le here⟩
  · exact Demand.ranked_lt (List.mem_append.2 hd)

theorem Plant.numbered_inOrder {r : Plant} (h : inOrder r.waiting) : inOrder r.numbered.waiting := by
  unfold Plant.numbered
  split
  · exact inOrder_ranked _ h
  · exact h

theorem Plant.numbered_served (r : Plant) : r.numbered.serviceLevel = r.serviceLevel ∧ r.numbered.minRunElapsed = r.minRunElapsed := by
  unfold Plant.numbered
  split <;> exact ⟨rfl, rfl⟩

/-! ## A demand at its new level (R88) -/

theorem Plant.relevel_eq (r : Plant) (z level : Nat) : r.relevel z level = { r with
    service := (r.relevel z level).service, waiting := (r.relevel z level).waiting
    serviceLevel := topLevel (r.relevel z level).service } := by
  have served := insertDemands_perm (r.service.map fun d => if d.zone == z then { d with level } else d) []
  rw [List.append_nil] at served
  have same : topLevel (r.relevel z level).service = (r.relevel z level).serviceLevel := topLevel_perm served
  rw [same]
  rfl

theorem Plant.mem_relevel_service (r : Plant) (z level : Nat) (x : Demand) : x ∈ (r.relevel z level).service ↔
    ∃ y ∈ r.service, x = if y.zone = z then { y with level := level } else y := by
  refine (mem_insertDemands x _ []).trans ⟨fun h => ?_, fun ⟨y, hy, is⟩ => .inl (List.mem_map.2 ⟨y, hy, ?_⟩)⟩
  · obtain ⟨y, hy, rfl⟩ := List.mem_map.1 (h.resolve_right List.not_mem_nil)
    exact ⟨y, hy, by simp⟩
  · simp [is]

theorem Plant.mem_relevel_waiting (r : Plant) (z level : Nat) (x : Demand) : x ∈ (r.relevel z level).waiting ↔
    ∃ y ∈ r.waiting, x = if y.zone = z then { y with level := level } else y := by
  rw [Plant.relevel]
  dsimp only
  rw [mem_insertDemands]
  constructor
  · rintro (moved | kept)
    · obtain ⟨y, hy, rfl⟩ := List.mem_map.1 moved
      obtain ⟨here, own⟩ := List.mem_filter.1 hy
      exact ⟨y, here, (if_pos (beq_iff_eq.1 own)).symm⟩
    · obtain ⟨here, other⟩ := List.mem_filter.1 kept
      exact ⟨x, here, (if_neg (by simpa using other)).symm⟩
  · rintro ⟨y, hy, rfl⟩
    split
    · next own => exact .inl (List.mem_map.2 ⟨y, List.mem_filter.2 ⟨hy, by simpa using own⟩, rfl⟩)
    · next other => exact .inr (List.mem_filter.2 ⟨hy, by simpa using other⟩)

/-! ## Raise, update and withdraw (R87 to R89) -/

section
variable {r : Plant} (hr : s.plant? p = some r)
include hr

theorem State.raise_eq (z : Nat) (duty : Duty) (level : Nat) : s.raise p z duty level =
    if r.state = .idle then (s.putPlant p (r.accept z duty level)).select p
    else if r.state = .running then
      if duty = r.target then (s.putPlant p (r.accept z duty level)).serviceBegins z
      else (s.putPlant p (r.accept z duty level)).preemptTest p
    else s.putPlant p (r.accept z duty level) := by
  rw [State.raise, hr]
  dsimp only
  cases state : r.state <;> simp

theorem State.update_eq (z level : Nat) : s.update p z level = (s.putPlant p (r.relevel z level)).preemptTest p := by
  rw [State.update, hr]

theorem State.withdraw_unserved {z : Nat} (h : r.state ≠ .running ∨ ∀ x ∈ r.service, x.zone ≠ z) :
    s.withdraw p z = s.putPlant p (r.drop z) := by
  rw [State.withdraw, hr]
  refine if_neg ?_
  rcases h with other | unserved
  · simp [other]
  · simp [List.any_eq_true]
    exact fun _ x hx => unserved x hx

theorem State.withdraw_served {z : Nat} (running : r.state = .running) (served : ∃ x ∈ r.service, x.zone = z) :
    s.withdraw p z = if (r.drop z).service = [] then (s.putPlant p (r.drop z)).select p
      else (s.putPlant p (r.drop z)).preemptTest p := by
  obtain ⟨x, hx, own⟩ := served
  rw [State.withdraw, hr]
  refine (if_pos ?_).trans ?_
  · simp only [running, beq_self_eq_true, Bool.true_and, List.any_eq_true]
    exact ⟨x, hx, by simpa using own⟩
  · simp only [List.isEmpty_iff]

end

theorem Plant.drop_eq (r : Plant) (z : Nat) : r.drop z = { r with
    service := r.service.filter fun x => decide (x.zone ≠ z), waiting := r.waiting.filter fun x => decide (x.zone ≠ z)
    serviceLevel := topLevel (r.service.filter fun x => decide (x.zone ≠ z)) } := by
  have same : (fun d : Demand => d.zone != z) = fun x => decide (x.zone ≠ z) := by
    funext d
    simp [bne, Bool.beq_eq_decide_eq]
  rw [Plant.drop, same]

end

end Sys2Proof.Machine

namespace Sys2Proof.Proofs

open Sys2Proof Sys2Proof.Machine

/-- Settles O38: the timers by their two equations and a selection's `State.select_plant?`; a raise by the two forms of
`Plant.accept`, an update and a withdrawal by `Plant.relevel` and `Plant.drop`, each with the preemption test. -/
theorem plantTimersExpire : Obligations.PlantTimersExpire := by
  refine ⟨fun s p r due works hr past => ⟨fun running timer low => ?_, fun running timer above => ?_,
    fun running timer settled right above => ?_, fun moving timer unacked => ?_, fun v hv moving timer acked => ?_⟩,
    fun s p z r hr => ⟨⟨r.numbered, r.numbered_spec, Plant.numbered_inOrder, fun duty level d joined waits hd hj hw => ?_⟩,
      fun level => ?_, fun u hu => ?_⟩⟩
  · refine happens_event (exec_work rfl s) works ?_
    rw [State.minimumRunExpiry_due hr running timer past]
    exact State.putPlant_unpreempted hr (.inr (.inr low))
  · obtain ⟨h, head, above⟩ := above
    refine happens_event (exec_work rfl s) works ?_
    rw [State.minimumRunExpiry_due hr running timer past]
    exact State.putPlant_preempted hr running rfl head above
  · obtain ⟨h, head, above⟩ := above
    have returned : ({ r with minRunElapsed := true, minRunDue := none } : Plant).returnService.waiting.head? = some h :=
      Plant.returnService_head (r := { r with minRunElapsed := true, minRunDue := none }) head (right.2.2.2.2.1 ▸ above)
    have other : h.duty ≠ r.target := right.2.2.2.2.2 (.inr running) h (List.mem_of_mem_head? head)
    obtain ⟨target, fresh⟩ := Plant.selected_head returned s.now (refusesFor s.lines r.controller)
    refine ⟨_, _, h, happens_event (exec_work rfl s) works ?_, State.select_plant? (State.plant?_putPlant _ hr), head, target,
      fun same => other (target.symm.trans same), (Plant.selected_keeps _ _ _).2.1, fun x hx => ?_, fresh⟩
    · rw [State.minimumRunExpiry_due hr running timer past]
      exact State.putPlant_preempted hr running rfl head above
    · refine Plant.selected_waits returned ((mem_insertDemands x _ _).2 (.inl hx)) ?_ _ _
      rw [right.2.2.2.1 x hx]
      exact other.symm
  · refine happens_event (exec_work rfl s) works ?_
    rw [State.changeoverTimerExpiry_due hr moving timer past]
    exact State.completeChangeover_waits (State.plant?_putPlant _ hr) unacked
  · have done : s.changeoverTimerExpiry p = if r.service.isEmpty then v.select p else v.enterRunning p := by
      rw [State.changeoverTimerExpiry_done hr moving timer past acked, hv]
      rfl
    refine ⟨fun some => ⟨_, happens_event (exec_work rfl s) works ?_, State.enterRunning_spec v p⟩, fun unserved => ?_⟩
    · rw [done, if_neg (by simpa using some)]
    · have hx : v.plant? p = some r.stopTimers := hv ▸ State.plant?_putPlant r.stopTimers hr
      have lines : v.lines = s.lines := by rw [hv]; rfl
      have now : v.now = s.now := by rw [hv]; rfl
      refine ⟨v.select p, _, happens_event (exec_work rfl s) works ?_, State.select_spec v p, State.select_plant? hx,
        (Plant.selected_keeps _ _ _).2.1, (Plant.selected_keeps _ _ _).1, (Plant.selected_keeps _ _ _).2.2, fun k hk => ?_,
        fun waiting => ?_, fun h rest waiting => ?_⟩
      · rw [done, if_pos (by simpa using unserved)]
      · rw [State.select_plant?_ne hx hk, hv, State.plant?_putPlant_ne s _ hk]
      · have rests (b : Bool) : (r.stopTimers.idled.afterCommand b).serviceLevel = 0
            ∧ (r.stopTimers.idled.afterCommand b).changeDue = none := by cases b <;> exact ⟨rfl, rfl⟩
        rw [Plant.selected_none (r := r.stopTimers) waiting]
        refine ⟨(Plant.afterCommand_keeps _ _).2.2.2.1, (rests _).1, (rests _).2, fun physical commanded => ?_, fun sends => ?_⟩
        · rw [State.select_rests hx waiting physical commanded]
          refine ⟨?_, lines⟩
          show (r.stopTimers.idled.afterCommand (_ && !(r.physical == .neutral && r.commanded == .neutral))).state = _
          rw [physical, commanded, beq_self_eq_true, Bool.and_self, Bool.not_true, Bool.and_false]
          rfl
        · rw [State.select_sends_neutral hx waiting sends, State.place_lines, ← lines]
          exact ⟨(Plant.afterCommand_keeps _ _).2.2.1, rfl⟩
      · refine ⟨(Plant.selected_head (h := h) (by exact congrArg List.head? waiting) _ _).1, fun other => ?_⟩
        have picked : r.stopTimers.selected v.now (refusesFor v.lines r.stopTimers.controller)
            = (r.stopTimers.changing h.duty v.now).afterCommand (refusesFor v.lines r.stopTimers.controller) :=
          Plant.selected_changing waiting other _ _
        refine ⟨?_, ?_, fun l hl takes => ?_⟩
        · rw [picked]
          exact (Plant.afterCommand_keeps _ _).2.2.1
        · rw [State.select_changes hx waiting other, State.place_lines, ← lines]
          rfl
        · have accepts : refusesFor v.lines r.stopTimers.controller = false := by
            rw [lines]
            exact refusesFor_takes hl takes
          rw [picked, accepts, now]
          exact ⟨rfl, rfl, rfl, rfl, rfl⟩
  · obtain ⟨level', elapsed'⟩ := r.numbered_served
    have state' := r.numbered_state
    have waiting (h : (r.state = .changeover ∨ r.state = .running) → duty ≠ r.target) : r.accept z duty level = waits := by
      rw [Plant.accept_waits z level h, hw, hd]
      rfl
    have joining (h : r.state = .changeover ∨ r.state = .running) (same : duty = r.target) :
        r.accept z duty level = joined := by
      rw [same, Plant.accept_serves z level h, hj, hd, same]
      rfl
    have raised := State.raise_eq hr z duty level
    refine ⟨fun xs => insertDemand_inOrder d, fun xs x => mem_insertDemand x d xs, fun idle => ?_, fun moving same => ?_,
      fun running same => ?_, fun rests => ?_, fun running other => ?_⟩
    · rw [raised, if_pos idle, waiting (by simp [idle])]
    · rw [raised, if_neg (by simp [moving]), if_neg (by simp [moving]), joining (.inl moving) same]
    · rw [raised, if_neg (by simp [running]), if_pos running, if_pos same, joining (.inr running) same]
    · have still : r.state ≠ .idle ∧ r.state ≠ .running := by rcases rests with h | h | ⟨h, -⟩ <;> simp [h]
      rw [raised, if_neg still.1, if_neg still.2, waiting fun moves => ?_]
      rcases rests with h | h | ⟨-, other⟩
      · simp [h] at moves
      · simp [h] at moves
      · exact other
    · rw [raised, if_neg (by simp [running]), if_pos running, if_neg other, waiting fun _ => other]
      refine ⟨fun stays => State.putPlant_unpreempted hr (.inr ?_), fun h elapsed head above => ?_⟩
      · subst hw
        rcases stays with short | low
        · exact .inl (elapsed'.trans short)
        · exact .inr fun h head => (low h head).trans_eq level'.symm
      · refine State.putPlant_preempted hr ?_ ?_ head ?_
        · rw [hw]
          exact state'.trans running
        · rw [hw]
          exact elapsed'.trans elapsed
        · rw [hw]
          exact level'.trans_lt above
  · refine ⟨r.relevel z level, r.relevel_eq z level, r.mem_relevel_service z level, r.mem_relevel_waiting z level,
      fun order => insertDemands_inOrder _ (order.filter _), fun stays => ?_, fun h running elapsed head above => ?_⟩
    · rw [State.update_eq hr]
      exact State.putPlant_unpreempted hr stays
    · rw [State.update_eq hr]
      exact State.putPlant_preempted hr running elapsed head above
  · rw [← r.drop_eq z] at hu
    subst hu
    refine ⟨State.withdraw_unserved hr, fun running served => ?_⟩
    rw [State.withdraw_served hr running served]
    refine ⟨fun empty => if_pos empty, fun some stays => ?_, fun h some elapsed head above => ?_⟩
    · rw [if_neg some]
      exact State.putPlant_unpreempted hr (.inr stays)
    · rw [if_neg some]
      exact State.putPlant_preempted hr running elapsed head above

end Sys2Proof.Proofs
end

section
/-! PROOFS. Trim pulses and the climate review (O41, O42). -/

namespace Sys2Proof.Machine

section
variable {s : State} {z : Nat} {r : Zone}

/-! ## Trim pulses (R71 to R75) -/

/-- The zone without a pulse in flight. -/
def Zone.pulseless (r : Zone) : Zone := { r with climate := { r.climate with pulse := none } }

theorem State.endPulse_flies {x : Pulse} (hr : s.zone? z = some r) (flies : r.climate.pulse = some x) :
    s.endPulse z = (s.putZone z r.pulseless).place x.device 0 (.tracker z) := by
  rw [State.endPulse, hr]
  dsimp only
  rw [flies]
  rfl

/-- A command of a zone just written, on a line that takes commands. -/
theorem State.putZone_place_takes {d : DeviceAddr} {l : Line} (q : Zone) (v : Nat) (i : Issuer) (hl : s.line? d.line = some l)
    (takes : l.state.takesCommands = true) : (s.putZone z q).place d v i = { s with
      zones := slotSet s.zones z (some q)
      lines := slotSet s.lines d.line { l with queue := enqueueCommand ⟨d.address, v, i⟩ l.queue } } :=
  State.place_takes (s := s.putZone z q) hl takes

theorem BandState.opposes_iff (b : BandState) (dir : TrimDir) : b.opposes dir = true ↔
    dir = .humidify ∧ (b = .driftHigh ∨ b = .outHigh) ∨ dir = .dry ∧ (b = .driftLow ∨ b = .outLow) := by
  cases b <;> cases dir <;> simp [BandState.opposes, BandState.correction]

theorem State.endOpposedPulse_none (hr : s.zone? z = some r) (none : r.climate.pulse = none) : s.endOpposedPulse z = s := by
  simp [State.endOpposedPulse, hr, none]

theorem State.endOpposedPulse_flies {x : Pulse} (hr : s.zone? z = some r) (flies : r.climate.pulse = some x) :
    s.endOpposedPulse z = if r.climate.rh.opposes x.dir then s.endPulse z else s := by
  simp [State.endOpposedPulse, hr, flies]

theorem State.pulseEndExpiry_none (hr : s.zone? z = some r) (early : ∀ x, r.climate.pulse = some x → s.now < x.due) :
    s.pulseEndExpiry z = s := by
  rw [State.pulseEndExpiry, hr]
  refine if_neg ?_
  simp only [Option.any_eq_true, State.reached, decide_eq_true_eq]
  rintro ⟨x, flies, due⟩
  exact absurd (early x flies) (Nat.not_lt.2 due)

theorem State.pulseEndExpiry_due {x : Pulse} (hr : s.zone? z = some r) (flies : r.climate.pulse = some x) (due : x.due ≤ s.now) :
    s.pulseEndExpiry z = s.endPulse z := by
  simp [State.pulseEndExpiry, hr, flies, State.reached, due]

theorem State.served_iff : s.served z r = true ↔ ∃ dm pl x, r.climate.demand = some dm ∧ s.plant? dm.plant = some pl
    ∧ pl.state = .running ∧ x ∈ pl.service ∧ x.zone = z := by
  simp only [State.served, Option.any_eq_true, Bool.and_eq_true, beq_iff_eq, List.any_eq_true]
  constructor
  · rintro ⟨dm, hdm, pl, hpl, running, x, hx, own⟩
    exact ⟨dm, pl, x, hdm, hpl, running, hx, own⟩
  · rintro ⟨dm, pl, x, hdm, hpl, running, hx, own⟩
    exact ⟨dm, hdm, pl, hpl, running, x, hx, own⟩

/-- The conditions of R71 on a zone whose RH has a correction and that has a trim device. -/
def State.mayPulse (s : State) (z : Nat) (r : Zone) : Prop :=
  r.climate.pulse = none ∧ r.climate.trimUnavailable = false ∧ 0 < r.climate.trimCount ∧ s.served z r = false

/-- The zone as a pulse toward `dir` is issued. -/
def Zone.pulsed (r : Zone) (dir : TrimDir) (d : DeviceAddr) (now : Nat) : Zone :=
  { r with climate := { r.climate with trimCount := r.climate.trimCount - 1, pulse := some ⟨dir, d, now + 300⟩ } }

theorem State.issuePulse_issues {dir : TrimDir} {d : DeviceAddr} (hr : s.zone? z = some r)
    (corrects : r.climate.rh.correction = some dir) (trim : r.defn.trim = some d) (may : s.mayPulse z r) :
    s.issuePulse z = (s.putZone z (r.pulsed dir d s.now)).place d dir.code (.tracker z) := by
  obtain ⟨none, available, left, unserved⟩ := may
  rw [State.issuePulse, hr]
  dsimp only
  rw [corrects, trim]
  exact if_pos (by simp [none, available, left, unserved])

theorem State.issuePulse_still (hr : s.zone? z = some r)
    (h : r.climate.rh.correction = none ∨ r.defn.trim = none ∨ ¬ s.mayPulse z r) : s.issuePulse z = s := by
  rw [State.issuePulse, hr]
  dsimp only
  split
  · next dir d corrects trim =>
    refine if_neg fun issues => ?_
    simp only [Bool.and_eq_true, Option.isNone_iff_eq_none, Bool.not_eq_true', decide_eq_true_eq] at issues
    obtain ⟨⟨⟨none, available⟩, left⟩, unserved⟩ := issues
    rcases h with h | h | h
    · exact nomatch h.symm.trans corrects
    · exact nomatch h.symm.trans trim
    · exact h ⟨none, available, left, unserved⟩
  · rfl

/-- A command of a zone just written, on a line that takes none: the trim fails. -/
theorem State.putZone_place_fails {d : DeviceAddr} {l : Line} {q : Zone} (hr : s.zone? z = some r) (v : Nat)
    (trim : q.defn.trim = some d) (available : q.climate.trimUnavailable = false) (hl : s.line? d.line = some l)
    (refuses : l.state.takesCommands = false) : (s.putZone z q).place d v (.tracker z) = s.putZone z { q with
      climate := { q.climate with trimUnavailable := true, offOwed := true, pulse := none } } := by
  have hq := State.zone?_putZone q hr
  have named : (s.putZone z q).issuerNames (.tracker z) d = true := by simp [State.issuerNames, hq, trim]
  have failed := ((State.trimFault_spec (s.putZone z q) z) q hq).2 available
  have line : (s.putZone z q).line? d.line = some l := hl
  rw [State.place, line]
  dsimp only
  rw [refuses, State.commandFailed, if_pos named]
  exact failed.trans (State.putZone_putZone _ _ _ _)

end

end Sys2Proof.Machine

namespace Sys2Proof.Proofs

open Sys2Proof Sys2Proof.Machine

/-- Settles O42: every end of a pulse is `State.endPulse_flies`, and a review issues one by `State.issuePulse_issues`. -/
theorem pulseEndPlacesOff : Obligations.PulseEndPlacesOff := by
  refine ⟨fun s z r works hr => ⟨fun x l flies due hl takes => ?_, fun x flies due => ?_, fun early => ?_⟩, fun s z r hr =>
    ⟨fun x flies => State.endPulse_flies hr flies, fun x l flies hl takes => ?_, fun none => ?_,
      fun x flies => ⟨fun opposed l hl takes => ?_, fun along => ?_⟩, State.endOpposedPulse_none hr,
      fun d l low trim none available left unserved needs hl => ?_, fun h => ?_⟩⟩
  · refine happens_event (exec_work rfl s) works ?_
    rw [State.pulseEndExpiry_due hr flies due, State.endPulse_flies hr flies]
    exact State.putZone_place_takes _ _ _ hl takes
  · refine happens_event (exec_work rfl s) works ?_
    rw [State.pulseEndExpiry_due hr flies due]
    exact State.endPulse_flies hr flies
  · exact happens_event (exec_work rfl s) works (State.pulseEndExpiry_none hr early)
  · rw [State.serviceBegins, State.endPulse_flies hr flies]
    exact State.putZone_place_takes _ _ _ hl takes
  · refine State.endPulse_none fun y hy => ?_
    rw [hr] at hy
    cases hy
    exact none
  · rw [State.endOpposedPulse_flies hr flies, if_pos ((BandState.opposes_iff _ _).2 opposed), State.endPulse_flies hr flies]
    exact State.putZone_place_takes _ _ _ hl takes
  · rw [State.endOpposedPulse_flies hr flies, if_neg (mt (BandState.opposes_iff _ _).1 along)]
  · have may : s.mayPulse z r := by
      refine ⟨none, available, left, Bool.eq_false_iff.2 fun served => ?_⟩
      obtain ⟨dm, pl, x, hdm, hpl, running, hx, own⟩ := State.served_iff.1 served
      exact unserved dm pl x hdm hpl running hx own
    have corrects : r.climate.rh.correction = some (if low then .humidify else .dry) := by
      rcases needs with ⟨rfl, h | h⟩ | ⟨rfl, h | h⟩ <;> rw [h] <;> rfl
    have code : (if low then TrimDir.humidify else .dry).code = if low then 1 else 2 := by cases low <;> rfl
    rw [State.issuePulse_issues hr corrects trim may, code]
    refine ⟨fun takes => State.putZone_place_takes _ _ _ hl takes, fun refuses => ?_⟩
    exact State.putZone_place_fails (q := r.pulsed _ d s.now) hr _ trim available hl refuses
  · refine State.issuePulse_still hr ?_
    rcases h with trim | flies | unavailable | spent | unclassified | inBand | served
    · exact .inr (.inl trim)
    · exact .inr (.inr fun may => flies may.1)
    · exact .inr (.inr fun may => nomatch unavailable.symm.trans may.2.1)
    · exact .inr (.inr fun may => absurd may.2.2.1 (by omega))
    · exact .inl (by rw [unclassified]; rfl)
    · exact .inl (by rw [inBand]; rfl)
    · exact .inr (.inr fun may => nomatch (State.served_iff.2 served).symm.trans may.2.2.2)

end Sys2Proof.Proofs
end

section
/-! PROOFS. The climate review (O41): what the steps find, the demand decision, and the marks. -/

namespace Sys2Proof.Machine

/-! ## Classification and swing (R64 to R66) -/

theorem classify_classified (v : Int) (t h g : Nat) : Classified v t h g (classify v t h g) := by
  refine ⟨fun inside => ?_, fun beyond within => ?_, fun outside => ?_⟩
  · exact if_pos inside
  · exact (if_neg (Nat.not_le.2 beyond)).trans (if_pos within)
  · exact (if_neg (by omega)).trans (if_neg (Nat.not_le.2 outside))

theorem BandState.isOut_eq (b : BandState) : b.isOut = decide (b = .outLow ∨ b = .outHigh) := by
  cases b <;> rfl

theorem foldl_max_spec (ps : List (Nat × Nat)) (p : Nat × Nat) :
    ∃ q ∈ p :: ps, ps.foldl (fun m q => max m q.2) p.2 = q.2 ∧ ∀ x ∈ p :: ps, x.2 ≤ q.2 := by
  induction ps generalizing p with
  | nil => exact ⟨p, List.mem_cons_self .., rfl, by simp⟩
  | cons a ps ih =>
    obtain ⟨q, hq, value, bound⟩ := ih (p.1, max p.2 a.2)
    have joined := bound (p.1, max p.2 a.2) (List.mem_cons_self ..)
    have above : ∀ x ∈ p :: a :: ps, x.2 ≤ q.2 := by
      intro x hx
      rcases List.mem_cons.1 hx with rfl | hx
      · exact (Nat.le_max_left _ _).trans joined
      · rcases List.mem_cons.1 hx with rfl | hx
        · exact (Nat.le_max_right _ _).trans joined
        · exact bound x (List.mem_cons_of_mem _ hx)
    rcases List.mem_cons.1 hq with rfl | hq
    · rcases Nat.le_total p.2 a.2 with le | le
      · exact ⟨a, by simp, value.trans (Nat.max_eq_right le), fun x hx => (above x hx).trans_eq (Nat.max_eq_right le)⟩
      · exact ⟨p, by simp, value.trans (Nat.max_eq_left le), fun x hx => (above x hx).trans_eq (Nat.max_eq_left le)⟩
    · exact ⟨q, by simp [hq], value, above⟩

theorem foldl_min_spec (ps : List (Nat × Nat)) (p : Nat × Nat) :
    ∃ q ∈ p :: ps, ps.foldl (fun m q => min m q.1) p.1 = q.1 ∧ ∀ x ∈ p :: ps, q.1 ≤ x.1 := by
  induction ps generalizing p with
  | nil => exact ⟨p, List.mem_cons_self .., rfl, by simp⟩
  | cons a ps ih =>
    obtain ⟨q, hq, value, bound⟩ := ih (min p.1 a.1, p.2)
    have joined := bound (min p.1 a.1, p.2) (List.mem_cons_self ..)
    have below : ∀ x ∈ p :: a :: ps, q.1 ≤ x.1 := by
      intro x hx
      rcases List.mem_cons.1 hx with rfl | hx
      · exact joined.trans (Nat.min_le_left _ _)
      · rcases List.mem_cons.1 hx with rfl | hx
        · exact joined.trans (Nat.min_le_right _ _)
        · exact bound x (List.mem_cons_of_mem _ hx)
    rcases List.mem_cons.1 hq with rfl | hq
    · rcases Nat.le_total p.1 a.1 with le | le
      · exact ⟨p, by simp, value.trans (Nat.min_eq_left le), fun x hx => (Nat.min_eq_left le).symm.trans_le (below x hx)⟩
      · exact ⟨a, by simp, value.trans (Nat.min_eq_right le), fun x hx => (Nat.min_eq_right le).symm.trans_le (below x hx)⟩
    · exact ⟨q, by simp [hq], value, below⟩

/-- The spread of some buckets of which one has extremes (R66). -/
theorem spread_spec {bs : List Bucket} (some : bs.filterMap (·.rh) ≠ []) : SpreadOf (bs.filterMap (·.rh)) (spread bs) := by
  unfold spread
  cases extremes : bs.filterMap (·.rh) with
  | nil => exact absurd extremes some
  | cons p ps =>
    obtain ⟨hi, hhi, top, above⟩ := foldl_max_spec ps p
    obtain ⟨lo, hlo, bottom, below⟩ := foldl_min_spec ps p
    exact ⟨lo, hi, hlo, hhi, fun x hx => ⟨below x hx, above x hx⟩, by rw [← top, ← bottom]⟩

theorem SpreadOf.unique {w : List (Nat × Nat)} {x y : Nat} (hx : SpreadOf w x) (hy : SpreadOf w y) : x = y := by
  obtain ⟨lo, hi, hlo, hhi, bounds, rfl⟩ := hx
  obtain ⟨lo', hi', hlo', hhi', bounds', rfl⟩ := hy
  have low := Nat.le_antisymm (bounds lo' hlo').1 (bounds' lo hlo).1
  have high := Nat.le_antisymm (bounds' hi hhi).2 (bounds hi' hhi').2
  rw [low, high]

theorem Climate.window_rh (c : Climate) : c.window.filterMap (·.rh) = swingBuckets c.current c.history := by
  unfold Climate.window swingBuckets
  congr 2
  refine List.filter_congr fun b _ => ?_
  rw [decide_eq_decide, show Config.windowHours = 23 from rfl]
  omega

theorem SpreadOf.not_empty {w : List (Nat × Nat)} {x : Nat} (h : SpreadOf w x) : w ≠ [] := by
  obtain ⟨lo, -, hlo, -⟩ := h
  exact List.ne_nil_of_mem hlo

/-- The spread of a climate's window is the one of R66. -/
theorem Climate.spread_window {c : Climate} {x : Nat} (h : SpreadOf (swingBuckets c.current c.history) x) :
    spread c.window = x := by
  rw [← c.window_rh] at h
  exact (spread_spec h.not_empty).unique h

/-- A window whose current bucket has extremes has a spread. -/
theorem spread_of_current {current : Bucket} (history : List Bucket) (p : Nat × Nat) (rh : current.rh = some p) :
    SpreadOf (swingBuckets current history) (spread (current :: history.filter fun b => decide ((current.hour : Int) - 23 ≤ b.hour))) := by
  refine spread_spec ?_
  rw [List.filterMap_cons_some rh]
  exact List.cons_ne_nil _ _

/-! ## The steps of a review (R63 to R66) -/

theorem Climate.bucketed_unresolved {c : Climate} {m : Measurement} (none : m.rh = none) : c.bucketed m = c := by
  unfold Climate.bucketed
  rw [none]

theorem Climate.bucketed_resolved {c : Climate} {m : Measurement} {v : Nat} (rh : m.rh = some v) :
    c.bucketed m = { c with current := c.current.sample v m.temperature } := by
  unfold Climate.bucketed
  rw [rh]

section
variable (r : Zone)

/-- The record after steps 2 and 3: the bucket and the classifications. -/
theorem Zone.track_frame : r.track = { r with climate := { r.climate with
    current := r.track.climate.current, rh := r.track.climate.rh, temp := r.track.climate.temp
    lastSwing := r.track.climate.lastSwing, swing := r.track.climate.swing } } := by
  unfold Zone.track Climate.swung Climate.bucketed
  dsimp only
  cases r.measure.rh <;> (dsimp only; split <;> rfl)

theorem Zone.track_current : r.track.climate.current = (r.climate.bucketed r.measure).current := by
  unfold Zone.track Climate.swung
  dsimp only
  split <;> rfl

theorem Zone.track_rh : r.track.climate.rh = classifyRh r.band r.measure.rh := by
  unfold Zone.track Climate.swung
  dsimp only
  split <;> rfl

theorem Zone.track_temp : r.track.climate.temp = classifyTemp r.band r.measure.temperature := by
  unfold Zone.track Climate.swung
  dsimp only
  split <;> rfl

theorem Climate.bucketed_keeps (c : Climate) (m : Measurement) : (c.bucketed m).history = c.history
    ∧ (c.bucketed m).lastSwing = c.lastSwing ∧ (c.bucketed m).swing = c.swing := by
  unfold Climate.bucketed
  split <;> exact ⟨rfl, rfl, rfl⟩

theorem Zone.track_unsampled (none : r.track.climate.current.samples = 0) :
    r.track.climate.lastSwing = r.climate.lastSwing ∧ r.track.climate.swing = r.climate.swing := by
  rw [Zone.track_current] at none
  unfold Zone.track Climate.swung
  dsimp only
  rw [if_pos none]
  exact (r.climate.bucketed_keeps r.measure).2

theorem Zone.track_swing (sampled : r.track.climate.current.samples ≠ 0) {x : Nat}
    (h : SpreadOf (swingBuckets r.track.climate.current r.climate.history) x) :
    r.track.climate.lastSwing = some x ∧ r.track.climate.swing = r.band.any fun b => decide (b.swingLimit < x) := by
  rw [Zone.track_current] at sampled h
  rw [← (r.climate.bucketed_keeps r.measure).1] at h
  have width := Climate.spread_window h
  unfold Zone.track Climate.swung
  dsimp only
  rw [if_neg sampled]
  exact ⟨congrArg some width, by rw [← width]; rfl⟩

end

/-! ## The demand decision (R76 to R79) -/

section
variable (r : Zone)

theorem Zone.trimSpent_iff : (r.effectiveTrim = 0 && r.climate.pulse.isNone) = true ↔ r.trimSpent := by
  unfold Zone.effectiveTrim Zone.trimSpent
  simp only [Bool.and_eq_true, decide_eq_true_eq, Option.isNone_iff_eq_none, Bool.or_eq_true]
  refine and_congr_left' ?_
  split
  · next h => exact iff_of_true rfl (h.elim .inl fun h => .inr (.inl h))
  · next h =>
    rw [not_or] at h
    exact ⟨fun none => .inr (.inr none), fun any => (any.resolve_left h.1).resolve_left h.2⟩

/-- The four rows of R76 for a DRIFT. -/
theorem Zone.drift_spec (duty : Duty) : Zone.RhCandidateIs.drift r
    (if r.climate.demand.any (fun d => d.duty == duty) then (some (2, duty), false)
      else if r.effectiveTrim = 0 && r.climate.pulse.isNone then
        if r.defn.escalate then (some (2, duty), false) else (none, true)
      else (none, false) : Option (Nat × Duty) × Bool).1
    (if r.climate.demand.any (fun d => d.duty == duty) then (some (2, duty), false)
      else if r.effectiveTrim = 0 && r.climate.pulse.isNone then
        if r.defn.escalate then (some (2, duty), false) else (none, true)
      else (none, false) : Option (Nat × Duty) × Bool).2 duty := by
  refine ⟨fun held => ?_, fun other => ⟨fun spent escalates => ?_, fun spent stays => ?_, fun left => ?_⟩⟩
  · obtain ⟨d, hd, same⟩ := held
    simp [hd, same]
  all_goals
    have unheld : ¬ (r.climate.demand.any fun d => d.duty == duty) = true := by
      simpa [Option.any_eq_true] using other
    rw [if_neg unheld]
  · rw [if_pos (r.trimSpent_iff.2 spent), if_pos escalates]
    exact ⟨rfl, rfl⟩
  · rw [if_pos (r.trimSpent_iff.2 spent), if_neg (by simp [stays])]
    exact ⟨rfl, rfl⟩
  · rw [if_neg (mt r.trimSpent_iff.1 left)]
    exact ⟨rfl, rfl⟩

theorem Zone.rhCandidate_spec : r.RhCandidateIs r.rhCandidate.1 r.rhCandidate.2 := by
  unfold Zone.RhCandidateIs Zone.rhCandidate
  cases r.climate.rh with
  | unclassified => exact ⟨rfl, rfl⟩
  | inBand => exact ⟨rfl, rfl⟩
  | outLow => exact ⟨rfl, rfl⟩
  | outHigh => exact ⟨rfl, rfl⟩
  | driftLow => exact r.drift_spec .humidify
  | driftHigh => exact r.drift_spec .dry

theorem Zone.levelOf_eq (base : Nat) (isRh : Bool) : r.levelOf base isRh
    = min 7 (base + (if isRh && r.climate.swing then 1 else 0) + r.urgency) := by
  unfold Zone.levelOf Zone.surge Zone.urgency
  cases r.defn.surgeThreshold with
  | none => simp
  | some th => simp [Nat.add_assoc]

theorem Zone.chosenNeed_spec : r.NeedIs r.rhCandidate.1 r.climate.temp.tempNeed r.chosenNeed := by
  have candidate : r.tempCandidate = r.climate.temp.tempNeed := rfl
  have rh (base : Nat) : r.levelOf base true = Zone.NeedIs.rhLevel r base := by
    rw [Zone.levelOf_eq, Bool.true_and]
    rfl
  have temp (base : Nat) : r.levelOf base false = Zone.NeedIs.tempLevel r base := r.levelOf_eq base false
  unfold Zone.NeedIs Zone.chosenNeed
  rw [candidate]
  cases r.rhCandidate.1 with
  | none =>
    cases r.climate.temp.tempNeed with
    | none => rfl
    | some b => exact congrArg (fun l => some (Need.mk b.2 l)) (temp b.1)
  | some a =>
    cases r.climate.temp.tempNeed with
    | none => exact congrArg (fun l => some (Need.mk a.2 l)) (rh a.1)
    | some b =>
      simp only [Option.map_some, rh, temp]

end

section
variable {s : State} {z : Nat} {r : Zone}

theorem State.plantFor_eq (s : State) (r : Zone) : s.plantFor r = r.defn.plant.filter fun p => (s.plant? p).isSome := by
  unfold State.plantFor
  cases r.defn.plant with
  | none => rfl
  | some p => simp [Option.filter]

/-- The zone with what the decision has found. -/
def Zone.decided (r : Zone) (plantless : Bool) : Zone :=
  { r with climate := { r.climate with
    need := r.chosenNeed, unresolved := r.rhCandidate.2 || (r.chosenNeed.isSome && plantless) } }

theorem State.decideDemand_eq (hr : s.zone? z = some r) : s.decideDemand z =
    (s.putZone z (r.decided (s.plantFor r).isNone)).settleDemand z r.climate.demand
      ((s.plantFor r).bind fun p => r.chosenNeed.map fun n => (p, n)) := by
  rw [State.decideDemand, hr]
  dsimp only
  congr 1
  cases s.plantFor r with
  | none => rfl
  | some p => cases r.chosenNeed <;> rfl

end

/-! ## The marks stand until step 7 -/

/-- The zones have the marks they had. -/
def SameMarks (s t : State) : Prop := ∀ k, (t.zone? k).map (·.marks) = (s.zone? k).map (·.marks)

section
variable {s : State} {z : Nat}

theorem SameMarks.refl (s : State) : SameMarks s s := fun _ => rfl

theorem SameMarks.trans {s t u : State} (h : SameMarks s t) (k : SameMarks t u) : SameMarks s u :=
  fun n => (k n).trans (h n)

theorem SameMarks.putZone {k : Nat} {r r' : Zone} (hr : s.zone? k = some r) (same : r'.marks = r.marks) :
    SameMarks s (s.putZone k r') := by
  intro n
  by_cases hn : n = k
  · rw [hn, State.zone?_putZone r' hr, hr]
    exact congrArg some same
  · rw [State.zone?_putZone_ne s r' hn]

theorem SameSetup.sameMarks {t : State} (h : SameSetup s t) : SameMarks s t := by
  intro n
  cases hr : s.zone? n with
  | none => rw [(h.zones n).1 hr]
  | some r =>
    obtain ⟨r', hr', touched⟩ := (h.zones n).2 r hr
    rw [hr', touched.record]
    rfl

theorem State.putPlant_sameMarks (p : Nat) (r : Plant) : SameMarks s (s.putPlant p r) := fun _ => rfl

theorem State.raise_sameMarks (p k : Nat) (duty : Duty) (level : Nat) : SameMarks s (s.raise p k duty level) := by
  cases hr : s.plant? p with
  | none =>
    rw [State.raise, hr]
    exact .refl s
  | some r =>
    rw [State.raise_eq hr]
    have accepted : SameMarks s (s.putPlant p (r.accept k duty level)) := State.putPlant_sameMarks p _
    split
    · exact accepted.trans (State.select_setup p).sameMarks
    · split
      · split
        · exact accepted.trans (State.endPulse_setup k).sameMarks
        · exact accepted.trans (State.preemptTest_setup p).sameMarks
      · exact accepted

theorem State.update_sameMarks (p k level : Nat) : SameMarks s (s.update p k level) := by
  cases hr : s.plant? p with
  | none =>
    rw [State.update, hr]
    exact .refl s
  | some r =>
    rw [State.update_eq hr]
    exact (State.putPlant_sameMarks p _).trans (State.preemptTest_setup p).sameMarks

theorem State.setDemand_sameMarks (d : Option ZoneDemand) : SameMarks s (s.setDemand z d) := by
  unfold State.setDemand State.modZone
  split
  · next r hr => exact .putZone hr rfl
  · exact .refl s

theorem State.raiseDemand_sameMarks (p : Nat) (n : Need) : SameMarks s (s.raiseDemand z p n) :=
  (State.setDemand_sameMarks _).trans (State.raise_sameMarks _ _ _ _)

theorem State.withdrawDemand_sameMarks (d : ZoneDemand) : SameMarks s (s.withdrawDemand z d) :=
  (State.setDemand_sameMarks _).trans (State.withdraw_setup _ _).sameMarks

theorem State.settleDemand_sameMarks (held : Option ZoneDemand) (wanted : Option (Nat × Need)) :
    SameMarks s (s.settleDemand z held wanted) := by
  unfold State.settleDemand
  split
  · exact .refl s
  · exact State.raiseDemand_sameMarks _ _
  · exact State.withdrawDemand_sameMarks _
  · split
    · split
      · exact .refl s
      · exact (State.setDemand_sameMarks _).trans (State.update_sameMarks _ _ _)
    · exact (State.withdrawDemand_sameMarks _).trans (State.raiseDemand_sameMarks _ _)

theorem State.decideDemand_sameMarks : SameMarks s (s.decideDemand z) := by
  unfold State.decideDemand
  split
  · next r hr => exact SameMarks.trans (.putZone hr (by exact rfl)) (State.settleDemand_sameMarks _ _)
  · exact .refl s

theorem State.endOpposedPulse_sameMarks : SameMarks s (s.endOpposedPulse z) := by
  unfold State.endOpposedPulse
  split
  · split
    · exact (State.endPulse_setup z).sameMarks
    · exact .refl s
  · exact .refl s

theorem State.issuePulse_sameMarks : SameMarks s (s.issuePulse z) := by
  unfold State.issuePulse
  split
  · next r hr =>
    split
    · split
      · exact SameMarks.trans (.putZone hr (by exact rfl)) (State.place_setup _ _ _).sameMarks
      · exact .refl s
    · exact .refl s
  · exact .refl s

/-! ## The whole review (R62, R63) -/

/-- What resolution makes of the measurement of a zone. -/
def State.climateOf (s : State) (r : Zone) : Measurement :=
  r.measure.resolveClimate s.now (freshMean (s.boundTo r.measure.bindings .climate) s.now (·.rh))
    (freshMean (s.boundTo r.measure.bindings .climate) s.now (·.temperature))

/-- The zone as its review has resolved the channel. -/
def Zone.resolvedTo (r : Zone) (m : Measurement) : Zone := { r with climateDue := r.climateDue + 60, measure := m }

theorem State.evalMark_unheld (m : Mark) : s.evalMark z m false = s := by
  rcases State.evalMark_cases s z m false with ⟨same, -⟩ | ⟨-, -, held, -, -⟩
  · exact same
  · cases held

section
variable {r : Zone} (hr : s.zone? z = some r) (due : r.climateDue ≤ s.now)
include hr

theorem State.reviewing_resolveClimate : (s.putZone z { r with climateDue := r.climateDue + 60 }).resolveClimate z
    = (s.putZone z (r.resolvedTo (s.climateOf r))).evalMark z .blindClimate (s.climateOf r).climate.blind := by
  rw [State.resolveClimate, State.zone?_putZone _ hr]
  dsimp only
  rw [State.putZone_putZone]
  rfl

include due

theorem State.climateReview_due :
    s.climateReview z = (s.putZone z { r with climateDue := r.climateDue + 60 }).reviewClimate z := by
  rw [State.climateReview, hr]
  exact if_pos (by simpa [State.reached] using due)

theorem State.climateReview_blind (blind : (s.climateOf r).climate.blind = true) :
    s.climateReview z = (s.putZone z (r.resolvedTo (s.climateOf r))).evalMark z .blindClimate true := by
  have seen := State.zone?_putZone (r.resolvedTo (s.climateOf r)) hr
  rw [State.climateReview_due hr due, State.reviewClimate, State.reviewing_resolveClimate hr, blind,
    State.evalMark_zone? .blindClimate true seen]
  exact if_pos blind

theorem State.climateReview_sees (sees : (s.climateOf r).climate.blind = false) : s.climateReview z =
    ((((s.putZone z (r.resolvedTo (s.climateOf r)).track).endOpposedPulse z).issuePulse z).decideDemand z).climateMarks z := by
  have seen := State.zone?_putZone (r.resolvedTo (s.climateOf r)) hr
  rw [State.climateReview_due hr due, State.reviewClimate, State.reviewing_resolveClimate hr, sees, State.evalMark_unheld, seen]
  refine (if_neg (Bool.eq_false_iff.1 sees)).trans ?_
  rw [State.putZone_putZone]

end

/-- Steps 5 and 6 of a review. -/
def State.steered (s : State) (z : Nat) : State := ((s.endOpposedPulse z).issuePulse z).decideDemand z

theorem State.steered_climate : ClimateOnly z s (s.steered z) :=
  ((State.endOpposedPulse_climate z s).trans (State.issuePulse_climate z _)).trans (State.decideDemand_climate z _)

theorem State.steered_sameMarks : SameMarks s (s.steered z) :=
  (State.endOpposedPulse_sameMarks.trans State.issuePulse_sameMarks).trans State.decideDemand_sameMarks

/-- The marks that step 7 newly sets. -/
def Zone.climateNew (r : Zone) : List Mark := newMarks r.marks
  [(.rhOut, decide (r.climate.rh = .outLow ∨ r.climate.rh = .outHigh)), (.rhSwing, r.climate.swing),
   (.tempOut, decide (r.climate.temp = .outLow ∨ r.climate.temp = .outHigh)), (.unresolved, r.climate.unresolved)]

theorem State.climateMarks_spec {r : Zone} (hr : s.zone? z = some r) :
    (s.climateMarks z).zone? z = some { r with marks := r.marks ++ r.climateNew }
    ∧ MarkSetsOffered s (s.climateMarks z) z r.climateNew ∧ (∀ k, k ≠ z → (s.climateMarks z).zone? k = s.zone? k)
    ∧ s.climateMarks z = { s with
        zones := (s.climateMarks z).zones, notices := (s.climateMarks z).notices, alarm := (s.climateMarks z).alarm
        pulsing := (s.climateMarks z).pulsing } := by
  refine State.evalMarks_spec z
    [(.rhOut, decide (r.climate.rh = .outLow ∨ r.climate.rh = .outHigh)), (.rhSwing, r.climate.swing),
     (.tempOut, decide (r.climate.temp = .outLow ∨ r.climate.temp = .outHigh)), (.unresolved, r.climate.unresolved)]
    (by simp) hr _ ?_
  rw [State.climateMarks, hr, ← BandState.isOut_eq, ← BandState.isOut_eq]
  rfl

/-- Of the reviewed zone steps 5 and 6 change the trim and what it asks of its plant. -/
theorem State.steered_zone {r : Zone} (hr : s.zone? z = some r) : ∃ r', (s.steered z).zone? z = some r'
    ∧ r' = { r with climate := { r.climate with
        trimCount := r'.climate.trimCount, pulse := r'.climate.pulse, trimUnavailable := r'.climate.trimUnavailable
        offOwed := r'.climate.offOwed, need := r'.climate.need, unresolved := r'.climate.unresolved
        demand := r'.climate.demand } } := by
  obtain ⟨r', hr', own⟩ := State.steered_climate.self r hr
  have marks := State.steered_sameMarks (s := s) (z := z) z
  rw [hr', hr, Option.map_some, Option.map_some, Option.some.injEq] at marks
  rw [OwnClimate, marks] at own
  exact ⟨r', hr', own⟩

/-- Of the other zones a review changes at most the trim. -/
structure OthersTrim (z : Nat) (s t : State) : Prop where
  other : ∀ k x, k ≠ z → s.zone? k = some x → ∃ x', t.zone? k = some x' ∧ TrimOnly x x'
  banks : t.banks = s.banks
  devices : t.devices = s.devices

theorem ClimateOnly.othersTrim {r : Zone} {t : State} (h : ClimateOnly z (s.putZone z r) t) : OthersTrim z s t where
  other k x hk hx := h.other k x hk ((State.zone?_putZone_ne s r hk).trans hx)
  banks := h.banks
  devices := h.devices

theorem State.climateReview_climate {r : Zone} (hr : s.zone? z = some r) (due : r.climateDue ≤ s.now) :
    OthersTrim z s (s.climateReview z) := by
  cases blind : (s.climateOf r).climate.blind with
  | true =>
    rw [State.climateReview_blind hr due blind]
    exact (State.evalMark_climate z _ _ _).othersTrim
  | false =>
    rw [State.climateReview_sees hr due blind]
    exact (State.steered_climate.trans (State.climateMarks_climate z _)).othersTrim

end

end Sys2Proof.Machine

namespace Sys2Proof.Proofs

open Sys2Proof Sys2Proof.Machine

/-- Settles O41: a BLIND channel leaves `State.evalMarks_spec` of one mark; else steps 2 to 4 are `Zone.track`, steps 5 and 6
`State.steered_zone`, and step 7 is `State.evalMarks_spec` of four; the demand decision is `State.decideDemand_eq`. -/
theorem climateReviewTracks : Obligations.ClimateReviewTracks := by
  refine ⟨fun s z r works hr due => ?_, fun s z r hr => ?_⟩
  · have blocks := State.climateReview_blocks s z
    have only := State.climateReview_climate hr due
    refine ⟨_, s.climateOf r, happens_event (exec_work rfl s) works rfl, rfl, fun blind => ?_, fun sees => ?_, ?_, ?_, ?_,
      blocks.clock, blocks.store, blocks.report⟩
    · rw [State.climateReview_blind hr due blind]
      obtain ⟨zone, offered, others, frame⟩ := State.evalMarks_spec z [(.blindClimate, true)] (by decide)
        (State.zone?_putZone (r.resolvedTo (s.climateOf r)) hr) _ rfl
      exact ⟨zone, offered, fun k hk => (others k hk).trans (State.zone?_putZone_ne s _ hk), frame⟩
    · obtain ⟨r2, hr2, own⟩ := State.steered_zone (State.zone?_putZone (r.resolvedTo (s.climateOf r)).track hr)
      obtain ⟨zone, offered, others, framed⟩ := State.climateMarks_spec hr2
      have kept : r2.marks = r.marks := by
        rw [own]
        rfl
      rw [kept] at zone
      rw [State.climateReview_sees hr due sees]
      refine ⟨(r.resolvedTo (s.climateOf r)).track, _, r2, _, Zone.track_frame _, fun none => ?_, fun v rh => ?_,
        fun none => ?_, fun bandless => ?_, fun b v band rh => ?_, fun b w band temp => ?_, Zone.track_unsampled _,
        fun sampled x spread => Zone.track_swing _ sampled spread, fun resolved => ?_, rfl, hr2, own, ?_, zone, offered,
        others, framed⟩
      · rw [Zone.track_current, Zone.track_rh]
        exact ⟨congrArg Climate.current (Climate.bucketed_unresolved none), congrArg (classifyRh r.band) none⟩
      · rw [Zone.track_current]
        refine (congrArg Climate.current (Climate.bucketed_resolved rh)).trans ?_
        show Bucket.mk _ _ _ _ = Bucket.mk _ _ _ _
        congr 1
        show Bucket.temp (r.climate.current.sample v (s.climateOf r).temperature) = _
        cases (s.climateOf r).temperature with
        | none => rfl
        | some w =>
          show some (widenInt w r.climate.current.temp) = _
          cases r.climate.current.temp <;> rfl
      · rw [Zone.track_temp]
        exact congrArg (classifyTemp r.band) none
      · rw [Zone.track_rh, Zone.track_temp]
        refine ⟨fun some => ?_, fun some => ?_⟩
        · obtain ⟨v, rh⟩ := Option.ne_none_iff_exists'.1 some
          show classifyRh r.band (s.climateOf r).rh = _
          rw [show (s.climateOf r).rh = _ from rh, bandless]
          rfl
        · obtain ⟨w, temp⟩ := Option.ne_none_iff_exists'.1 some
          show classifyTemp r.band (s.climateOf r).temperature = _
          rw [show (s.climateOf r).temperature = _ from temp, bandless]
          rfl
      · rw [Zone.track_rh]
        show Classified _ _ _ _ (classifyRh r.band (s.climateOf r).rh)
        rw [show (s.climateOf r).rh = _ from rh, band]
        exact classify_classified _ _ _ _
      · rw [Zone.track_temp]
        show Classified _ _ _ _ (classifyTemp r.band (s.climateOf r).temperature)
        rw [show (s.climateOf r).temperature = _ from temp, band]
        exact classify_classified _ _ _ _
      · obtain ⟨v, rh⟩ := Option.ne_none_iff_exists'.1 resolved
        rw [Zone.track_current, Climate.bucketed_resolved (m := (r.resolvedTo (s.climateOf r)).measure) rh]
        exact ⟨_, spread_of_current _ _ rfl⟩
      · rw [own]
        rfl
    · exact only.other
    · exact only.banks
    · exact only.devices
  · refine ⟨r.rhCandidate.1, r.rhCandidate.2, r.chosenNeed, s.plantFor r, _, _, r.rhCandidate_spec, r.chosenNeed_spec,
      s.plantFor_eq r, rfl, rfl, ?_⟩
    rw [State.decideDemand_eq hr]
    refine ⟨fun unheld unwanted => ?_, fun p n unheld wanted => ?_, fun dm held =>
      ⟨fun unwanted => ?_, fun p n wanted => ⟨fun duty level => ?_, fun duty level => ?_, fun duty => ?_⟩⟩⟩
    · rw [unheld, unwanted]
      rfl
    · rw [unheld, wanted]
      rfl
    · rw [held, unwanted]
      rfl
    · rw [held, wanted]
      exact (if_pos duty).trans (if_pos level)
    · rw [held, wanted]
      exact (if_pos duty).trans (if_neg level)
    · rw [held, wanted]
      exact if_neg duty

end Sys2Proof.Proofs
end

section
/-! PROOFS. The packets of the field lines: what a complete packet is, the tests of a reply in their order, and which payloads suit
(O46). -/

namespace Sys2Proof.Machine

/-! ## Packets (R133) -/

/-- The bytes of the packet are these fields, the payload as long as the length says. -/
structure Packs (packet : List FieldByte) (sender kind len check : Byte) (payload : List Byte) : Prop where
  length : payload.length = len.toNat
  bytes : packet.map (·.data) = sender :: kind :: len :: payload ++ [check]

section
variable {packet : List FieldByte} {sender kind len check : Byte} {payload : List Byte}

/-- A complete packet is read off whatever follows it. -/
theorem Packs.complete (h : Packs packet sender kind len check payload) (rest : List FieldByte) :
    completePacket (packet ++ rest) = some packet := by
  have size : packet.length = len.toNat + 4 := by
    have := congrArg List.length h.bytes
    simp only [List.length_map, List.length_append, List.length_cons, List.length_nil, h.length] at this
    omega
  obtain ⟨a, rest1, rfl, -, tail1⟩ := List.map_eq_cons_iff.1 h.bytes
  obtain ⟨b, rest2, rfl, -, tail2⟩ := List.map_eq_cons_iff.1 tail1
  obtain ⟨c, rest3, rfl, third, -⟩ := List.map_eq_cons_iff.1 tail2
  have room : len.toNat + 4 ≤ (a :: b :: c :: rest3 ++ rest).length := by
    rw [List.length_append, size]
    omega
  show (if c.data.toNat + 4 ≤ _ then some _ else none) = _
  rw [third, if_pos room, ← size, List.take_left]

/-- The tests of a packet of these fields, in their order (R134). -/
theorem Packs.classified (h : Packs packet sender kind len check payload) (ask : Ask) (address : Nat) (entry : Option Device) :
    classifyPacket ask address entry packet =
      if ¬ packet.all wellFramed then .failed .garbled
      else if 12 < len.toNat then .failed .garbled
      else if (packet.map (·.data)).sum ≠ 0 then .failed .garbled
      else if [sender] ≠ be 1 address then .failed .wrongReply
      else if kind ≠ ask.replyKind then .failed .wrongReply
      else if ¬ contentSuits entry payload ask then .failed .wrongReply
      else .ok payload := by
  have content : (((packet.map (·.data)).drop 3).take ((packet.map (·.data)).length - 4)) = payload := by
    rw [h.bytes]
    have size : (sender :: kind :: len :: payload ++ [check]).length - 4 = payload.length := by simp
    rw [size]
    exact List.take_left
  unfold classifyPacket
  dsimp only
  rw [content, h.length]
  simp only [h.bytes, bne_iff_ne, Bool.not_eq_true', Bool.not_eq_true, List.cons_append, List.take_succ_cons, List.take_zero,
    List.drop_succ_cons, List.drop_zero, List.cons.injEq, and_true, ne_eq]

end

theorem singleton_eq_be_iff {b : Byte} {v : Nat} (small : v < 256) : [b] = be 1 v ↔ b.toNat = v := by
  rw [be_one, List.cons.injEq, and_iff_left rfl, ← BitVec.toNat_inj, BitVec.toNat_ofNat, Nat.mod_eq_of_lt (by simpa using small)]

/-- The fields of a packet as it is sent. -/
theorem packs_sent (address : Nat) (kind : Byte) {payload : List Byte} (short : payload.length ≤ 12) :
    Packs ((packetBytes address kind payload).map fieldByte) (BitVec.ofNat 8 address) kind (BitVec.ofNat 8 payload.length)
      (checkByte (be 1 address ++ kind :: be 1 payload.length ++ payload)) payload where
  length := by
    rw [BitVec.toNat_ofNat]
    omega
  bytes := by
    rw [List.map_map, show (fun b : FieldByte => b.data) ∘ fieldByte = id from rfl, List.map_id, packetBytes, be_one, be_one]
    rfl

theorem sent_sum (address : Nat) (kind : Byte) (payload : List Byte) :
    (((packetBytes address kind payload).map fieldByte).map (·.data)).sum = 0 := by
  rw [List.map_map, show (fun b : FieldByte => b.data) ∘ fieldByte = id from rfl, List.map_id]
  exact sum_append_checkByte _

theorem sent_wellFramed (bs : List Byte) : (bs.map fieldByte).all wellFramed = true := by
  rw [List.all_map, List.all_eq_true]
  exact fun b _ => by simp [wellFramed, fieldByte]

/-! ## Which payloads suit (R134) -/

theorem reportOf_isSome (kind : DeviceKind) (payload : List Byte) : (reportOf kind payload).isSome = true ↔
    ∃ (hi : Nat) (b : Byte), kind.valueMax? = some hi ∧ payload = [b] ∧ b.toNat ≤ hi := by
  unfold reportOf
  split
  · next hi b max =>
    rw [max]
    constructor
    · intro some
      exact ⟨hi, b, rfl, rfl, by_contra fun above => by simp [above] at some⟩
    · rintro ⟨hi', b', same, same', below⟩
      cases same
      cases same'
      simp [below]
  · next other =>
    refine ⟨fun none => by simp at none, ?_⟩
    rintro ⟨hi, b, max, rfl, -⟩
    exact absurd rfl (other hi b max)

/-- The length of the READING payload of a sensor of this kind. -/
def DeviceKind.readingSize (kind : DeviceKind) : Nat := if kind = .lightClimateSensor then 9 else 5

/-- A payload is a reading exactly by the kind and its length (R133). -/
theorem readingOf_isSome (kind : DeviceKind) (payload : List Byte) (clock arrived : Nat) :
    (readingOf kind payload clock arrived).isSome = true ↔ kind.isActuator = false ∧ payload.length = kind.readingSize := by
  unfold readingOf
  dsimp only
  split
  · next size => exact ⟨fun _ => ⟨rfl, size⟩, fun _ => rfl⟩
  · next size => exact ⟨fun _ => ⟨rfl, size⟩, fun _ => rfl⟩
  · next size => exact ⟨fun _ => ⟨rfl, size⟩, fun _ => rfl⟩
  · next kind _ _ light climate both =>
    refine ⟨fun none => by simp at none, fun ⟨sensor, size⟩ => ?_⟩
    cases kind with
    | lightSensor => exact (light rfl size).elim
    | climateSensor => exact (climate rfl size).elim
    | lightClimateSensor => exact (both rfl size).elim
    | dimmer => cases sensor
    | louvre => cases sensor
    | trimUnit => cases sensor
    | plantController => cases sensor

/-- A sensor reports no value. -/
theorem DeviceKind.valueMax?_sensor {kind : DeviceKind} (sensor : kind.isActuator = false) : kind.valueMax? = none := by
  cases kind <;> first | rfl | cases sensor

/-- A sensor's payload suits by its length. -/
theorem DeviceKind.suits_sensor {kind : DeviceKind} (sensor : kind.isActuator = false) (payload : List Byte) :
    kind.suits payload = true ↔ payload.length = kind.readingSize := by
  have unreported : ¬ (reportOf kind payload).isSome = true := by
    rw [reportOf_isSome]
    rintro ⟨hi, b, max, -⟩
    exact nomatch (DeviceKind.valueMax?_sensor sensor).symm.trans max
  rw [DeviceKind.suits, Bool.or_eq_true, or_iff_left unreported, readingOf_isSome, and_iff_right sensor]

/-- An actuator's payload suits as one byte within its range. -/
theorem DeviceKind.suits_actuator {kind : DeviceKind} (actuator : kind.isActuator = true) (payload : List Byte) :
    kind.suits payload = true ↔ ∃ (hi : Nat) (b : Byte), kind.valueMax? = some hi ∧ payload = [b] ∧ b.toNat ≤ hi := by
  have unread : ¬ (readingOf kind payload 0 0).isSome = true := by
    rw [readingOf_isSome, actuator]
    exact fun h => nomatch h.1
  rw [DeviceKind.suits, Bool.or_eq_true, or_iff_right unread, reportOf_isSome]

theorem DeviceKind.within_iff {kind : DeviceKind} {max : Nat} (range : kind.valueMax? = some max) (payload : List Byte) :
    (∃ (hi : Nat) (b : Byte), kind.valueMax? = some hi ∧ payload = [b] ∧ b.toNat ≤ hi) ↔
      ∃ b : Byte, payload = [b] ∧ b.toNat ≤ max := by
  rw [range]
  refine ⟨fun ⟨hi, b, same, one, within⟩ => ⟨b, one, ?_⟩, fun ⟨b, one, within⟩ => ⟨max, b, rfl, one, within⟩⟩
  cases same
  exact within

theorem contentSuits_poll (entry : Option Device) (payload : List Byte) :
    contentSuits entry payload .poll = true ↔ ∀ e, entry = some e → e.mismatch = false ∧ e.kind.suits payload = true := by
  cases entry <;> simp [contentSuits]

theorem contentSuits_set (entry : Option Device) (payload : List Byte) (v : Nat) (i : Issuer) :
    contentSuits entry payload (.set v i) = true ↔ payload = be 1 v ∧ ∀ e, entry = some e → e.mismatch = false := by
  cases entry <;> simp [contentSuits]

theorem contentSuits_ident (entry : Option Device) (payload : List Byte) :
    contentSuits entry payload .ident = true ↔ payload.length = 1 := by
  simp [contentSuits]

/-- A reply packet that suits is complete and is taken with its payload; and the bytes of a request sum to 0. -/
theorem reply_suits (ask : Ask) (address : Nat) (entry : Option Device) (payload : List Byte)
    (short : payload.length ≤ 12) (suits : contentSuits entry payload ask = true) :
    completePacket (replyPacket address ask.replyKind payload) = some (replyPacket address ask.replyKind payload)
    ∧ classifyPacket ask address entry (replyPacket address ask.replyKind payload) = .ok payload
    ∧ ((requestPacket address ask).map (·.data)).sum = 0 := by
  have packs := packs_sent address ask.replyKind short
  have whole := packs.complete []
  rw [List.append_nil] at whole
  have fits : ¬ 12 < (BitVec.ofNat 8 payload.length).toNat := by
    rw [← packs.length]
    omega
  refine ⟨whole, ?_, sent_sum _ _ _⟩
  show classifyPacket ask address entry ((packetBytes address ask.replyKind payload).map fieldByte) = _
  rw [packs.classified, if_neg (not_not_intro (sent_wellFramed _)), if_neg fits, if_neg (not_not_intro (sent_sum _ _ _)),
    if_neg (by simp [be_one]), if_neg (by simp), if_neg (by simp [suits])]

end Sys2Proof.Machine

namespace Sys2Proof.Proofs

open Sys2Proof Sys2Proof.Machine

/-- Settles O46: the tests of a packet in their order are `Packs.classified`; which payload suits is `DeviceKind.suits_sensor` and
`DeviceKind.suits_actuator`. -/
theorem replyPacketsAreRead : Obligations.ReplyPacketsAreRead := by
  refine ⟨fun ask address entry payload _ short suits => ?_,
    fun ask address entry bytes packet rest sender kind len check payload small length fields joined => ?_,
    fun ask entry payload => ?_⟩
  · exact reply_suits ask address entry payload short suits
  · have packs : Packs packet sender kind len check payload := ⟨length, fields⟩
    have framed : packet.all wellFramed = true ↔ ∀ b ∈ packet, b.stop = true ∧ b.parity = parityOf b.data := by
      simp [wellFramed, and_comm]
    rw [joined, packs.classified]
    refine ⟨packs.complete rest, fun broken => if_pos ?_, fun sound => ?_⟩
    · rw [framed]
      intro all
      obtain ⟨b, hb, wrong⟩ := broken
      rcases wrong with open_ | parity
      · exact nomatch open_.symm.trans (all b hb).1
      · exact parity (all b hb).2
    · rw [if_neg (not_not_intro (framed.2 sound))]
      refine ⟨fun long => if_pos long, fun short sum => ?_, fun short sum => ⟨fun other => ?_, fun from_ same => ⟨fun wrong => ?_, fun suits => ?_⟩⟩⟩
      all_goals rw [if_neg (Nat.not_lt.2 short)]
      · exact if_pos sum
      all_goals rw [if_neg (not_not_intro sum)]
      · have other' : sender.toNat ≠ address ∨ kind ≠ ask.replyKind := by cases ask <;> exact other
        by_cases here : sender.toNat = address
        · rw [if_neg (not_not_intro ((singleton_eq_be_iff small).2 here))]
          exact if_pos (other'.resolve_left (not_not_intro here))
        · exact if_pos (mt (singleton_eq_be_iff small).1 here)
      all_goals
        have same' : kind = ask.replyKind := by cases ask <;> exact same
        rw [if_neg (not_not_intro ((singleton_eq_be_iff small).2 from_)), if_neg (not_not_intro same')]
      · refine if_pos fun suits => ?_
        cases ask with
        | poll =>
          rw [contentSuits_poll] at suits
          obtain ⟨e, he, unsuited⟩ := wrong
          obtain ⟨matched, suited⟩ := suits e he
          rcases unsuited with mismatch | ⟨kind, length⟩ | ⟨kind, length⟩ | ⟨actuator, beyond⟩
          · exact nomatch matched.symm.trans mismatch
          · rcases kind with kind | kind
            all_goals
              rw [DeviceKind.suits_sensor (by rw [kind]; rfl), DeviceKind.readingSize, if_neg (by simp [kind])] at suited
              exact length suited
          · rw [DeviceKind.suits_sensor (by rw [kind]; rfl), DeviceKind.readingSize, if_pos kind] at suited
            exact length suited
          · obtain ⟨hi, b, max, one, within⟩ := (DeviceKind.suits_actuator actuator payload).1 suited
            exact absurd (beyond hi max b one) (Nat.not_lt.2 within)
        | set v i =>
          obtain ⟨value, matched⟩ := (contentSuits_set entry payload v i).1 suits
          rcases wrong with other | ⟨e, he, mismatch⟩
          · exact other value
          · exact nomatch (matched e he).symm.trans mismatch
        | ident => exact wrong ((contentSuits_ident entry payload).1 suits)
      · exact if_neg (not_not_intro suits)
  · cases ask with
    | poll =>
      rw [contentSuits_poll]
      refine forall₂_congr fun e he => and_congr_right' ?_
      cases kind : e.kind with
      | lightSensor => exact DeviceKind.suits_sensor rfl payload
      | climateSensor => exact DeviceKind.suits_sensor rfl payload
      | lightClimateSensor => exact DeviceKind.suits_sensor rfl payload
      | dimmer => exact (DeviceKind.suits_actuator rfl payload).trans (DeviceKind.within_iff rfl payload)
      | louvre => exact (DeviceKind.suits_actuator rfl payload).trans (DeviceKind.within_iff rfl payload)
      | trimUnit => exact (DeviceKind.suits_actuator rfl payload).trans (DeviceKind.within_iff rfl payload)
      | plantController => exact (DeviceKind.suits_actuator rfl payload).trans (DeviceKind.within_iff rfl payload)
    | set v i => exact contentSuits_set entry payload v i
    | ident => exact contentSuits_ident entry payload

end Sys2Proof.Proofs
end

section
/-! PROOFS. The work a line takes up, and an enrolment probe and its outcome (O45). -/

namespace Sys2Proof.Machine

section
variable {s : State} {n : Nat} {r : Line}

/-! ## Rounds and polls (R139, R140) -/

theorem State.startRound_eq (hr : s.line? n = some r) : s.startRound n = s.putLine n (r.nextRound s) :=
  State.modLine_some _ hr

theorem State.putLine_startRoundIfDue {q : Line} (hr : s.line? n = some r) (active : q.state = .active) (unenrolled : q.enrolment = none)
    (idle : q.roundInProgress = false) (due : q.roundDue = none) :
    (s.putLine n q).startRoundIfDue n = s.putLine n (q.nextRound s) := by
  have hq := State.line?_putLine q hr
  rw [State.startRoundIfDue, hq]
  refine (if_pos (by simp [active, unenrolled, idle, due])).trans ?_
  rw [State.startRound_eq hq, State.putLine_putLine]
  rfl

theorem State.putLine_startRoundIfDue_none {q : Line} (hr : s.line? n = some r)
    (h : q.state ≠ .active ∨ q.enrolment ≠ none ∨ q.roundInProgress = true ∨ q.roundDue ≠ none) :
    (s.putLine n q).startRoundIfDue n = s.putLine n q := by
  rw [State.startRoundIfDue, State.line?_putLine q hr]
  refine if_neg fun starts => ?_
  simp only [Bool.and_eq_true, beq_iff_eq, Option.isNone_iff_eq_none, Bool.not_eq_true'] at starts
  obtain ⟨⟨⟨active, unenrolled⟩, idle⟩, due⟩ := starts
  rcases h with h | h | h | h
  · exact h active
  · exact h unenrolled
  · exact nomatch idle.symm.trans h
  · exact h due

theorem State.roundTimerExpiry_due {due : Nat} (hr : s.line? n = some r) (timer : r.roundDue = some due) (past : due ≤ s.now) :
    s.roundTimerExpiry n = (s.putLine n { r with roundDue := none }).startRoundIfDue n := by
  rw [State.roundTimerExpiry, hr]
  exact if_pos (by simp [State.expired, timer, State.reached, past])

theorem pollCandidate_iff (e : Device) : PollCandidate s n r e ↔ e ∈ s.lineDevices n
    ∧ (decide (r.pollPos < e.address) && e.state != .absent && (r.roundCounter == 0 || e.state != .faulted)) = true := by
  simp only [PollCandidate, State.lineDevices, List.mem_filter, beq_iff_eq, Bool.and_eq_true, decide_eq_true_eq, bne_iff_ne,
    Bool.or_eq_true]
  tauto

theorem State.nextPoll_none (ended : ∀ x, ¬ PollCandidate s n r x) : s.nextPoll n r = none :=
  List.find?_eq_none.2 fun x hx may => ended x ((pollCandidate_iff x).2 ⟨hx, may⟩)

/-- In the order of the table the poll goes to the candidate of least address. -/
theorem State.nextPoll_least {e : Device} (admitted : s.tablesAdmitted) (candidate : PollCandidate s n r e)
    (least : ∀ x, PollCandidate s n r x → e.address ≤ x.address) : ∃ x, s.nextPoll n r = some x ∧ x.address = e.address := by
  obtain ⟨here, may⟩ := (pollCandidate_iff e).1 candidate
  cases found : s.nextPoll n r with
  | none => exact absurd may (List.find?_eq_none.1 found e here)
  | some x =>
    obtain ⟨mayX, before, after, split, unfit⟩ := List.find?_eq_some_iff_append.1 found
    have hereX : x ∈ s.lineDevices n := by rw [split]; simp
    refine ⟨x, rfl, Nat.le_antisymm ?_ (least x ((pollCandidate_iff x).2 ⟨hereX, mayX⟩))⟩
    obtain ⟨-, ordered, -⟩ := (tableAdmitted_iff _).1 admitted.1
    have sorted : (s.lineDevices n).Pairwise fun a b => placeBefore a.place b.place :=
      (List.pairwise_map.1 ordered).sublist List.filter_sublist
    rw [split] at here sorted
    rcases List.mem_append.1 here with early | late
    · have fails := unfit e early
      rw [may] at fails
      cases fails
    · rcases List.mem_cons.1 late with rfl | later
      · exact le_rfl
      · have line (y : Device) (hy : y ∈ s.lineDevices n) : y.line = n := by
          simpa using (List.mem_filter.1 hy).2
        have follows := (List.pairwise_cons.1 (List.pairwise_append.1 sorted).2.1).1 e later
        rcases follows with other | ⟨-, lower⟩
        · have lineE := line e (by rw [split]; simp [later])
          have lineX := line x hereX
          exact absurd other (by simp [Device.place, lineE, lineX])
        · exact Nat.le_of_lt lower

section
variable (hr : s.line? n = some r) (active : r.state = .active) (unenrolled : r.enrolment = none) (idle : r.inFlight = none)
include hr active unenrolled idle

theorem State.takeUp_command {c : Command} {rest : List Command} (queue : r.queue = c :: rest) :
    s.takeUp n = s.putLine n ({ r with queue := rest }.send (.new c.address (.set c.value c.issuer))) := by
  rw [State.takeUp, hr]
  refine (if_pos (by simp [active, unenrolled, idle])).trans ?_
  rw [queue]

theorem State.takeUp_poll {x : Device} (queue : r.queue = []) (round : r.roundInProgress = true) (next : s.nextPoll n r = some x) :
    s.takeUp n = s.putLine n ({ r with pollPos := x.address }.send (.new x.address .poll)) := by
  rw [State.takeUp, hr]
  refine (if_pos (by simp [active, unenrolled, idle])).trans ?_
  rw [queue]
  dsimp only
  rw [if_pos round, next]

theorem State.takeUp_ends (queue : r.queue = []) (round : r.roundInProgress = true) (next : s.nextPoll n r = none) :
    s.takeUp n = (s.putLine n { r with roundInProgress := false }).startRoundIfDue n := by
  rw [State.takeUp, hr]
  refine (if_pos (by simp [active, unenrolled, idle])).trans ?_
  rw [queue]
  dsimp only
  rw [if_pos round, next]

end

theorem State.resend_eq {x : Transaction} (hr : s.line? n = some r) (active : r.state = .active) (flies : r.inFlight = some x)
    (waits : x.awaiting = false) : s.resend n = s.putLine n (r.send x) := by
  rw [State.resend, hr]
  dsimp only
  rw [flies]
  exact if_pos (by simp [active, waits])

theorem State.sendProbe_eq {e : Enrolment} (hr : s.line? n = some r) (enrolling : r.state = .enrolling)
    (enrols : r.enrolment = some e) (idle : r.inFlight = none) : s.sendProbe n = s.putLine n (r.send (.new e.next .ident)) := by
  rw [State.sendProbe, hr]
  dsimp only
  rw [enrols, idle]
  exact if_pos (beq_iff_eq.2 enrolling)

/-! ## A line's record is beside a probe's outcome (R126) -/

theorem State.putLine_followAlarm {q : Line} (hr : s.line? n = some r) (state : q.state = r.state) :
    (s.putLine n q).followAlarm = s.followAlarm.putLine n q := by
  have condition : (s.putLine n q).alarmCondition = s.alarmCondition := by
    refine State.alarmCondition_congr rfl (fun l => ?_) (fun _ => rfl) fun _ => rfl
    by_cases hl : l = n
    · rw [hl, State.line?_putLine q hr, hr, Option.map_some, Option.map_some, state]
    · rw [State.line?_putLine_ne s q hl]
  cases mode : s.report.mode with
  | level => rw [State.followAlarm_level mode, State.followAlarm_level (by exact mode), condition]; rfl
  | pulse => rw [State.followAlarm_pulse mode, State.followAlarm_pulse (by exact mode)]

theorem State.putLine_pulseFor (q : Line) (level : Nat) : (s.putLine n q).pulseFor level = (s.pulseFor level).putLine n q := by
  unfold State.pulseFor
  rw [State.putLine_report]
  cases s.report.mode with
  | level => rfl
  | pulse =>
    dsimp only
    by_cases reaches : s.report.alarmLevel ≤ level
    · rw [if_pos reaches, if_pos reaches]
      rfl
    · rw [if_neg reaches, if_neg reaches]

theorem State.putLine_offer (q : Line) (b : NoticeBody) (x : Subject) : (s.putLine n q).offer b x = (s.offer b x).putLine n q := by
  unfold State.offer
  dsimp only
  rw [State.putLine_pulseFor, State.putLine_report]
  by_cases below : b.level < (s.pulseFor b.level).report.floor
  · rw [if_pos below, if_pos below]
  · rw [if_neg below, if_neg below]
    rfl

theorem State.putLine_plantFault {q : Line} (hr : s.line? n = some r) (state : q.state = r.state) (p : Nat)
    (reason : PlantFaultReason) : (s.putLine n q).plantFault p reason = (s.plantFault p reason).putLine n q := by
  have named : (s.putLine n q).plant? p = s.plant? p := rfl
  unfold State.plantFault
  rw [named]
  cases hp : s.plant? p with
  | none => rfl
  | some y =>
    dsimp only
    split
    · rfl
    · have put : (s.putLine n q).putPlant p { y.returnService.stopTimers with state := .faulted }
          = (s.putPlant p { y.returnService.stopTimers with state := .faulted }).putLine n q := rfl
      rw [put, State.putLine_followAlarm (by exact hr) state, State.putLine_offer]

theorem State.putLine_ownerFault {q : Line} (hr : s.line? n = some r) (state : q.state = r.state) (o : Option Owner) :
    (s.putLine n q).ownerFault o = (s.ownerFault o).putLine n q := by
  cases o with
  | none => rfl
  | some owner =>
    cases owner with
    | zoneDimmer z => rfl
    | zoneTrim z =>
      show (s.putLine n q).trimFault z = (s.trimFault z).putLine n q
      unfold State.trimFault State.modZone
      have named : (s.putLine n q).zone? z = s.zone? z := rfl
      rw [named]
      cases s.zone? z <;> rfl
    | bank b =>
      show (s.putLine n q).bankFault b = (s.bankFault b).putLine n q
      unfold State.bankFault State.modBank
      have named : (s.putLine n q).bank? b = s.bank? b := rfl
      rw [named]
      cases s.bank? b <;> rfl
    | plant p => exact State.putLine_plantFault hr state p _

/-- The part as a device has answered as a kind that its entry cannot take. -/
def State.mismatched (s : State) (e : Device) : State :=
  s.modDevice e.addr fun x => { x with state := .faulted, fault := some ⟨.wrongKind, s.clock⟩, mismatch := true }

theorem State.probeWrongKind_faulted {e : Device} (down : e.state = .faulted) : s.probeWrongKind e = s.mismatched e :=
  if_pos (by simp [down])

theorem State.probeWrongKind_tells {e : Device} (up : e.state ≠ .faulted) : s.probeWrongKind e =
    ((s.mismatched e).offer (.deviceFault e.line e.address .wrongKind e.failures) (.device e.line e.address)).ownerFault
      (s.owner? e.addr) :=
  if_neg (by simp [up])

theorem State.putLine_probeWrongKind {q : Line} (hr : s.line? n = some r) (state : q.state = r.state) (e : Device) :
    (s.putLine n q).probeWrongKind e = (s.probeWrongKind e).putLine n q := by
  by_cases down : e.state = .faulted
  · rw [State.probeWrongKind_faulted down, State.probeWrongKind_faulted down]
    rfl
  · have put : (s.putLine n q).mismatched e = (s.mismatched e).putLine n q := rfl
    have line : ((s.mismatched e).offer (.deviceFault e.line e.address .wrongKind e.failures)
        (.device e.line e.address)).line? n = some r := by
      rw [State.line?, State.offer_lines]
      exact hr
    rw [State.probeWrongKind_tells down, State.probeWrongKind_tells down, put, State.putLine_offer,
      State.putLine_ownerFault line state]
    rfl

theorem State.putLine_probeFound {q : Line} (hr : s.line? n = some r) (state : q.state = r.state) (a : Nat) (k : DeviceKind) :
    (s.putLine n q).probeFound n a k = ((s.probeFound n a k).1.putLine n q, (s.probeFound n a k).2) := by
  unfold State.probeFound
  rw [show (s.putLine n q).device? ⟨n, a⟩ = s.device? ⟨n, a⟩ from rfl]
  cases s.device? ⟨n, a⟩ with
  | some e =>
    dsimp only
    rw [show (s.putLine n q).owner? ⟨n, a⟩ = s.owner? ⟨n, a⟩ from rfl,
      show (s.putLine n q).actuatorsFull n k = s.actuatorsFull n k from rfl, State.putLine_probeWrongKind hr state]
    split
    · rfl
    · split
      · rfl
      · split <;> rfl
  | none =>
    have new : (s.putLine n q).probeNew n a k = ((s.probeNew n a k).1.putLine n q, (s.probeNew n a k).2) := by
      unfold State.probeNew
      rw [show (s.putLine n q).actuatorsFull n k = s.actuatorsFull n k from rfl, State.putLine_devices]
      split <;> rfl
    dsimp only
    rw [new]
    rcases s.probeNew n a k with ⟨u, fits⟩
    cases fits <;> rfl

theorem State.probeOutcome_known {payload : List Byte} {k : DeviceKind} {a : Nat} (code : DeviceKind.ofCode? (natOf payload) = some k) :
    s.probeOutcome n a (.ok payload) = s.probeFound n a k := by
  rw [State.probeOutcome, code]

theorem State.probeOutcome_unknown {payload : List Byte} {a : Nat} (code : DeviceKind.ofCode? (natOf payload) = none) :
    s.probeOutcome n a (.ok payload) = (s, ⟨0, 0, 0, 0⟩) := by
  rw [State.probeOutcome, code]

theorem State.putLine_probeOutcome {q : Line} (hr : s.line? n = some r) (state : q.state = r.state) (a : Nat) (result : Attempt) :
    (s.putLine n q).probeOutcome n a result = ((s.probeOutcome n a result).1.putLine n q, (s.probeOutcome n a result).2) := by
  cases result with
  | ok payload =>
    cases code : DeviceKind.ofCode? (natOf payload) with
    | some k =>
      rw [State.probeOutcome_known code, State.probeOutcome_known code]
      exact State.putLine_probeFound hr state a k
    | none => rw [State.probeOutcome_unknown code, State.probeOutcome_unknown code]
  | failed reason =>
    cases reason with
    | noReply =>
      show (s.putLine n q).probeSilent n a = ((s.probeSilent n a).1.putLine n q, (s.probeSilent n a).2)
      unfold State.probeSilent
      rw [show (s.putLine n q).device? ⟨n, a⟩ = s.device? ⟨n, a⟩ from rfl]
      cases s.device? ⟨n, a⟩ <;> rfl
    | garbled => rfl
    | wrongReply => rfl
    | wrongKind => rfl

/-! ## The probe applied (R126, R127) -/

/-- The enrolment with what the outcome of a probe adds to its counts. -/
def Enrolment.counted (p : Enrolment) (c : ProbeCount) : Enrolment :=
  ⟨p.next, p.found + c.found, p.added + c.added, p.absent + c.absent, p.notAdded + c.notAdded⟩

/-- The enrolment of a line with nothing in flight goes on after the probe of an address. -/
theorem State.advanceEnrolment_putLine {u : State} {q : Line} {p : Enrolment} (hr : u.line? n = some r)
    (enrols : q.enrolment = some p) (a : Nat) (c : ProbeCount) : (u.putLine n q).advanceEnrolment n a c =
      if a = 126 then (u.offer (.enrolDone true (p.counted c).found (p.counted c).added (p.counted c).absent (p.counted c).notAdded)
          (.line n)).putLine n ({ q with enrolment := none, state := .active }.nextRound u)
      else u.putLine n { q with enrolment := some { p.counted c with next := a + 1 } } := by
  rw [State.advanceEnrolment, State.line?_putLine q hr]
  dsimp only
  rw [enrols]
  dsimp only
  by_cases last : a = 126
  · have line : (u.offer (.enrolDone true (p.counted c).found (p.counted c).added (p.counted c).absent (p.counted c).notAdded)
        (.line n)).line? n = some r := by rw [State.line?, State.offer_lines]; exact hr
    refine (if_pos last).trans (Eq.trans ?_ (if_pos last).symm)
    show State.completeEnrolment _ n (p.counted c) = _
    rw [State.completeEnrolment, State.putLine_offer, State.modLine_some _ (State.line?_putLine q line), State.putLine_putLine,
      State.startRound_eq (State.line?_putLine _ line), State.putLine_putLine]
    have now : (u.offer (.enrolDone true (p.counted c).found (p.counted c).added (p.counted c).absent (p.counted c).notAdded)
        (.line n)).now = u.now := State.offer_now ..
    unfold Line.nextRound
    rw [State.putLine_now, now]
  · refine (if_neg last).trans (Eq.trans ?_ (if_neg last).symm)
    rw [State.putLine_putLine]
    rfl

theorem State.probeOutcome_blocks (a : Nat) (result : Attempt) : BlocksOnly s (s.probeOutcome n a result).1 := by
  cases result with
  | ok payload =>
    cases code : DeviceKind.ofCode? (natOf payload) with
    | some k =>
      rw [State.probeOutcome_known code]
      exact State.probeFound_blocks s n a k
    | none =>
      rw [State.probeOutcome_unknown code]
      exact .refl s
  | failed reason =>
    cases reason with
    | noReply => exact State.probeSilent_blocks s n a
    | garbled => exact .refl s
    | wrongReply => exact .refl s
    | wrongKind => exact .refl s

/-- The configuration changed flag is beside an offer. -/
theorem State.offer_configChanged (c : Bool) (b : NoticeBody) (x : Subject) :
    ({ s with configChanged := c } : State).offer b x = { s.offer b x with configChanged := c } := by
  have pulse : ({ s with configChanged := c } : State).pulseFor b.level = { s.pulseFor b.level with configChanged := c } := by
    unfold State.pulseFor
    dsimp only
    cases s.report.mode with
    | level => rfl
    | pulse =>
      dsimp only
      by_cases reaches : s.report.alarmLevel ≤ b.level
      · rw [if_pos reaches, if_pos reaches]
      · rw [if_neg reaches, if_neg reaches]
  unfold State.offer
  dsimp only
  rw [pulse]
  by_cases below : b.level < (s.pulseFor b.level).report.floor
  · rw [if_pos below, if_pos below]
  · rw [if_neg below, if_neg below]

/-- The line with nothing in flight. -/
def Line.ceased (r : Line) : Line := { r with inFlight := none }

/-- The outcome of the probe in flight, its line beside the table (R126, R127). -/
theorem State.applyProbe_done {p : Enrolment} (hr : s.line? n = some r) (enrols : r.enrolment = some p) (a : Nat) (result : Attempt) :
    s.applyProbe n a result = (s.probeOutcome n a result).1.probed s n a r (p.counted (s.probeOutcome n a result).2) := by
  have line : (s.probeOutcome n a result).1.line? n = some r := by
    rw [State.line?, State.probeOutcome_lines]
    exact hr
  have blocks := State.probeOutcome_blocks (s := s) (n := n) a result
  have removed : (s.modLine n fun r => { r with inFlight := none }) = s.putLine n r.ceased := State.modLine_some _ hr
  have noted (u : State) (q : Line) : (u.putLine n q).noteProbe s.devices
      = ({ u with configChanged := u.configChanged || decide (u.devices ≠ s.devices) } : State).putLine n q := rfl
  rw [State.applyProbe_eq, removed, State.putLine_probeOutcome (q := r.ceased) hr rfl]
  dsimp only
  rw [noted, State.advanceEnrolment_putLine (by exact line) (by exact enrols), State.offer_configChanged, blocks.configChanged]
  unfold State.probed
  by_cases last : a = 126
  · rw [if_pos last, if_pos last]
    unfold Line.nextRound
    dsimp only
    rw [blocks.now]
    rfl
  · rw [if_neg last, if_neg last]
    rfl

theorem natOf_one (b : Byte) : natOf [b] = b.toNat := Nat.zero_add _

theorem State.putLine_probed {u : State} {q : Line} (a : Nat) (p : Enrolment) :
    (u.putLine n q).probed (s.putLine n q) n a q p = u.probed s n a q p := by
  unfold State.probed
  rw [State.putLine_offer, State.putLine_putLine, State.putLine_putLine]
  rfl

/-- The same with the line's hangs cleared first. -/
theorem State.applyProbe_cleared {p : Enrolment} (hr : s.line? n = some r) (enrols : r.enrolment = some p) (a : Nat) (result : Attempt) :
    (s.clearHangs n).applyProbe n a result
      = (s.probeOutcome n a result).1.probed s n a { r with hangCount := 0 } (p.counted (s.probeOutcome n a result).2) := by
  have cleared : s.clearHangs n = s.putLine n { r with hangCount := 0 } := State.modLine_some _ hr
  rw [cleared, State.applyProbe_done (State.line?_putLine { r with hangCount := 0 } hr) enrols,
    State.putLine_probeOutcome (q := { r with hangCount := 0 }) hr rfl]
  exact State.putLine_probed a _

/-! ## The reply or the silence that ends an attempt (R134, R137) -/

section
variable {x : Transaction} (hr : s.line? n = some r) (flies : r.inFlight = some x) (awaiting : x.awaiting = true)
include hr flies awaiting

theorem State.replyComplete_classed {bytes packet : List FieldByte} (whole : completePacket bytes = some packet) :
    s.replyComplete n bytes
      = s.attemptEnds n r x (classifyPacket x.ask x.address (s.device? ⟨n, x.address⟩) packet) := by
  rw [State.replyComplete, hr]
  dsimp only
  rw [flies, whole]
  exact if_pos awaiting

theorem State.replyTimeout_ends (bytes : List FieldByte) : s.replyTimeout n bytes
    = s.attemptEnds n r x (.failed (if bytes.isEmpty then .noReply else .garbled)) := by
  rw [State.replyTimeout, hr]
  dsimp only
  rw [flies]
  exact if_pos awaiting

/-- A reply packet that suits the request is taken with its payload. -/
theorem State.replyComplete_ok {payload : List Byte} (short : payload.length ≤ 12)
    (suits : contentSuits (s.device? ⟨n, x.address⟩) payload x.ask = true) :
    s.replyComplete n (replyPacket x.address x.ask.replyKind payload) = s.attemptEnds n r x (.ok payload) := by
  obtain ⟨whole, ok, -⟩ := reply_suits x.ask x.address (s.device? ⟨n, x.address⟩) payload short suits
  rw [State.replyComplete_classed hr flies awaiting whole, ok]

end

section
variable {x : Transaction} {p : Enrolment} {a : Nat} (hr : s.line? n = some r) (enrols : r.enrolment = some p)
  (flies : r.inFlight = some x) (probe : x.ask = .ident) (here : x.address = a) (awaiting : x.awaiting = true)
include hr enrols flies probe here awaiting

omit flies awaiting in
theorem State.probe_fails {reason : FaultReason} : s.attemptEnds n r x (.failed reason)
    = (s.probeOutcome n a (.failed reason)).1.probed s n a r (p.counted (s.probeOutcome n a (.failed reason)).2) := by
  rw [State.attemptEnds, if_pos (by simp [Transaction.isProbe, probe]), here]
  exact State.applyProbe_done hr enrols a _

/-- An IDENT reply of this code. -/
theorem State.probe_answers (code : Byte) : s.replyComplete n (replyPacket a 0xD1 [code])
    = (s.probeOutcome n a (.ok [code])).1.probed s n a { r with hangCount := 0 }
        (p.counted (s.probeOutcome n a (.ok [code])).2) := by
  have classed := State.replyComplete_ok (payload := [code]) hr flies awaiting (by simp)
    (by rw [probe]; exact (contentSuits_ident _ _).2 rfl)
  rw [probe, here] at classed
  rw [show (0xD1 : Byte) = Ask.ident.replyKind from rfl, classed, State.attemptEnds,
    if_pos (by simp [Transaction.isProbe, probe]), here]
  exact State.applyProbe_cleared hr enrols a _

theorem State.probe_answers_kind (k : DeviceKind) :
    s.replyComplete n (replyPacket a 0xD1 [BitVec.ofNat 8 k.code])
      = (s.probeFound n a k).1.probed s n a { r with hangCount := 0 } (p.counted (s.probeFound n a k).2) := by
  have code : DeviceKind.ofCode? (natOf [BitVec.ofNat 8 k.code]) = some k := by cases k <;> rfl
  rw [State.probe_answers hr enrols flies probe here awaiting, State.probeOutcome_known code]

end

/-! ## What a probe finds (R126) -/

theorem State.actuatorsFull_eq (k : DeviceKind) : s.actuatorsFull n k
    = (k.isActuator && decide (16 ≤ (s.devices.filter fun y => y.line == n && y.kind.isActuator).length)) := by
  rw [State.actuatorsFull, State.lineActuators_eq]
  rfl

theorem State.modDevice_eq (a : Nat) (f : Device → Device) : s.modDevice ⟨n, a⟩ f = s.withEntry n a f := by
  unfold State.modDevice State.withEntry Device.at
  simp only [Bool.and_eq_true, beq_iff_eq]

theorem State.probeFound_known {a : Nat} {k : DeviceKind} {e : Device} (he : s.device? ⟨n, a⟩ = some e) (kind : e.kind = k) :
    s.probeFound n a k = (s.withEntry n a fun y => if y.state = .absent then { y with state := .enrolled, failures := 0, mismatch := false }
      else { y with mismatch := false }, ⟨1, 0, 0, 0⟩) := by
  rw [State.probeFound, he, ← State.modDevice_eq]
  refine (if_pos kind).trans ?_
  simp only [beq_iff_eq]

theorem State.probeFound_replaces {a : Nat} {k : DeviceKind} {e : Device} (he : s.device? ⟨n, a⟩ = some e) (kind : e.kind ≠ k)
    (unowned : s.owner? ⟨n, a⟩ = none) (room : s.actuatorsFull n k = false) :
    s.probeFound n a k = (s.withEntry n a fun _ => Device.enrolled n a k, ⟨1, 0, 0, 0⟩) := by
  rw [State.probeFound, he, ← State.modDevice_eq]
  exact (if_neg kind).trans ((if_neg (by simp [unowned])).trans (if_neg (by simp [room])))

theorem State.probeFound_mismatch {a : Nat} {k : DeviceKind} {e : Device} (he : s.device? ⟨n, a⟩ = some e) (kind : e.kind ≠ k)
    (h : s.owner? ⟨n, a⟩ ≠ none ∨ s.actuatorsFull n k = true) :
    s.probeFound n a k = (s.probeWrongKind e, ⟨1, 0, 0, if s.owner? ⟨n, a⟩ = none then 1 else 0⟩) := by
  rw [State.probeFound, he]
  refine (if_neg kind).trans ?_
  by_cases unowned : s.owner? ⟨n, a⟩ = none
  · rw [if_neg (by simp [unowned]), if_pos (h.resolve_left (not_not_intro unowned)), if_pos unowned]
  · rw [if_pos (Option.isSome_iff_ne_none.2 unowned), if_neg unowned]

theorem State.probeFound_new {a : Nat} {k : DeviceKind} (none : s.device? ⟨n, a⟩ = none) :
    s.probeFound n a k = if s.devices.length < 64 ∧ s.actuatorsFull n k = false
      then (s.addDevice (Device.enrolled n a k), ⟨1, 1, 0, 0⟩) else (s, ⟨1, 0, 0, 1⟩) := by
  have adds : (decide (s.devices.length < Config.deviceCapacity) && !s.actuatorsFull n k) = true ↔
      s.devices.length < 64 ∧ s.actuatorsFull n k = false := by
    rw [Bool.and_eq_true, decide_eq_true_eq, Bool.not_eq_true']
    rfl
  rw [State.probeFound, none]
  dsimp only
  rw [State.probeNew]
  by_cases room : s.devices.length < 64 ∧ s.actuatorsFull n k = false
  · rw [if_pos room, if_pos (adds.2 room)]
  · rw [if_neg room, if_neg (mt adds.1 room)]

theorem State.probeSilent_known {a : Nat} {e : Device} (he : s.device? ⟨n, a⟩ = some e) : s.probeSilent n a
    = (s.withEntry n a fun y => { y with state := .absent, reading := none, reported := none, acked := none }, ⟨0, 0, 1, 0⟩) := by
  rw [State.probeSilent, he, ← State.modDevice_eq]

theorem State.probeSilent_unknown {a : Nat} (none : s.device? ⟨n, a⟩ = none) : s.probeSilent n a = (s, ⟨0, 0, 0, 0⟩) := by
  rw [State.probeSilent, none]

end

end Sys2Proof.Machine

namespace Sys2Proof.Proofs

open Sys2Proof Sys2Proof.Machine

/-- Settles O45: the work of a line by its equations; the outcome of a probe is applied beside the line's record
(`State.applyProbe_done`), and what it finds is one of the cases of R126. -/
theorem lineTakesUpWork : Obligations.LineTakesUpWork := by
  refine ⟨fun s n r works hr => ⟨fun due timer past active unenrolled idle => ?_, fun due timer past busy => ?_,
      fun c rest active unenrolled idle queue => ?_, fun e active unenrolled idle queue round admitted candidate least => ?_,
      fun active unenrolled idle queue round ended => ⟨fun pending => ?_, fun due => ?_⟩,
      fun x active flies waits => ?_, fun e enrolling enrols idle => ?_⟩,
    fun s n a r p x works hr enrols flies probe here awaiting _ _ admitted =>
      ⟨fun k full isFull => ⟨fun e he kind => ?_, fun e he kind unowned room => ?_, fun e he kind h => ?_,
        fun none space room => ?_, fun none h => ?_⟩, fun e he => ?_, fun none => ?_, fun b bs => ?_,
        fun bytes packet reason whole fails replied => ?_, fun code unknown => ?_⟩⟩
  · refine happens_event (exec_work rfl s) works ?_
    rw [State.roundTimerExpiry_due hr timer past, State.putLine_startRoundIfDue hr (by exact active) (by exact unenrolled)
      (by exact idle) rfl]
    rfl
  · refine happens_event (exec_work rfl s) works ?_
    rw [State.roundTimerExpiry_due hr timer past]
    refine State.putLine_startRoundIfDue_none hr ?_
    rcases busy with h | h | h
    · exact .inl h
    · exact .inr (.inl h)
    · exact .inr (.inr (.inl h))
  · exact happens_event (exec_work rfl s) works (State.takeUp_command hr active unenrolled idle queue)
  · obtain ⟨x, next, same⟩ := State.nextPoll_least admitted candidate least
    refine happens_event (exec_work rfl s) works ((State.takeUp_poll hr active unenrolled idle queue round next).trans ?_)
    rw [same]
    rfl
  · refine happens_event (exec_work rfl s) works
      ((State.takeUp_ends hr active unenrolled idle queue round (State.nextPoll_none ended)).trans ?_)
    exact State.putLine_startRoundIfDue_none hr (.inr (.inr (.inr pending)))
  · refine happens_event (exec_work rfl s) works
      ((State.takeUp_ends hr active unenrolled idle queue round (State.nextPoll_none ended)).trans ?_)
    rw [State.putLine_startRoundIfDue hr (by exact active) (by exact unenrolled) rfl (by exact due)]
    rfl
  · refine happens_event (exec_work rfl s) works ?_
    exact State.resend_eq hr active flies waits
  · refine happens_event (exec_work rfl s) works ?_
    exact State.sendProbe_eq hr enrolling enrols idle
  · have answered := State.probe_answers_kind hr enrols flies probe here awaiting k
    rw [State.probeFound_known he kind] at answered
    exact ⟨_, rfl, happens_event (exec_work rfl s) works answered⟩
  · have answered := State.probe_answers_kind hr enrols flies probe here awaiting k
    rw [State.probeFound_replaces he kind unowned ((State.actuatorsFull_eq k).trans (isFull.symm.trans room))] at answered
    exact ⟨_, rfl, happens_event (exec_work rfl s) works answered⟩
  · have answered := State.probe_answers_kind hr enrols flies probe here awaiting k
    rw [State.probeFound_mismatch he kind (h.imp id fun fills => (State.actuatorsFull_eq k).trans (isFull.symm.trans fills))]
      at answered
    obtain ⟨line, address⟩ := DeviceAddr.mk.inj (State.device?_addr he)
    have marked : s.mismatched e = s.withEntry n a fun y =>
        { y with state := .faulted, fault := some ⟨.wrongKind, s.clock⟩, mismatch := true } := by
      rw [State.mismatched, State.device?_addr he, State.modDevice_eq]
    have count : (if s.owner? ⟨n, a⟩ = none then p.notAdded + 1 else p.notAdded)
        = p.notAdded + if s.owner? ⟨n, a⟩ = none then 1 else 0 := by split <;> rfl
    refine ⟨_, s.probeWrongKind e, rfl, fun down => ?_, fun up => ?_, ?_⟩
    · rw [State.probeWrongKind_faulted down, marked]
    · rw [State.probeWrongKind_tells up, State.device?_addr he, line, address, marked]
      exact State.ownerFault_spec _ _
    · rw [count]
      exact happens_event (exec_work rfl s) works answered
  · have answered := State.probe_answers_kind hr enrols flies probe here awaiting k
    have notFull : s.actuatorsFull n k = false := (State.actuatorsFull_eq k).trans (isFull.symm.trans room)
    rw [State.probeFound_new none, if_pos ⟨space, notFull⟩] at answered
    refine ⟨s.addDevice (Device.enrolled n a k), rfl, fun y => ?_, ?_, happens_event (exec_work rfl s) works answered⟩
    · exact (insertDevice_perm _ _).mem_iff.trans List.mem_cons
    · obtain ⟨now, stored, writing⟩ := admitted
      exact ⟨(State.addDevice_writes (w := ⟨False, False, False, False⟩) none space notFull).table now, stored, writing⟩
  · have answered := State.probe_answers_kind hr enrols flies probe here awaiting k
    have refuses : ¬ (s.devices.length < 64 ∧ s.actuatorsFull n k = false) := by
      rw [State.actuatorsFull_eq, ← isFull]
      rintro ⟨space, room⟩
      rcases h with full' | full'
      · omega
      · exact nomatch room.symm.trans full'
    rw [State.probeFound_new none, if_neg refuses] at answered
    exact happens_event (exec_work rfl s) works answered
  · have silent : s.replyTimeout n [] = _ := (State.replyTimeout_ends hr flies awaiting []).trans
      (State.probe_fails hr enrols probe here)
    rw [show s.probeOutcome n a (.failed _) = s.probeSilent n a from rfl, State.probeSilent_known he] at silent
    exact ⟨_, rfl, happens_event (exec_work rfl s) works silent⟩
  · have silent : s.replyTimeout n [] = _ := (State.replyTimeout_ends hr flies awaiting []).trans
      (State.probe_fails hr enrols probe here)
    rw [show s.probeOutcome n a (.failed _) = s.probeSilent n a from rfl, State.probeSilent_unknown none] at silent
    exact happens_event (exec_work rfl s) works silent
  · exact happens_event (exec_work rfl s) works ((State.replyTimeout_ends hr flies awaiting (b :: bs)).trans
      (State.probe_fails hr enrols probe here))
  · have ended := State.replyComplete_classed hr flies awaiting whole
    rw [probe, here, fails, State.probe_fails hr enrols probe here] at ended
    cases reason with
    | noReply => exact absurd rfl replied
    | garbled => exact happens_event (exec_work rfl s) works ended
    | wrongReply => exact happens_event (exec_work rfl s) works ended
    | wrongKind => exact happens_event (exec_work rfl s) works ended
  · have answered := State.probe_answers hr enrols flies probe here awaiting code
    rw [State.probeOutcome_unknown (by rw [natOf_one]; exact unknown)] at answered
    exact happens_event (exec_work rfl s) works answered

end Sys2Proof.Proofs
end

section
/-! PROOFS. The outcome of a poll or of a command: its success (O47) and its failure (O48). -/

namespace Sys2Proof.Machine

section
variable {s : State} {n : Nat} {r : Line}

/-! ## The end of a transaction (R137) -/

theorem State.endTransaction_eq (hr : s.line? n = some r) : s.endTransaction n = s.putLine n r.ended := by
  have ended : s.modLine n (fun r => { r with inFlight := none }) = s.putLine n r.ceased := State.modLine_some _ hr
  rw [State.endTransaction, ended, State.enterEnrolling, State.modLine_some _ (State.line?_putLine r.ceased hr),
    State.putLine_putLine]
  congr 1
  unfold Line.ended
  by_cases enrols : r.state = .active ∧ r.enrolment ≠ none
  · rw [if_pos enrols]
    exact if_pos (by simp [Line.ceased, enrols.1, Option.isSome_iff_ne_none, enrols.2])
  · rw [if_neg enrols]
    refine if_neg ?_
    simpa [Line.ceased, Option.isSome_iff_ne_none] using enrols

theorem State.clearHangs_endTransaction (hr : s.line? n = some r) :
    (s.clearHangs n).endTransaction n = s.putLine n { r with hangCount := 0 }.ended := by
  have cleared : s.clearHangs n = s.putLine n { r with hangCount := 0 } := State.modLine_some _ hr
  rw [cleared, State.endTransaction_eq (State.line?_putLine { r with hangCount := 0 } hr), State.putLine_putLine]

section
variable {x : Transaction} (asked : x.ask ≠ .ident)
include asked

theorem State.attemptEnds_ok (payload : List Byte) : s.attemptEnds n r x (.ok payload) = s.succeed n x payload :=
  if_neg (by simpa [Transaction.isProbe] using asked)

theorem State.attemptEnds_retries {reason : FaultReason} (left : x.retries < r.retryLimit) :
    s.attemptEnds n r x (.failed reason) = s.putLine n { r with
      inFlight := some { x with retries := x.retries + 1, lastReason := some reason, awaiting := false } } :=
  (if_neg (by simpa [Transaction.isProbe] using asked)).trans (if_pos left)

theorem State.attemptEnds_fails {reason : FaultReason} (spent : r.retryLimit ≤ x.retries) :
    s.attemptEnds n r x (.failed reason) = s.fail n x reason :=
  (if_neg (by simpa [Transaction.isProbe] using asked)).trans (if_neg (Nat.not_lt.2 spent))

end

/-! ## Owners and their devices (R119, R124) -/

/-- The owner of a device is read off the definitions. -/
theorem State.owner?_congr {t : State} (zones : t.zones = s.zones) (banks : t.banks = s.banks) (plants : t.plants = s.plants)
    (d : DeviceAddr) : t.owner? d = s.owner? d := by
  have zone (z : Nat) : t.zone? z = s.zone? z := State.zone?_congr zones z
  have bank (b : Nat) : t.bank? b = s.bank? b := by rw [State.bank?, banks, State.bank?]
  have plant (p : Nat) : t.plant? p = s.plant? p := by rw [State.plant?, plants, State.plant?]
  unfold State.owner?
  simp only [zone, bank, plant]

/-- The part after an entry has been written, its recovery announced where it was FAULTED. -/
def State.recovered (s : State) (n a : Nat) (e : Device) (f : Device → Device) : State :=
  (if e.state = .faulted then fun s => s.offer (.deviceRecovered n a) (.device n a) else id) (s.withEntry n a f)

theorem State.recovered_owner? (a : Nat) (e : Device) (f : Device → Device) (d : DeviceAddr) :
    (s.recovered n a e f).owner? d = s.owner? d := by
  unfold State.recovered
  split
  · exact (State.owner?_congr (State.offer_zones ..) (State.offer_banks ..) (State.offer_plants ..) d)
  · rfl

theorem State.deviceSuccess_eq {a : Nat} {e : Device} (he : s.device? ⟨n, a⟩ = some e) (upd : Device → Device) (value : Option Nat) :
    s.deviceSuccess e upd value
      = (s.recovered n a e fun y => upd { y with failures := 0, state := .active }).ownerSuccess value (s.owner? ⟨n, a⟩) := by
  obtain ⟨line, address⟩ := DeviceAddr.mk.inj (State.device?_addr he)
  have recovered : (if e.state == .faulted then (s.modDevice e.addr fun y => upd { y with failures := 0, state := .active }).offer
        (.deviceRecovered e.line e.address) (.device e.line e.address)
      else s.modDevice e.addr fun y => upd { y with failures := 0, state := .active })
      = s.recovered n a e fun y => upd { y with failures := 0, state := .active } := by
    unfold State.recovered
    rw [State.device?_addr he, line, address, State.modDevice_eq]
    by_cases down : e.state = .faulted
    · rw [if_pos down, if_pos (beq_iff_eq.2 down)]
    · rw [if_neg down, if_neg (mt beq_iff_eq.1 down)]
      rfl
  rw [State.deviceSuccess]
  rw [recovered, State.device?_addr he, State.recovered_owner?]

/-- A poll writes the reading, or else the value reported. -/
theorem Device.polled_eq (e : Device) (payload : List Byte) (clock now : Nat) : e.polled payload clock now = { e with
    reading := (readingOf e.kind payload clock now).or e.reading
    reported := if (readingOf e.kind payload clock now).isSome then e.reported else (reportOf e.kind payload).or e.reported } := by
  unfold Device.polled
  cases readingOf e.kind payload clock now <;> rfl

theorem Device.acknowledged_eq (e : Device) (v : Nat) :
    e.acknowledged v = { e with acked := if e.kind.isActuator then some v else e.acked } := by
  unfold Device.acknowledged
  split <;> rfl

theorem State.commandSucceeded_other {i : Issuer} {d : DeviceAddr} (v : Nat)
    (h : (∀ p, i ≠ .arbiter p) ∨ s.issuerNames i d = false) : s.commandSucceeded i d v = s := by
  unfold State.commandSucceeded
  split
  · next names =>
    cases i with
    | arbiter p =>
      rcases h with other | unnamed
      · exact absurd rfl (other p)
      · exact nomatch unnamed.symm.trans names
    | governor z => rfl
    | bank b => rfl
    | tracker z => rfl
  · rfl

theorem State.commandSucceeded_arbiter {p : Nat} {d : DeviceAddr} (v : Nat) (names : s.issuerNames (.arbiter p) d = true) :
    s.commandSucceeded (.arbiter p) d v = s.dutySucceeded p v := if_pos names

/-! ## A final failure (R123) -/

theorem DeviceState.afterFailure_eq (count : Nat) (state : DeviceState) : state.afterFailure count
    = if state = .faulted ∨ state = .absent then state else if count < 3 then .suspect else .faulted := by
  cases state <;> rfl

/-- The part as a final failure has been counted at an entry. -/
def State.counted (s : State) (n a : Nat) (reason : FaultReason) (count : Nat) (after : DeviceState) : State :=
  s.withEntry n a fun y => { y with failures := count, fault := some ⟨reason, s.clock⟩, state := after }

section
variable {a count : Nat} {after : DeviceState} {e : Device} (he : s.device? ⟨n, a⟩ = some e)
  (counts : count = min (e.failures + 1) 255)
  (becomes : after = if e.state = .faulted ∨ e.state = .absent then e.state else if count < 3 then .suspect else .faulted)
include he counts becomes

theorem State.deviceFailure_eq (reason : FaultReason) : s.deviceFailure e reason =
    if after = .faulted ∧ e.state ≠ .faulted then
      ((s.counted n a reason count after).offer (.deviceFault n a reason count) (.device n a)).ownerFault (s.owner? ⟨n, a⟩)
    else s.counted n a reason count after := by
  obtain ⟨line, address⟩ := DeviceAddr.mk.inj (State.device?_addr he)
  rw [← DeviceState.afterFailure_eq] at becomes
  subst becomes
  subst counts
  have tells : (e.state.afterFailure (min (e.failures + 1) 255) == .faulted && e.state != .faulted) = true ↔
      e.state.afterFailure (min (e.failures + 1) 255) = .faulted ∧ e.state ≠ .faulted := by simp
  rw [State.deviceFailure]
  rw [State.device?_addr he, line, address, State.modDevice_eq]
  by_cases h : e.state.afterFailure (min (e.failures + 1) 255) = .faulted ∧ e.state ≠ .faulted
  · rw [if_pos h]
    exact if_pos (tells.2 h)
  · rw [if_neg h]
    exact if_neg (mt tells.1 h)

end

/-- The attempt fails by a command for its line. -/
theorem AttemptFails.ends {c : Instr} {x : Transaction} {reason : FaultReason} (fails : AttemptFails c s n x reason)
    (works : s.running = true) (hr : s.line? n = some r) (flies : r.inFlight = some x) (awaiting : x.awaiting = true) {t : State}
    (ended : s.attemptEnds n r x (.failed reason) = t) : Happens c s t := by
  rcases fails with ⟨rfl, rfl⟩ | ⟨b, bs, rfl, rfl⟩ | ⟨bytes, packet, rfl, whole, classed⟩
  · exact happens_event (exec_work rfl s) works ((State.replyTimeout_ends hr flies awaiting []).trans ended)
  · exact happens_event (exec_work rfl s) works ((State.replyTimeout_ends hr flies awaiting (b :: bs)).trans ended)
  · refine happens_event (exec_work rfl s) works ((State.replyComplete_classed hr flies awaiting whole).trans ?_)
    rw [classed]
    exact ended

/-- Every state has the lines that any has. -/
theorem State.line?_of {t : State} (hr : s.line? n = some r) : ∃ l, t.line? n = some l := by
  obtain ⟨low, high⟩ := State.line?_valid hr
  exact t.line?_some low high

end

/-! ## Readings and reports (R120, R121, R133) -/

theorem wordOf_eq (high low : Byte) : natOf [high, low] = wordOf high low := by simp [natOf, wordOf]

theorem signedOf_eq (high low : Byte) : int16Of (wordOf high low) = signedOf high low := by
  unfold int16Of signedOf
  split <;> rfl

theorem bitSet_eq (f : Byte) (i : Nat) : bitSet (natOf [f]) i = f.getLsbD i := by
  rw [natOf_one, bitSet, BitVec.getLsbD, Nat.testBit_eq_decide_div_mod_eq]

theorem min_eq_ite (v limit : Nat) : min v limit = if v ≤ limit then v else limit := rfl

theorem reportOf_eq_some (kind : DeviceKind) (payload : List Byte) (v : Nat) : reportOf kind payload = some v ↔
    payload = [BitVec.ofNat 8 v] ∧ ∃ hi, kind.valueMax? = some hi ∧ v ≤ hi := by
  unfold reportOf
  split
  · next hi b max =>
    have range : hi < 256 := by cases kind <;> cases max <;> decide
    rw [max, List.cons.injEq, and_iff_left rfl]
    constructor
    · intro reported
      split at reported
      · next within =>
        cases reported
        exact ⟨by simp, hi, rfl, within⟩
      · cases reported
    · rintro ⟨rfl, hi', same, within⟩
      cases same
      have value : (BitVec.ofNat 8 v).toNat = v := by
        rw [BitVec.toNat_ofNat]
        omega
      rw [value, if_pos within]
  · next other =>
    refine ⟨nofun, ?_⟩
    rintro ⟨rfl, hi, max, -⟩
    exact absurd rfl (other hi _ max)

end Sys2Proof.Machine

namespace Sys2Proof.Proofs

open Sys2Proof Sys2Proof.Machine

/-- Settles O48: the retry is `State.attemptEnds_retries`, the final failure `State.deviceFailure_eq` and the issuer's
`State.commandFailed_spec`. -/
theorem attemptTimesOut : Obligations.AttemptTimesOut := by
  intro s n r x c reason works hr flies awaiting asked fails
  refine ⟨fun left => fails.ends works hr flies awaiting (State.attemptEnds_retries asked left), fun spent => ⟨fun none => ?_,
    fun e count after he counts becomes => ?_⟩⟩
  · refine fails.ends works hr flies awaiting ((State.attemptEnds_fails asked spent).trans ?_)
    rw [State.fail, none]
    exact State.endTransaction_eq hr
  · have counted := State.deviceFailure_eq he counts becomes reason
    obtain ⟨l1, hl1⟩ := State.line?_of (t := s.deviceFailure e reason) hr
    have concluded {u : State} (failed : s.fail n x reason = u.endTransaction n) {l : Line} (hl : u.line? n = some l) :
        Happens c s (u.putLine n l.ended) :=
      fails.ends works hr flies awaiting
        ((State.attemptEnds_fails asked spent).trans (failed.trans (State.endTransaction_eq hl)))
    have kept : (e.state = .faulted ∨ after ≠ .faulted) → s.deviceFailure e reason = s.counted n x.address reason count after :=
      fun h => counted.trans (if_neg fun ⟨down, up⟩ => h.elim up fun alive => alive down)
    have told : e.state ≠ .faulted → after = .faulted → OwnerFaults ((s.counted n x.address reason count after).offer
        (.deviceFault n x.address reason count) (.device n x.address)) (s.deviceFailure e reason) (s.owner? ⟨n, x.address⟩) := by
      intro up down
      rw [counted, if_pos ⟨down, up⟩]
      exact State.ownerFault_spec _ _
    cases ask : x.ask with
    | ident => exact absurd ask asked
    | poll =>
      have failed : s.fail n x reason = (s.deviceFailure e reason).endTransaction n := by
        rw [State.fail, he]
        dsimp only
        rw [ask]
      exact ⟨_, _, _, l1, rfl, kept, told, fun _ => rfl, fun v i => nofun, hl1, concluded failed hl1⟩
    | set v i =>
      have failed : s.fail n x reason = ((s.deviceFailure e reason).commandFailed i ⟨n, x.address⟩).endTransaction n := by
        rw [State.fail, he]
        dsimp only
        rw [ask]
      obtain ⟨l2, hl2⟩ := State.line?_of (t := (s.deviceFailure e reason).commandFailed i ⟨n, x.address⟩) hr
      refine ⟨_, _, _, l2, rfl, kept, told, nofun, fun v' i' same => ?_, hl2, concluded failed hl2⟩
      cases same
      exact State.commandFailed_spec _ _ _

/-- Settles O47: the entry is written by `State.deviceSuccess_eq`, the owner told by `State.ownerSuccess_spec` and the plant that
issued a command by `State.dutySucceeded_spec`; a reading is taken byte by byte. -/
theorem pollSucceeds : Obligations.PollSucceeds := by
  refine ⟨fun s n a r x payload c works hr flies here awaiting _ short asked suits is => ⟨fun none => ?_, fun e he =>
      ⟨fun poll => ?_, fun v i set => ?_⟩⟩,
    fun i0 i1 u0 u1 h0 h1 t0 t1 f clock arrived lux uv rh temp hlux huv hrh htemp => ?_,
    fun kind payload clock arrived => ?_, fun kind payload v => ?_⟩
  · subst is
    subst here
    refine happens_event (exec_work rfl s) works ?_
    rw [State.replyComplete_ok hr flies awaiting short suits, State.attemptEnds_ok asked, State.succeed, none]
    exact State.clearHangs_endTransaction hr
  · subst is
    subst here
    have done : s.replyComplete n (replyPacket x.address x.ask.replyKind payload)
        = ((s.deviceSuccess e (fun y => y.polled payload s.clock s.now) (reportOf e.kind payload)).clearHangs n).endTransaction n := by
      rw [State.replyComplete_ok hr flies awaiting short suits, State.attemptEnds_ok asked, State.succeed, he]
      dsimp only
      rw [poll]
    obtain ⟨l, hl⟩ := State.line?_of (t := s.deviceSuccess e (fun y => y.polled payload s.clock s.now) (reportOf e.kind payload)) hr
    refine ⟨s.recovered n x.address e fun y => Device.polled { y with failures := 0, state := .active } payload s.clock s.now, _, l,
      ?_, ?_, hl, happens_event (exec_work rfl s) works (done.trans (State.clearHangs_endTransaction hl))⟩
    · unfold State.recovered
      simp only [Device.polled_eq]
    · rw [State.deviceSuccess_eq he]
      exact State.ownerSuccess_spec _ _ _
  · subst is
    subst here
    have done : s.replyComplete n (replyPacket x.address x.ask.replyKind payload)
        = (((s.deviceSuccess e (fun y => y.acknowledged v) (some v)).commandSucceeded i ⟨n, x.address⟩ v).clearHangs n).endTransaction
          n := by
      rw [State.replyComplete_ok hr flies awaiting short suits, State.attemptEnds_ok asked, State.succeed, he]
      dsimp only
      rw [set]
    obtain ⟨l, hl⟩ := State.line?_of
      (t := (s.deviceSuccess e (fun y => y.acknowledged v) (some v)).commandSucceeded i ⟨n, x.address⟩ v) hr
    refine ⟨s.recovered n x.address e fun y => Device.acknowledged { y with failures := 0, state := .active } v, _, _, l, ?_, ?_,
      State.commandSucceeded_other v, fun p duty arbiter value names => ?_, hl,
      happens_event (exec_work rfl s) works (done.trans (State.clearHangs_endTransaction hl))⟩
    · unfold State.recovered
      simp only [Device.acknowledged_eq]
    · rw [State.deviceSuccess_eq he]
      exact State.ownerSuccess_spec _ _ _
    · subst arbiter
      subst value
      rw [State.commandSucceeded_arbiter _ names]
      exact State.dutySucceeded_spec _ p duty
  · subst hlux huv hrh htemp
    have light : luxOf (wordOf i0 i1) (natOf [f]) = ⟨wordOf i0 i1, !f.getLsbD 0⟩ := by rw [luxOf, bitSet_eq]
    have uv : uvOf (wordOf u0 u1) (natOf [f])
        = ⟨(if wordOf u0 u1 ≤ 5000 then wordOf u0 u1 else 5000 : Nat), !f.getLsbD 1⟩ := by rw [uvOf, bitSet_eq, min_eq_ite]
    have rh : rhOf (wordOf h0 h1) (natOf [f])
        = ⟨(if wordOf h0 h1 ≤ 1000 then wordOf h0 h1 else 1000 : Nat), !f.getLsbD 2⟩ := by rw [rhOf, bitSet_eq, min_eq_ite]
    have temp : tempOf (wordOf t0 t1) (natOf [f]) = ⟨signedOf t0 t1,
        !f.getLsbD 3 && decide (-400 ≤ signedOf t0 t1 ∧ signedOf t0 t1 ≤ 850)⟩ := by
      rw [tempOf, signedOf_eq, bitSet_eq, Bool.decide_and, Bool.and_assoc]
    rw [← light, ← uv, ← rh, ← temp, ← wordOf_eq, ← wordOf_eq, ← wordOf_eq, ← wordOf_eq]
    exact ⟨rfl, rfl, rfl⟩
  · rw [← Option.isSome_iff_ne_none, readingOf_isSome]
    cases kind <;> simp [DeviceKind.isActuator, DeviceKind.readingSize]
  · rw [reportOf_eq_some]
    cases kind <;> simp [DeviceKind.valueMax?]

end Sys2Proof.Proofs
end

section
/-! PROOFS. Hangs of a line, their recovery, the third one (O49, O50), and the retirement of an entry (O52). -/

namespace Sys2Proof.Machine

section
variable {s : State} {n : Nat} {r : Line}

/-! ## A hang (R143, R144) -/

theorem State.modLine_putLine {q : Line} (hr : s.line? n = some r) (f : Line → Line) :
    (s.putLine n q).modLine n f = s.putLine n (f q) := by
  rw [State.modLine_some f (State.line?_putLine q hr), State.putLine_putLine]

/-- An offer keeps the lines. -/
theorem State.line?_offer (b : NoticeBody) (x : Subject) (k : Nat) : (s.offer b x).line? k = s.line? k := by
  rw [State.line?, State.offer_lines, State.line?]

/-- Enrolment progress abandoned once its line has been written and a notice offered. -/
theorem State.abandonEnrolment_offered {q : Line} {e : Enrolment} (hr : s.line? n = some r) (enrols : q.enrolment = some e)
    (b : NoticeBody) (x : Subject) : ((s.putLine n q).offer b x).abandonEnrolment n
      = ((s.putLine n { q with enrolment := none }).offer b x).offer
        (.enrolDone false e.found e.added e.absent e.notAdded) (.line n) := by
  have line : ((s.putLine n q).offer b x).line? n = some q := (State.line?_offer b x n).trans (State.line?_putLine q hr)
  have named : (((s.putLine n q).offer b x).line? n).bind (·.enrolment) = some e := by
    rw [line]
    exact enrols
  rw [State.abandonEnrolment, named]
  dsimp only
  rw [State.modLine_some _ line, ← State.putLine_offer, State.putLine_putLine]

theorem State.abandonEnrolment_none {q : Line} (hq : s.line? n = some q) (unenrolled : q.enrolment = none) :
    s.abandonEnrolment n = s := by
  have named : (s.line? n).bind (·.enrolment) = none := by
    rw [hq]
    exact unenrolled
  rw [State.abandonEnrolment, named]

theorem State.hangDetected_first (hr : s.line? n = some r) (armed : r.state = .active ∨ r.state = .enrolling)
    (few : r.hangCount < 2) : s.hangDetected n = s.hang n r := by
  rw [State.hangDetected, hr]
  exact (if_pos (by simpa using armed)).trans (if_pos few)

theorem State.hangDetected_third (hr : s.line? n = some r) (armed : r.state = .active ∨ r.state = .enrolling)
    (third : r.hangCount = 2) : s.hangDetected n = s.disableLine n r := by
  rw [State.hangDetected, hr]
  exact (if_pos (by simpa using armed)).trans (if_neg (by omega))

theorem State.hangDetected_unarmed (hr : s.line? n = some r) (active : r.state ≠ .active) (enrolling : r.state ≠ .enrolling) :
    s.hangDetected n = s := by
  rw [State.hangDetected, hr]
  exact if_neg (by simp [active, enrolling])

/-- The line as a first or second hang leaves it, its enrolment not yet ended. -/
def Line.hung (r : Line) : Line :=
  { r with inFlight := keepAtHang r.inFlight, releasing := true, state := .recovering, hangCount := r.hangCount + 1, recoveryDue := none }

theorem State.hang_eq : s.hang n r = ((s.putLine n r.hung).offer
    (.lineHung (r.hangCount + 1) (r.inFlight.map fun x => (x.address, x.ask.packetKind))) (.line n)).abandonEnrolment n := rfl

theorem State.releaseEnd_recovering (hr : s.line? n = some r) (recovering : r.state = .recovering) (releasing : r.releasing = true) :
    s.releaseEnd n = s.putLine n { r with releasing := false, recoveryDue := some (s.now + 2) } := by
  rw [State.releaseEnd, State.modLine_some _ hr, if_pos releasing, recovering]
  rfl

theorem State.recoveryWaitExpiry_due {due : Nat} (hr : s.line? n = some r) (recovering : r.state = .recovering)
    (timer : r.recoveryDue = some due) (past : due ≤ s.now) : s.recoveryWaitExpiry n
      = (s.putLine n { r with state := .active, recoveryDue := none }).startRoundIfDue n := by
  rw [State.recoveryWaitExpiry, hr]
  exact if_pos (by simp [recovering, State.expired, timer, State.reached, past])

/-! ## The third hang (R146) -/

/-- In LEVEL mode the line follows the conditions that stand after it has been set. -/
theorem State.followAlarm_alarm_level {u : State} (level : u.report.mode = .level) :
    u.followAlarm.alarm = u.followAlarm.alarmCondition := by
  have same : u.followAlarm.alarmCondition = u.alarmCondition := by
    rw [State.followAlarm_frame]
    rfl
  rw [same, State.followAlarm_level level]

/-- The line as the third hang in a row leaves it. -/
def Line.disabled (r : Line) : Line :=
  { r with
    state := .disabled, hangCount := 3, queue := [], inFlight := none, enrolment := none, roundInProgress := false
    roundDue := none, recoveryDue := none, releasing := true }

/-- The part as the line is disabled, with LINE HUNG, ENROL DONE where an enrolment ends, and LINE DISABLED. -/
def State.lineLost (s : State) (n : Nat) (r : Line) : State :=
  let hung := (s.putLine n r.disabled).followAlarm.offer
    (.lineHung 3 (r.inFlight.map fun x => (x.address, x.ask.packetKind))) (.line n)
  (match r.enrolment with
    | some e => hung.offer (.enrolDone false e.found e.added e.absent e.notAdded) (.line n)
    | none => hung).offer .lineDisabled (.line n)

/-- Commands returned to their issuers as failures, one after another. -/
def State.returned (s : State) (n : Nat) (cs : List Command) : State :=
  cs.foldl (fun s c => s.commandFailed c.issuer ⟨n, c.address⟩) s

/-- The line disabled, its enrolment not yet ended. -/
def Line.losing (r : Line) : Line := { r.disabled with enrolment := r.enrolment }

theorem State.lineLost_eq (hr : s.line? n = some r) : (((s.putLine n r.losing).followAlarm.offer
      (.lineHung 3 (r.inFlight.map fun x => (x.address, x.ask.packetKind))) (.line n)).abandonEnrolment n).offer
    .lineDisabled (.line n) = s.lineLost n r := by
  have line : (s.putLine n r.disabled).followAlarm.line? n = some r.disabled := by
    rw [State.line?, State.followAlarm_lines]
    exact State.line?_putLine r.disabled hr
  have followed : (s.putLine n r.losing).followAlarm = (s.putLine n r.disabled).followAlarm.putLine n r.losing := by
    have same := State.putLine_followAlarm (q := r.losing) (State.line?_putLine r.disabled hr) rfl
    rwa [State.putLine_putLine] at same
  unfold State.lineLost
  dsimp only
  congr 1
  cases enrols : r.enrolment with
  | some e =>
    have ended : ({ r.losing with enrolment := none } : Line) = r.disabled := rfl
    rw [followed, State.abandonEnrolment_offered (q := r.losing) line enrols, ended, State.putLine_same line]
  | none =>
    have ended : r.losing = r.disabled := by
      rw [Line.losing, enrols]
      rfl
    rw [ended, State.abandonEnrolment_none ((State.line?_offer _ _ _).trans line) rfl]

theorem State.disableLine_eq (hr : s.line? n = some r) : s.disableLine n r =
    if r.discarded = [] then (s.lineLost n r).returned n r.discarded
    else ((s.lineLost n r).returned n r.discarded).offer (.commandsDiscarded r.discarded.length) (.line n) := by
  have lost : s.disableLine n r = if r.discarded.isEmpty then (s.lineLost n r).returned n r.discarded
      else ((s.lineLost n r).returned n r.discarded).offer (.commandsDiscarded r.discarded.length) (.line n) := by
    rw [← State.lineLost_eq hr]
    rfl
  rw [lost]
  simp only [List.isEmpty_iff]

/-- What has been offered as the line was lost leaves the records. -/
theorem State.lineLost_keeps : (s.lineLost n r).lines = (s.putLine n r.disabled).lines ∧ (s.lineLost n r).zones = s.zones
    ∧ (s.lineLost n r).devices = s.devices ∧ BlocksOnly s (s.lineLost n r) := by
  have followed : BlocksOnly s (s.putLine n r.disabled).followAlarm := (State.putLine_blocks _ _ _).trans (State.followAlarm_blocks _)
  unfold State.lineLost
  dsimp only
  cases r.enrolment with
  | some e =>
    refine ⟨by simp, by simp, by simp, ?_⟩
    exact ((followed.trans (State.offer_blocks ..)).trans (State.offer_blocks ..)).trans (State.offer_blocks ..)
  | none =>
    refine ⟨by simp, by simp, by simp, ?_⟩
    exact (followed.trans (State.offer_blocks ..)).trans (State.offer_blocks ..)

theorem State.returned_spec (cs : List Command) : FailuresReturned n cs s (s.returned n cs) := by
  induction cs generalizing s with
  | nil => rfl
  | cons c cs ih => exact ⟨_, State.commandFailed_spec s c.issuer ⟨n, c.address⟩, ih⟩

theorem State.returned_setup (cs : List Command) : SameSetup s (s.returned n cs) := by
  induction cs generalizing s with
  | nil => exact .refl s
  | cons c cs ih => exact (State.commandFailed_setup c.issuer ⟨n, c.address⟩).trans ih

theorem State.returned_lines (cs : List Command) : (s.returned n cs).lines = s.lines := by
  induction cs generalizing s with
  | nil => rfl
  | cons c cs ih => exact ih.trans (State.commandFailed_lines s c.issuer ⟨n, c.address⟩)

theorem State.returned_blocks (cs : List Command) : BlocksOnly s (s.returned n cs) :=
  BlocksOnly.foldl _ (fun s (c : Command) => State.commandFailed_blocks s c.issuer ⟨n, c.address⟩) cs s

/-- A governor whose dimmer command is returned owes a refresh, whatever is returned after it. -/
theorem State.returned_owes {c : Command} {cs : List Command} {k : Nat} {x : Zone} (hc : c ∈ cs) (issuer : c.issuer = .governor k)
    (hx : s.zone? k = some x) (dimmer : x.defn.dimmer = some ⟨n, c.address⟩) :
    ∃ x', (s.returned n cs).zone? k = some x' ∧ x'.light.refreshOwed = true := by
  induction cs generalizing s x with
  | nil => cases hc
  | cons b cs ih =>
    obtain ⟨x1, hx1, touched⟩ := ((State.commandFailed_setup (s := s) b.issuer ⟨n, b.address⟩).zones k).2 x hx
    rcases List.mem_cons.1 hc with rfl | later
    · have named : s.issuerNames (.governor k) ⟨n, c.address⟩ = true := by simp [State.issuerNames, hx, dimmer]
      have failed : s.commandFailed c.issuer ⟨n, c.address⟩
          = s.putZone k { x with light := { x.light with refreshOwed := true } } := by
        rw [issuer]
        exact (State.commandFailed_spec s (.governor k) ⟨n, c.address⟩).2 named x hx
      have owed : x1.light.refreshOwed = true := by
        rw [failed, State.zone?_putZone _ hx] at hx1
        cases hx1
        rfl
      obtain ⟨x2, hx2, still⟩ := ((State.returned_setup (s := s.commandFailed c.issuer ⟨n, c.address⟩) (n := n) cs).zones k).2 x1 hx1
      exact ⟨x2, hx2, still.owed owed⟩
    · refine ih later hx1 ?_
      rw [touched.record]
      exact dimmer

/-! ## Retiring an entry (R130) -/

theorem State.retire_eq {d : DeviceAddr} (hr : s.line? d.line = some r) : s.retire d = { s with
    devices := s.devices.filter fun e => decide ¬ (e.line = d.line ∧ e.address = d.address)
    lines := slotSet s.lines d.line { r with queue := r.queue.filter fun c => decide (c.address ≠ d.address) } } := by
  have devices : (fun e : Device => !e.at d) = fun e => decide ¬ (e.line = d.line ∧ e.address = d.address) := by
    funext e
    rw [Device.at, Bool.eq_iff_iff]
    simp only [Bool.not_eq_true', Bool.and_eq_false_iff, beq_eq_false_iff_ne, decide_eq_true_eq, not_and_or, ne_eq]
  have queue : (fun c : Command => c.address != d.address) = fun c => decide (c.address ≠ d.address) := by
    funext c
    rw [Bool.eq_iff_iff, bne_iff_ne, decide_eq_true_eq]
  have line : (s.removeDevice d).line? d.line = some r := hr
  rw [State.retire, State.modLine_some _ line, State.removeDevice, devices, queue]
  rfl

/-- The configuration without an entry is another. -/
theorem State.retire_configuration {d : DeviceAddr} (hr : s.line? d.line = some r) (known : s.device? d ≠ none) :
    (s.retire d).configuration ≠ s.configuration := by
  intro same
  obtain ⟨e, he⟩ := Option.ne_none_iff_exists'.1 known
  have count := congrArg (fun c : Configuration => c.devices.length) same
  have removed : (s.retire d).devices = s.devices.filter fun e => !e.at d := by
    rw [State.retire, State.modLine_some _ (show (s.removeDevice d).line? d.line = some r from hr)]
    rfl
  have fewer : (s.devices.filter fun e => !e.at d).length < s.devices.length :=
    List.length_filter_lt_length_iff_exists.2 ⟨e, List.mem_of_find?_eq_some he, by simpa using List.find?_some he⟩
  have lengths (u : State) : u.configuration.devices.length = u.devices.length := List.length_map _
  rw [lengths, lengths, removed] at count
  omega

end

end Sys2Proof.Machine

namespace Sys2Proof.Proofs

open Sys2Proof Sys2Proof.Machine

/-- Settles O49: a hang is `State.hang_eq`, with its enrolment ended by `State.abandonEnrolment_offered`. -/
theorem hangsAreRecovered : Obligations.HangsAreRecovered := by
  intro s n r works hr
  refine ⟨fun armed few => ⟨_, rfl, fun unenrolled => ?_, fun e enrols => ?_⟩, fun active enrolling => ?_,
    fun recovering releasing => ?_, fun due recovering timer past => ⟨fun busy => ?_, fun idle none unenrolled => ?_⟩⟩
  · refine happens_event (exec_work rfl s) works ?_
    rw [State.hangDetected_first hr armed few, State.hang_eq,
      State.abandonEnrolment_none ((State.line?_offer _ _ _).trans (State.line?_putLine r.hung hr)) unenrolled]
    refine congrArg (fun q => (s.putLine n q).offer _ _) ?_
    rw [Line.hung, unenrolled]
    cases r.inFlight with
    | none => rfl
    | some x =>
      obtain ⟨ask, address, retries, reason, awaiting⟩ := x
      cases ask <;> rfl
  · refine happens_event (exec_work rfl s) works ?_
    rw [State.hangDetected_first hr armed few, State.hang_eq, State.abandonEnrolment_offered (q := r.hung) hr (by exact enrols)]
    refine congrArg (fun q => ((s.putLine n q).offer _ _).offer _ _) ?_
    rw [Line.hung]
    cases r.inFlight with
    | none => rfl
    | some x =>
      obtain ⟨ask, address, retries, reason, awaiting⟩ := x
      cases ask <;> rfl
  · exact happens_event (exec_work rfl s) works (State.hangDetected_unarmed hr active enrolling)
  · exact happens_event (exec_work rfl s) works (State.releaseEnd_recovering hr recovering releasing)
  · refine happens_event (exec_work rfl s) works ((State.recoveryWaitExpiry_due hr recovering timer past).trans ?_)
    refine State.putLine_startRoundIfDue_none hr ?_
    rcases busy with h | h | h
    · exact .inr (.inr (.inl h))
    · exact .inr (.inr (.inr h))
    · exact .inr (.inl h)
  · exact happens_event (exec_work rfl s) works ((State.recoveryWaitExpiry_due hr recovering timer past).trans
      (State.putLine_startRoundIfDue hr rfl (by exact unenrolled) (by exact idle) (by exact none)))

/-- Settles O52: the entry leaves the table and its command the queue, as `State.retire_eq` says. -/
theorem deviceRetireRemoves : Obligations.DeviceRetireRemoves := by
  have read (tag n a : Byte) (s : State) : answerTo ⟨tag, 0x1C, [n, a]⟩ s = answerDeviceRetire ⟨n.toNat, a.toNat⟩ s := by
    rw [answerTo_deviceRetire, withBody_some (readBody_device n a)]
  refine ⟨fun s tag n a line address taken => ?_, fun s tag n a outside taken => ?_⟩
  · have inRange : (⟨n.toNat, a.toNat⟩ : DeviceAddr).inRange = true := by rw [DeviceAddr.inRange, line, address]; rfl
    refine ⟨fun unknown => taken.refused rfl ?_, fun known owned => taken.refused rfl ?_, fun r known unowned hr => ?_⟩
    · rw [read, answerDeviceRetire, inRange]
      simp [unknown]
    · rw [read, answerDeviceRetire, inRange]
      simp [known, Option.isSome_iff_ne_none, owned]
    · have work : answerTo ⟨tag, 0x1C, [n, a]⟩ s
          = .reply .done [] ((s.retire ⟨n.toNat, a.toNat⟩).noteConfiguration s) := by
        rw [read, answerDeviceRetire, inRange]
        simp [known, unowned]
      rw [State.noteConfiguration_changed (State.retire_configuration hr known), State.retire_eq hr] at work
      exact taken.answered rfl work
  · have invalid : (⟨n.toNat, a.toNat⟩ : DeviceAddr).inRange = false := by
      rw [Bool.eq_false_iff, Ne, DeviceAddr.inRange_iff]
      dsimp only
      omega
    refine taken.refused rfl ?_
    rw [read, answerDeviceRetire, invalid]
    rfl

/-- Settles O50: the line is lost by `State.lineLost`, its commands are returned one after another, and no issuer touches the
lines or the device table. -/
theorem thirdHangDisables : Obligations.ThirdHangDisables := by
  intro s n r works hr armed third
  have lost := State.disableLine_eq hr
  obtain ⟨lines, zones, devices, blocks⟩ := State.lineLost_keeps (s := s) (n := n) (r := r)
  have setup := State.returned_setup (s := s.lineLost n r) (n := n) r.discarded
  have returned := (State.returned_lines (s := s.lineLost n r) (n := n) r.discarded).trans lines
  have after : BlocksOnly s ((s.lineLost n r).returned n r.discarded) := blocks.trans (State.returned_blocks _)
  have told : Happens (.hangDetected n) s (s.disableLine n r) :=
    happens_event (exec_work rfl s) works (State.hangDetected_third hr armed third)
  have kept : (s.disableLine n r).lines = (s.putLine n r.disabled).lines ∧ (s.disableLine n r).devices = s.devices
      ∧ BlocksOnly s (s.disableLine n r) ∧ (s.disableLine n r).zones = ((s.lineLost n r).returned n r.discarded).zones := by
    rw [lost]
    split
    · exact ⟨returned, setup.devices.trans devices, after, rfl⟩
    · exact ⟨(State.offer_lines ..).trans returned, (State.offer_devices ..).trans (setup.devices.trans devices),
        after.trans (State.offer_blocks ..), State.offer_zones ..⟩
  obtain ⟨sameLines, sameDevices, sameBlocks, sameZones⟩ := kept
  refine ⟨_, (s.putLine n r.disabled).followAlarm, s.lineLost n r, _, r.disabled, r.discarded, told, ?_, rfl, ?_, fun level => ?_,
    fun pulse => ?_, fun unenrolled => ?_, fun e enrols => ?_, fun v i a k f w flies => ?_, fun other => ?_,
    State.returned_spec _, fun none => ?_, fun some => ?_, sameDevices, fun k hk => ?_, sameBlocks.clock, sameBlocks.store,
    fun v k d x queued line hx dimmer => ?_⟩
  · exact (State.line?_congr sameLines n).trans (State.line?_putLine r.disabled hr)
  · exact State.followAlarm_frame _
  · exact State.followAlarm_alarm_level level
  · rw [State.followAlarm_pulse (by exact pulse)]
    rfl
  · rw [State.lineLost, unenrolled]
  · rw [State.lineLost, enrols]
  · rw [Line.discarded, flies]
    rfl
  · unfold Line.discarded
    cases flies : r.inFlight with
    | none => rfl
    | some x =>
      cases ask : x.ask with
      | set v i => exact absurd ask (other x v i flies)
      | poll => simp [ask]
      | ident => simp [ask]
  · rw [lost, if_pos none]
  · rw [lost, if_neg some]
  · rw [State.line?_congr sameLines]
    exact State.line?_putLine_ne s r.disabled hk
  · have hc : (⟨d.address, v, .governor k⟩ : Command) ∈ r.discarded := List.mem_append_right _ queued
    have hx' : (s.lineLost n r).zone? k = Option.some x := (State.zone?_congr zones k).trans hx
    obtain ⟨x', hx1, owed⟩ := State.returned_owes (n := n) hc rfl hx' (by rw [dimmer, ← line])
    exact ⟨x', (State.zone?_congr sameZones k).trans hx1, owed⟩

end Sys2Proof.Proofs
end

section
/-! PROOFS. REPORT SET and the end of an alarm pulse (O55); how a checkpoint begins and how a record write ends (O58, O59). -/

namespace Sys2Proof.Machine

/-! ## REPORT SET (R154, R157) -/

section
variable {s : State} {q : ReportSettings}

theorem State.setReport_report : (s.setReport q).report = q := by
  unfold State.setReport
  dsimp only
  split <;> first | rfl | rw [State.followAlarm_report]

theorem State.setReport_notices : (s.setReport q).notices
    = if s.report.floor < q.floor then s.notices.filter fun n => q.floor ≤ n.level else s.notices := by
  unfold State.setReport
  dsimp only
  split <;> first | rfl | rw [State.followAlarm_notices]

theorem State.setReport_follows (level : q.mode = .level) : (s.setReport q).alarm = (s.setReport q).alarmCondition := by
  unfold State.setReport
  cases old : s.report.mode <;> simp only [level] <;> exact State.followAlarm_follows level

theorem State.setReport_releases (old : s.report.mode = .level) (pulse : q.mode = .pulse) :
    (s.setReport q).alarm = false ∧ (s.setReport q).pulsing = false := by
  simp [State.setReport, old, pulse]

theorem State.setReport_unpulsed (old : s.report.mode = .pulse) (level : q.mode = .level) : (s.setReport q).pulsing = false := by
  simp [State.setReport, old, level]

theorem State.setReport_keeps (old : s.report.mode = .pulse) (pulse : q.mode = .pulse) :
    (s.setReport q).alarm = s.alarm ∧ (s.setReport q).pulsing = s.pulsing := by
  simp [State.setReport, old, pulse]

theorem State.setReport_configuration : (s.setReport q).configuration = { s.configuration with report := q } := by
  rw [State.setReport_frame, State.setReport_report]
  rfl

/-- Only the settings of the part's report can change its configuration in REPORT SET. -/
theorem State.setReport_noted : (s.setReport q).noteConfiguration s
    = { s.setReport q with configChanged := s.configChanged || decide (s.report ≠ q) } := by
  have changed : (s.setReport q).configuration ≠ s.configuration ↔ s.report ≠ q := by
    rw [State.setReport_configuration]
    refine not_congr ⟨fun same => (congrArg Configuration.report same).symm, fun same => ?_⟩
    rw [← same]
    rfl
  have flag : (s.setReport q).configChanged = s.configChanged := by rw [State.setReport_frame]
  rw [State.noteConfiguration, decide_eq_decide.2 changed, flag]

end

theorem answerReportSet_range {s : State} {floor level mode : Nat} (outside : 7 < floor ∨ level < 1 ∨ 7 < level ∨ 1 < mode) :
    answerReportSet (floor, level, mode) s = .refuse .range := by
  unfold answerReportSet
  cases known : AlarmMode.ofCode? mode with
  | none => rfl
  | some m =>
    have code : mode ≤ 1 := by
      unfold AlarmMode.ofCode? at known
      split at known <;> simp_all
    have bad : (inRange 0 7 floor && inRange 1 7 level) = false := by
      simp only [inRange, Bool.and_eq_false_iff, decide_eq_false_iff_not]
      omega
    simp [bad]

theorem answerReportSet_ok {s : State} {floor level : Nat} {mode : AlarmMode} (h1 : floor ≤ 7) (h2 : 1 ≤ level) (h3 : level ≤ 7) :
    answerReportSet (floor, level, mode.code) s = .reply .done
      (ReportSettings.bytes ⟨floor, level, mode⟩ ++ be 1 (s.notices.length - (s.setReport ⟨floor, level, mode⟩).notices.length)
        ++ flag (s.setReport ⟨floor, level, mode⟩).alarm) ((s.setReport ⟨floor, level, mode⟩).noteConfiguration s) := by
  have good : (inRange 0 7 floor && inRange 1 7 level) = true := by simp [inRange, h1, h2, h3]
  simp [answerReportSet, good, State.setReport_report]

/-! ## The records of a checkpoint (R169, R170) -/

section
variable {s t : State}

/-- What an offer does is beside the store, the checkpoint and the RESTART. -/
theorem State.offer_retention (store : Store) (changed : Bool) (c : Option Checkpoint) (q : Option Restart) (b : NoticeBody)
    (x : Subject) :
    ({ s with store := store, configChanged := changed, checkpoint := c, restarting := q } : State).offer b x
      = { s.offer b x with store := store, configChanged := changed, checkpoint := c, restarting := q } := by
  have pulse : ({ s with store := store, configChanged := changed, checkpoint := c, restarting := q } : State).pulseFor b.level
      = { s.pulseFor b.level with store := store, configChanged := changed, checkpoint := c, restarting := q } := by
    unfold State.pulseFor
    dsimp only
    cases s.report.mode with
    | level => rfl
    | pulse =>
      dsimp only
      by_cases reaches : s.report.alarmLevel ≤ b.level
      · rw [if_pos reaches, if_pos reaches]
      · rw [if_neg reaches, if_neg reaches]
  unfold State.offer
  dsimp only
  rw [pulse]
  split <;> rfl

theorem State.offer_written (store : Store) (changed : Bool) (c : Option Checkpoint) (b : NoticeBody) (x : Subject) :
    ({ s with store := store, configChanged := changed, checkpoint := c } : State).offer b x
      = { s.offer b x with store := store, configChanged := changed, checkpoint := c } := by
  rw [State.offer_retention (s := s) store changed c s.restarting b x, ← (State.offer_blocks s b x).restarting]

/-- A checkpoint that finds nothing in flight begins with the record that is due, or is complete at once. -/
theorem State.beginCheckpoint_busy {c : Checkpoint} (flies : s.checkpoint = some c) : s.beginCheckpoint = s := by
  simp [State.beginCheckpoint, flies]

theorem State.beginCheckpoint_config (idle : s.checkpoint = none) (changed : s.configChanged = true) :
    s.beginCheckpoint = s.beginConfigWrite false := by
  simp [State.beginCheckpoint, idle, changed]

theorem State.beginCheckpoint_unchanged (idle : s.checkpoint = none) (unchanged : s.configChanged = false) :
    s.beginCheckpoint = s.continueCheckpoint 0 false 0 0 := by
  simp [State.beginCheckpoint, idle, unchanged]

theorem State.beginCheckpoint_account {z : Nat} {r : Zone} (idle : s.checkpoint = none) (unchanged : s.configChanged = false)
    (hr : s.zone? z = some r) (least : ∀ k, k < z → s.zone? k = none) :
    s.beginCheckpoint = { s with checkpoint := some ⟨false, .account z r.accountRecord, 0, 0⟩ } := by
  exact (State.beginCheckpoint_unchanged idle unchanged).trans <| State.continueCheckpoint_next (State.nextDefined_eq s 0 z r hr (State.zone?_valid hr).1 fun k _ before => least k before)

/-- The end of a checkpoint for which no RESTART waits is the STORE DONE notice. -/
theorem State.completeCheckpoint_alone {written failed : Nat} (alone : ∀ q, s.restarting = some q → q.checkpointWaits = false) :
    s.completeCheckpoint false written failed = { s with checkpoint := none }.offer (.storeDone written failed) .none := by
  rcases Option.eq_none_or_eq_some s.restarting with restarts | ⟨q, restarts⟩
  · exact State.completeCheckpoint_plain restarts
  · have still : ({ s with checkpoint := none }.offer (.storeDone written failed) .none).restarting = some q := by
      rw [State.offer_frame]; exact restarts
    unfold State.completeCheckpoint
    simp [still, alone q restarts]

theorem State.beginCheckpoint_nothing (idle : s.checkpoint = none) (unchanged : s.configChanged = false)
    (undefined : ∀ z, s.zone? z = none) (alone : ∀ q, s.restarting = some q → q.checkpointWaits = false) :
    s.beginCheckpoint = s.offer (.storeDone 0 0) .none := by
  have same : { s with checkpoint := none } = s := by rw [← idle]
  rw [State.beginCheckpoint_unchanged idle unchanged, State.continueCheckpoint_end (State.nextDefined_none s 0 fun k _ => undefined k), State.completeCheckpoint_alone alone, same]

theorem State.checkpointTimerExpiry_due (due : s.checkpointDue ≤ s.now) :
    s.checkpointTimerExpiry = { s with checkpointDue := s.checkpointDue + 900 }.beginCheckpoint := by
  exact if_pos (by simpa [State.reached] using due)

theorem State.checkpointTimerExpiry_early (early : s.now < s.checkpointDue) : s.checkpointTimerExpiry = s := by
  exact if_neg (by simpa [State.reached] using early)

/-! ## The end of a record write -/

/-- The store takes the record that has been written, and a failure is noted (R170). -/
def State.readBack (s : State) (w : Writing) (agrees : Bool) : State :=
  if agrees then { s with store := s.store.put w true } else { s with store := s.store.put w false }.noteWriteFailure w

theorem State.endWrite_eq {c : Checkpoint} (flies : s.checkpoint = some c) (agrees : Bool) :
    s.endWrite agrees = (s.readBack c.writing agrees).continueCheckpoint c.writing.number c.full
      (if agrees then c.written + 1 else c.written) (if agrees then c.failed else c.failed + 1) := by
  unfold State.endWrite
  split
  · next c' same =>
    obtain rfl : c' = c := Option.some.inj (same.symm.trans flies)
    cases agrees <;> rfl
  · next idle => exact nomatch idle.symm.trans flies

theorem State.readBack_true (w : Writing) : s.readBack w true = { s with store := s.store.put w true } := rfl

theorem State.readBack_false (w : Writing) : s.readBack w false
    = { s.offer (.checkpointFailed w.number) .none with
        store := s.store.put w false, configChanged := s.configChanged || w.number == 0 } := by
  have offered := State.offer_retention (s := s) (s.store.put w false) s.configChanged s.checkpoint s.restarting
    (.checkpointFailed w.number) .none
  have same := State.offer_blocks s (.checkpointFailed w.number) .none
  show State.noteWriteFailure _ w = _
  unfold State.noteWriteFailure
  dsimp only
  rw [offered, same.checkpoint.symm, same.restarting.symm]

/-- Reading a record back touches the store, the changed flag, the notices and the alarm line alone. -/
theorem State.readBack_frame (w : Writing) (agrees : Bool) : s.readBack w agrees = { s with
    store := s.store.put w agrees, configChanged := (s.readBack w agrees).configChanged
    notices := (s.readBack w agrees).notices, alarm := (s.readBack w agrees).alarm, pulsing := (s.readBack w agrees).pulsing } := by
  cases agrees with
  | true => rfl
  | false => rw [State.readBack_false, State.offer_frame]

theorem State.readBack_zone? (w : Writing) (agrees : Bool) (z : Nat) : (s.readBack w agrees).zone? z = s.zone? z := by
  rw [State.readBack_frame]; rfl

theorem State.readBack_nextDefined (w : Writing) (agrees : Bool) (n : Nat) :
    (s.readBack w agrees).nextDefined n = s.nextDefined n := by
  rw [State.readBack_frame]; rfl

theorem State.completeCheckpoint_keeps (full : Bool) (written failed : Nat) :
    (s.completeCheckpoint full written failed).store = s.store
      ∧ (s.restarting = none → (s.completeCheckpoint full written failed).configChanged = s.configChanged) := by
  have offered := State.offer_blocks { s with checkpoint := none } (.storeDone written failed) .none
  refine ⟨?_, fun plain => ?_⟩
  · unfold State.completeCheckpoint
    dsimp only
    split
    · split
      · exact offered.store
      · split <;> exact offered.store
    · exact offered.store
  · rw [State.completeCheckpoint_plain plain]
    exact offered.configChanged

theorem State.endWrite_store {c : Checkpoint} (flies : s.checkpoint = some c) (agrees : Bool) :
    (s.endWrite agrees).store = s.store.put c.writing agrees := by
  have read : (s.readBack c.writing agrees).store = s.store.put c.writing agrees := by rw [State.readBack_frame]
  rw [State.endWrite_eq flies]
  cases next : (s.readBack c.writing agrees).nextDefined c.writing.number with
  | none => rw [State.continueCheckpoint_end next, (State.completeCheckpoint_keeps ..).1, read]
  | some zr => rw [State.continueCheckpoint_next next, read]

theorem State.endWrite_configChanged {c : Checkpoint} (flies : s.checkpoint = some c) (agrees : Bool) (plain : s.restarting = none) :
    (s.endWrite agrees).configChanged = (s.readBack c.writing agrees).configChanged := by
  rw [State.endWrite_eq flies]
  cases next : (s.readBack c.writing agrees).nextDefined c.writing.number with
  | none => rw [State.continueCheckpoint_end next, (State.completeCheckpoint_keeps ..).2 (by rw [State.readBack_frame]; exact plain)]
  | some zr => rw [State.continueCheckpoint_next next]

theorem State.restartIfReady_none {sense : TermSense} (plain : s.restarting = none) : s.restartIfReady sense = s := by
  rw [State.restartIfReady, plain]

/-- The end of a write that another follows. -/
theorem State.endWrite_next {c : Checkpoint} {z : Nat} {r : Zone} (flies : s.checkpoint = some c) (agrees : Bool)
    (hr : s.zone? z = some r) (after : c.writing.number < z) (least : ∀ k, c.writing.number < k → k < z → s.zone? k = none) :
    s.endWrite agrees = { s.readBack c.writing agrees with
      checkpoint := some ⟨c.full, .account z r.accountRecord, if agrees then c.written + 1 else c.written,
        if agrees then c.failed else c.failed + 1⟩ } := by
  rw [State.endWrite_eq flies]
  exact State.continueCheckpoint_next ((State.readBack_nextDefined ..).trans (State.nextDefined_eq s _ z r hr after least))

/-- The end of the last write of a checkpoint. -/
theorem State.endWrite_last {c : Checkpoint} (flies : s.checkpoint = some c) (agrees : Bool)
    (last : ∀ k, c.writing.number < k → s.zone? k = none) :
    s.endWrite agrees = (s.readBack c.writing agrees).completeCheckpoint c.full (if agrees then c.written + 1 else c.written)
      (if agrees then c.failed else c.failed + 1) := by
  rw [State.endWrite_eq flies]
  exact State.continueCheckpoint_end ((State.readBack_nextDefined ..).trans (State.nextDefined_none s _ last))

end

end Sys2Proof.Machine

namespace Sys2Proof.Proofs

open Sys2Proof Sys2Proof.Machine

/-- Settles O55: the settings, the purge and the alarm line by the two modes, each a lemma about `State.setReport`. -/
theorem reportSetAndPulse : Obligations.ReportSetAndPulse := by
  refine ⟨fun s tag floor level mode outside taken => ?_, fun s tag floor level mode h1 h2 h3 taken => ?_,
    fun s running pulsing => ?_⟩
  · exact taken.refused rfl (by rw [answerTo_reportSet, withBody_some (readBody_reportSet _ _ _), answerReportSet_range outside])
  · have code : (BitVec.ofNat 8 mode.code).toNat = mode.code := by cases mode <;> rfl
    have asked : answerTo ⟨tag, 0x1D, [floor, level, BitVec.ofNat 8 mode.code]⟩ s
        = answerReportSet (floor.toNat, level.toNat, mode.code) s := by
      rw [answerTo_reportSet, withBody_some (readBody_reportSet _ _ _), code]
    have work := asked.trans (answerReportSet_ok h1 h2 h3)
    have noted := State.setReport_noted (s := s) (q := ⟨floor.toNat, level.toNat, mode⟩)
    rw [noted] at work
    refine ⟨_, (taken.answered rfl work).content_eq ?_, State.setReport_report, fun raised => ?_, fun lowered => ?_, fun is => ?_,
      fun old is => ?_, fun old is => ?_, fun old is => ?_, ?_⟩
    · cases (s.setReport ⟨floor.toNat, level.toNat, mode⟩).alarm <;>
        simp [ReportSettings.bytes, flag, flagCode]
    · exact State.setReport_notices.trans (if_pos raised)
    · exact State.setReport_notices.trans (if_neg (Nat.not_lt.mpr lowered))
    · exact State.setReport_follows is
    · exact State.setReport_releases old is
    · exact State.setReport_unpulsed old is
    · exact State.setReport_keeps old is
    · dsimp only
      rw [State.setReport_report]
      conv_lhs => rw [State.setReport_frame]
  · refine happens_event (exec_work rfl s) running ?_
    exact if_pos pulsing

/-- Settles O58: a checkpoint begins by the changed flag and the least defined zone. -/
theorem checkpointsBegin : Obligations.CheckpointsBegin := by
  intro s tag
  refine ⟨fun taken => ?_, fun running early => ?_, fun u running due hu => ?_⟩
  · have answered {t : State} (begins : s.beginCheckpoint = t) : Answers (.checkpointNow tag []) s .done [] t := by
      refine taken.answered rfl ?_
      rw [answerTo_checkpointNow, withBody_some readBody_nothing, answerCheckpointNow, begins]
    have plain : s.restarting = none := by
      obtain ⟨_, _, _, _, may⟩ := taken
      simpa [State.mayTakeUp] using (Bool.and_eq_true_iff.mp may).1
    exact ⟨fun c flies => answered (State.beginCheckpoint_busy flies),
      fun idle changed => answered (State.beginCheckpoint_config idle changed),
      fun z r idle unchanged hr least => answered (State.beginCheckpoint_account idle unchanged hr least),
      fun idle unchanged undefined => answered (State.beginCheckpoint_nothing idle unchanged undefined fun q is =>
        nomatch plain.symm.trans is)⟩
  · exact happens_event (exec_work rfl s) running (State.checkpointTimerExpiry_early early)
  · have happens {t : State} (begins : u.beginCheckpoint = t) : Happens .checkpointTimerExpiry s t := by
      refine happens_event (exec_work rfl s) running ?_
      rw [State.checkpointTimerExpiry_due due, ← hu, begins]
    subst hu
    exact ⟨fun c flies => happens (State.beginCheckpoint_busy flies),
      fun idle changed => happens (State.beginCheckpoint_config idle changed),
      fun z r idle unchanged hr least => happens (State.beginCheckpoint_account idle unchanged hr least),
      fun idle unchanged undefined alone => happens (State.beginCheckpoint_nothing idle unchanged undefined alone)⟩

/-- Settles O59: the record is read back, and the next write begins or STORE DONE is offered. -/
theorem recordWriteEnds : Obligations.RecordWriteEnds := by
  intro s sense c running plain flies
  have ends (agrees : Bool) : Happens (.recordWriteEnd agrees sense) s (s.endWrite agrees) :=
    happens_event (work := fun s => (s.endWrite agrees).restartIfReady sense) rfl running
      (State.restartIfReady_none (State.endWrite_restarting agrees plain))
  have store (agrees : Bool) : (s.endWrite agrees).store = s.store.put c.writing agrees := State.endWrite_store flies agrees
  have changed (agrees : Bool) : (s.endWrite agrees).configChanged = (s.readBack c.writing agrees).configChanged :=
    State.endWrite_configChanged flies agrees plain
  refine ⟨⟨_, ends true, fun x writes => ?_, fun z x writes => ?_, fun z r hr after least => ?_, fun last => ?_⟩,
    ⟨_, _, ends false, rfl, fun x writes => ⟨?_, ?_⟩, fun z x writes => ⟨?_, fun some => ?_⟩, fun z r hr after least => ?_,
      fun last => ?_⟩⟩
  · rw [store, writes]; rfl
  · rw [store, writes]; rfl
  · rw [store, State.endWrite_next flies true hr after least]; rfl
  · rw [store, State.endWrite_last flies true last, State.completeCheckpoint_plain (by exact plain), State.readBack_true]
    rw [← (State.offer_blocks s (.storeDone (c.written + 1) c.failed) .none).configChanged]
    exact State.offer_written (s := s) ..
  · rw [store, writes]; rfl
  · rw [changed, State.readBack_false, writes]
    exact Bool.or_true _
  · rw [store, writes]; rfl
  · rw [changed, State.readBack_false, writes]
    have named : (z == 0) = false := by simpa using Nat.pos_iff_ne_zero.mp some
    show (s.configChanged || (z == 0)) = _
    rw [named, Bool.or_false]
  · rw [store, changed, State.endWrite_next flies false hr after least, State.readBack_false]; rfl
  · rw [store, changed, State.endWrite_last flies false last, State.completeCheckpoint_plain (by rw [State.readBack_frame]; exact plain),
      State.readBack_false]
    exact State.offer_written (s := s.offer (.checkpointFailed c.writing.number) .none) ..

end Sys2Proof.Proofs
end

section
/-! PROOFS. RESTART: the enrolments it drops, the checkpoint it begins or awaits, what arrives meanwhile, and its two ends (O60). -/

namespace Sys2Proof.Machine

/-! ## The enrolments that a RESTART drops (R128) -/

/-- The record of an enrolling line after a RESTART has dropped its enrolment in `s`. -/
def Line.dropped (r : Line) (s : State) : Line :=
  if r.state = .enrolling ∨ r.state = .active ∧ r.roundInProgress = false ∧ r.roundDue = none then r.unenrolled.nextRound s
  else r.unenrolled

section
variable {s : State} {n : Nat} {r : Line}

theorem State.dropEnrolment_enrolled (hr : s.line? n = some r) (enrols : r.enrolment ≠ none) :
    s.dropEnrolment n = s.putLine n (r.dropped s) := by
  rw [State.dropEnrolment_some hr (Option.isSome_iff_ne_none.mpr enrols)]
  have record := State.line?_putLine r.unenrolled hr
  by_cases enrolling : r.state = .enrolling
  · rw [if_pos enrolling, State.startRound_eq record, State.putLine_putLine, Line.dropped, if_pos (.inl enrolling)]
    rfl
  · have state : r.unenrolled.state = r.state := by simp [Line.unenrolled, enrolling]
    rw [if_neg enrolling]
    by_cases due : r.state = .active ∧ r.roundInProgress = false ∧ r.roundDue = none
    · obtain ⟨active, idle, undue⟩ := due
      rw [State.putLine_startRoundIfDue hr (state.trans active) rfl idle undue, Line.dropped, if_pos (.inr ⟨active, idle, undue⟩)]
    · rw [State.putLine_startRoundIfDue_none hr, Line.dropped, if_neg (not_or.mpr ⟨enrolling, due⟩)]
      by_cases active : r.state = .active
      · by_cases idle : r.roundInProgress = false
        · exact .inr (.inr (.inr fun undue => due ⟨active, idle, undue⟩))
        · exact .inr (.inr (.inl (Bool.not_eq_false _ ▸ idle)))
      · exact .inl fun is => active (state.symm.trans is)

theorem State.dropEnrolment_unenrolled (hr : s.line? n = some r) (unenrolled : r.enrolment = none) : s.dropEnrolment n = s :=
  State.dropEnrolment_none fun _ hx => Option.some.inj (hr.symm.trans hx) ▸ unenrolled

theorem State.dropEnrolment_frame (n : Nat) : s.dropEnrolment n = { s with lines := (s.dropEnrolment n).lines } := by
  cases hr : s.line? n with
  | none => rw [State.dropEnrolment_none fun x hx => nomatch hr.symm.trans hx]
  | some r =>
    by_cases enrols : r.enrolment = none
    · rw [State.dropEnrolment_unenrolled hr enrols]
    · rw [State.dropEnrolment_enrolled hr enrols]
      rfl

theorem State.dropEnrolment_line?_ne {k : Nat} (other : k ≠ n) : (s.dropEnrolment n).line? k = s.line? k := by
  cases hr : s.line? n with
  | none => rw [State.dropEnrolment_none fun x hx => nomatch hr.symm.trans hx]
  | some r =>
    by_cases enrols : r.enrolment = none
    · rw [State.dropEnrolment_unenrolled hr enrols]
    · rw [State.dropEnrolment_enrolled hr enrols]
      exact State.line?_putLine_ne s _ other

/-- What a RESTART makes of the record of one line. -/
def Line.DroppedTo (r : Line) (s : State) (x : Option Line) : Prop :=
  (r.enrolment = none → x = some r) ∧ (r.enrolment ≠ none → x = some (r.dropped s))

theorem State.dropEnrolment_dropped (hr : s.line? n = some r) : r.DroppedTo s ((s.dropEnrolment n).line? n) := by
  refine ⟨fun unenrolled => ?_, fun enrols => ?_⟩
  · rw [State.dropEnrolment_unenrolled hr unenrolled]
    exact hr
  · rw [State.dropEnrolment_enrolled hr enrols]
    exact State.line?_putLine _ hr

end

section
variable {s : State}

theorem State.configuration_dropEnrolment (n : Nat) : (s.dropEnrolment n).configuration = s.configuration := by
  cases hr : s.line? n with
  | none => rw [State.dropEnrolment_none fun x hx => nomatch hr.symm.trans hx]
  | some r =>
    by_cases enrols : r.enrolment = none
    · rw [State.dropEnrolment_unenrolled hr enrols]
    · rw [State.dropEnrolment_enrolled hr enrols]
      refine not_not.mp fun changed => (State.configuration_putLine_iff hr).mp changed ?_
      unfold Line.dropped
      split <;> rfl

/-- The part after a RESTART has dropped the enrolments of its two lines. -/
def State.unenrolled (s : State) : State := (s.dropEnrolment 1).dropEnrolment 2

theorem State.unenrolled_frame (s : State) : s.unenrolled = { s with lines := s.unenrolled.lines } := by
  have second := (s.dropEnrolment 1).dropEnrolment_frame 2
  have first := s.dropEnrolment_frame 1
  unfold State.unenrolled
  rw [second, first]

theorem State.unenrolled_configuration (s : State) : s.unenrolled.configuration = s.configuration :=
  (State.configuration_dropEnrolment 2).trans (State.configuration_dropEnrolment 1)

theorem State.unenrolled_dropped {n : Nat} {r : Line} (hr : s.line? n = some r) : r.DroppedTo s (s.unenrolled.line? n) := by
  have valid := State.line?_valid hr
  obtain rfl | rfl : n = 1 ∨ n = 2 := by omega
  · rw [State.unenrolled, State.dropEnrolment_line?_ne (by decide)]
    exact State.dropEnrolment_dropped hr
  · have dropped := State.dropEnrolment_dropped (s := s.dropEnrolment 1) ((State.dropEnrolment_line?_ne (by decide)).trans hr)
    have same : r.dropped (s.dropEnrolment 1) = r.dropped s := by
      unfold Line.dropped Line.nextRound
      rw [State.dropEnrolment_frame]
    rw [Line.DroppedTo, same] at dropped
    exact dropped

theorem State.beginRestart_unenrolled (s : State) : s.beginRestart
    = if s.unenrolled.checkpoint.isSome then
        { s.unenrolled with restarting := some ⟨s.unenrolled.checkpoint.isSome, false, false⟩ }
      else { s.unenrolled with restarting := some ⟨s.unenrolled.checkpoint.isSome, false, false⟩ }.beginConfigWrite true := rfl

theorem State.beginRestart_lines (s : State) : s.beginRestart.lines = s.unenrolled.lines := by
  rw [State.beginRestart_unenrolled]
  split <;> rfl

theorem State.beginRestart_idle (idle : s.checkpoint = none) :
    s.beginRestart = { s.unenrolled with restarting := some ⟨false, false, false⟩ }.beginConfigWrite true := by
  have same : s.unenrolled.checkpoint.isSome = false := by rw [State.unenrolled_frame]; simp [idle]
  rw [State.beginRestart_unenrolled, same]
  rfl

theorem State.beginRestart_awaits {w : Checkpoint} (flies : s.checkpoint = some w) :
    s.beginRestart = { s.unenrolled with restarting := some ⟨true, false, false⟩ } := by
  have same : s.unenrolled.checkpoint.isSome = true := by rw [State.unenrolled_frame]; simp [flies]
  rw [State.beginRestart_unenrolled, same]
  rfl

end

/-! ## The checkpoint of a RESTART (R174) -/

/-- `t` differs from `s` at most in what the end of a record write touches. -/
def State.Written (s t : State) : Prop :=
  ∃ restarting store changed checkpoint notices alarm pulsing, t = { s with
    restarting := restarting, store := store, configChanged := changed, checkpoint := checkpoint
    notices := notices, alarm := alarm, pulsing := pulsing }

section
variable {s t u : State}

theorem State.Written.trans (h : s.Written t) (h' : t.Written u) : s.Written u := by
  obtain ⟨_, _, _, _, _, _, _, rfl⟩ := h
  obtain ⟨_, _, _, _, _, _, _, rfl⟩ := h'
  exact ⟨_, _, _, _, _, _, _, rfl⟩

theorem State.Written.eq (h : s.Written t) : t = { s with
    restarting := t.restarting, store := t.store, configChanged := t.configChanged, checkpoint := t.checkpoint
    notices := t.notices, alarm := t.alarm, pulsing := t.pulsing } := by
  obtain ⟨_, _, _, _, _, _, _, rfl⟩ := h
  rfl

theorem State.offer_written_by (b : NoticeBody) (x : Subject) : s.Written (s.offer b x) :=
  ⟨_, _, _, _, _, _, _, s.offer_frame b x⟩

theorem State.readBack_written (w : Writing) (agrees : Bool) : s.Written (s.readBack w agrees) :=
  ⟨_, _, _, _, _, _, _, State.readBack_frame w agrees⟩

section
variable {q : Restart} {written failed : Nat}

theorem State.completeCheckpoint_full (restarts : s.restarting = some q) : s.completeCheckpoint true written failed
    = { { s with checkpoint := none }.offer (.storeDone written failed) .none with
        restarting := some { q with checkpointDone := true } } := by
  have still : ({ s with checkpoint := none }.offer (.storeDone written failed) .none).restarting = some q := by
    rw [State.offer_frame]; exact restarts
  unfold State.completeCheckpoint
  simp only [still, if_true]

theorem State.completeCheckpoint_awaited (restarts : s.restarting = some q) (waits : q.checkpointWaits = true) :
    s.completeCheckpoint false written failed
      = { { s with checkpoint := none }.offer (.storeDone written failed) .none with
          restarting := some { q with checkpointWaits := false } }.beginConfigWrite true := by
  have still : ({ s with checkpoint := none }.offer (.storeDone written failed) .none).restarting = some q := by
    rw [State.offer_frame]; exact restarts
  unfold State.completeCheckpoint
  simp only [still, waits, if_true, Bool.false_eq_true, if_false]

theorem State.restartIfReady_not {sense : TermSense} (restarts : s.restarting = some q)
    (waits : q.checkpointDone = true → q.replySent = false) : s.restartIfReady sense = s := by
  unfold State.restartIfReady
  simp only [restarts]
  refine if_neg fun ready => ?_
  obtain ⟨done, sent⟩ := Bool.and_eq_true_iff.mp ready
  exact nomatch (waits done).symm.trans sent

end

theorem State.chooseFrame_restarting (s : State) : s.chooseFrame.restarting = s.restarting := by
  unfold State.chooseFrame State.sendReply State.sendNotice
  repeat' split
  all_goals rfl

/-- The part whose output has finished RESTART's reply. -/
def State.replySent (s : State) (q : Restart) : State := { s.idleOutput with restarting := some { q with replySent := true } }

theorem State.frameSent_noted {q : Restart} {o : Sending} {sense : TermSense} (restarts : s.restarting = some q)
    (sends : s.link.output = some o) (reply : o.restartReply = true) :
    s.frameSent sense = ((s.replySent q).restartIfReady sense).chooseFrame.serveSome := by
  have noted : { s.idleOutput with restarting := s.restarting.map fun r => { r with replySent := true } } = s.replySent q := by
    rw [restarts]
    rfl
  unfold State.frameSent
  split
  · next o' same =>
    obtain rfl := Option.some.inj (same.symm.trans sends)
    refine (if_pos reply).trans ?_
    show (State.restartIfReady { s.idleOutput with restarting := s.restarting.map fun r => { r with replySent := true } }
      sense).chooseFrame.serveSome = _
    rw [noted]
  · next idle => exact nomatch idle.symm.trans sends

theorem State.frameSent_reply {q : Restart} {o : Sending} {sense : TermSense} (restarts : s.restarting = some q)
    (sends : s.link.output = some o) (reply : o.restartReply = true) (undone : q.checkpointDone = false) :
    s.frameSent sense = (s.replySent q).chooseFrame := by
  have busy : (s.replySent q).chooseFrame.mayTakeUp = false := by
    rw [State.mayTakeUp, State.chooseFrame_restarting]
    rfl
  have waits : (s.replySent q).restartIfReady sense = s.replySent q :=
    State.restartIfReady_not (q := { q with replySent := true }) (by rfl) fun done => nomatch undone.symm.trans done
  rw [State.frameSent_noted restarts sends reply, waits, State.serveSome_busy busy]

theorem State.storeDone_written {written failed : Nat} :
    s.Written ({ s with checkpoint := none }.offer (.storeDone written failed) .none) :=
  .trans ⟨_, _, _, _, _, _, _, rfl⟩ (State.offer_written_by ..)

/-- What the end of a RESTART's record write leaves: the next write, the end of the full checkpoint, which is noted, or that full
checkpoint itself where it has waited. -/
theorem State.completeCheckpoint_written (full : Bool) (written failed : Nat) : s.Written (s.completeCheckpoint full written failed) := by
  have offered := s.storeDone_written (written := written) (failed := failed)
  unfold State.completeCheckpoint
  dsimp only
  split
  · split
    · exact offered.trans ⟨_, _, _, _, _, _, _, rfl⟩
    · split
      · exact offered.trans ⟨_, _, _, _, _, _, _, rfl⟩
      · exact offered
  · exact offered

theorem State.endWrite_written {w : Checkpoint} (flies : s.checkpoint = some w) (agrees : Bool) : s.Written (s.endWrite agrees) := by
  rw [State.endWrite_eq flies]
  refine (State.readBack_written w.writing agrees).trans ?_
  cases next : (s.readBack w.writing agrees).nextDefined w.writing.number with
  | none => rw [State.continueCheckpoint_end next]; exact State.completeCheckpoint_written ..
  | some zr => rw [State.continueCheckpoint_next next]; exact ⟨_, _, _, _, _, _, _, rfl⟩

theorem State.Written.configuration (h : s.Written t) : t.configuration = s.configuration ∧ t.clock = s.clock := by
  obtain ⟨_, _, _, _, _, _, _, rfl⟩ := h
  exact ⟨rfl, rfl⟩

/-- The least defined zone after number `n`, where there is one. -/
theorem State.least_defined {n : Nat} (some : ∃ k y, n < k ∧ s.zone? k = Option.some y) :
    ∃ z y, s.zone? z = Option.some y ∧ n < z ∧ ∀ k, n < k → k < z → s.zone? k = none := by
  classical
  obtain ⟨y, after, hy⟩ := Nat.find_spec some
  refine ⟨Nat.find some, y, hy, after, fun k hk before => ?_⟩
  rcases Option.eq_none_or_eq_some (s.zone? k) with none | ⟨x, hx⟩
  · exact none
  · exact absurd ⟨x, hk, hx⟩ (Nat.find_min some before)

end

end Sys2Proof.Machine

namespace Sys2Proof.Proofs

open Sys2Proof Sys2Proof.Machine

/-- Settles O60: the record of a line by `Line.dropped`; a request that arrives is delivered and not served; and a start begins
at neither end while the other has not come. -/
theorem restartRunsFullCheckpoint : Obligations.RestartRunsFullCheckpoint := by
  refine ⟨fun s tag taken => ?_, fun s c f q running asks restarts => ?_,
    fun s sense q o running restarts sends reply undone => ?_,
    fun s sense q w agrees running restarts flies either final => ?_⟩
  · have frame := s.unenrolled_frame
    refine ⟨s.beginRestart, taken.answered rfl ?_, fun idle => ?_, fun w flies => ?_, fun n r hr => ?_⟩
    · rw [answerTo_restart, withBody_some readBody_nothing, answerRestart]
    · have same := s.unenrolled_configuration
      rw [s.beginRestart_lines, State.beginRestart_idle idle, State.beginConfigWrite, ← same]
      rw [frame]
      rfl
    · rw [s.beginRestart_lines, State.beginRestart_awaits flies]
      rw [frame]
    · have lines : s.beginRestart.line? n = s.unenrolled.line? n := State.line?_congr s.beginRestart_lines n
      obtain ⟨keeps, drops⟩ := State.unenrolled_dropped hr
      rw [lines]
      refine ⟨keeps, fun kept enrols flight idle => ?_⟩
      have flies : (r.inFlight.filter fun x => !x.isProbe) = kept := by
        rcases Option.eq_none_or_eq_some r.inFlight with none | ⟨x, hx⟩
        · rw [none, idle none]; rfl
        · rw [hx, flight x hx, Option.filter_some]
          by_cases ident : x.ask = .ident <;> simp [Transaction.isProbe, ident]
      refine ⟨fun enrolling => ?_, fun active roundIdle undue => ?_, fun settled busy => ?_⟩
      · rw [drops enrols, Line.dropped, if_pos (.inl enrolling), Line.unenrolled, flies, enrolling]; rfl
      · rw [drops enrols, Line.dropped, if_pos (.inr ⟨active, roundIdle, undue⟩), Line.unenrolled, flies, active]
        rfl
      · have other : ¬ (r.state = .enrolling ∨ r.state = .active ∧ r.roundInProgress = false ∧ r.roundDue = none) := by
          rintro (is | ⟨active, roundIdle, undue⟩)
          · exact settled is
          · rcases busy with h | h | h
            · exact h active
            · exact nomatch roundIdle.symm.trans h
            · exact h undue
        rw [drops enrols, Line.dropped, if_neg other, Line.unenrolled, flies]
        simp [settled]
  · have busy : s.mayTakeUp = false := by simp [State.mayTakeUp, restarts]
    have arrives : exec c s = .next (s.deliver f).feedOutput := by
      rw [exec_request s asks, request, running, busy, Bool.and_false, ← State.arrive_busy busy]
      rfl
    exact ⟨fun room => arrives.trans (by rw [State.deliver_room room]),
      fun full room => arrives.trans (by rw [State.deliver_full full room]),
      fun full noRoom => arrives.trans (by rw [State.deliver_discarded full noRoom])⟩
  · have sent : exec (.outputFrameSent sense) s = .next (s.replySent q).chooseFrame := by
      show Host.Outcome.next (if s.running then s.frameSent sense else s) = _
      rw [running, ← State.frameSent_reply restarts sends reply undone]
      rfl
    refine ⟨fun f rest front => ?_, fun y rest noReply front => ?_, fun noReply noNotice => ?_⟩
    · rw [sent, State.chooseFrame_reply (s := s.replySent q) front, State.sendReply_some (s := s.replySent q) front]
      simp [State.replySent, State.idleOutput]
    · rw [sent, State.chooseFrame_notice (s := s.replySent q) noReply, State.sendNotice_some (s := s.replySent q) front]
      rfl
    · rw [sent, State.chooseFrame_nothing (s := s.replySent q) noReply noNotice]
      rfl
  · have read := State.readBack_written (s := s) w.writing agrees
    have restarting : (s.readBack w.writing agrees).restarting = some q := by rw [State.readBack_frame]; exact restarts
    have next {z : Nat} {y : Zone} (hy : s.zone? z = some y) (after : w.writing.number < z)
        (least : ∀ k, w.writing.number < k → k < z → s.zone? k = none) :=
      State.endWrite_next flies agrees hy after least
    have last (none : ∀ k, w.writing.number < k → s.zone? k = Option.none) := State.endWrite_last flies agrees none
    have ended : (s.endWrite agrees).restartIfReady sense = s.endWrite agrees := by
      by_cases some : ∃ k y, w.writing.number < k ∧ s.zone? k = Option.some y
      · obtain ⟨z, y, hy, after, least⟩ := State.least_defined some
        rw [next hy after least]
        exact State.restartIfReady_not (q := q) restarting either
      · have none (k : Nat) (after : w.writing.number < k) : s.zone? k = Option.none :=
          Option.eq_none_iff_forall_ne_some.mpr fun y hy => some ⟨k, y, after, hy⟩
        have unsent (full : w.full = true) : q.replySent = false :=
          Bool.eq_false_iff.mpr fun sent => some (final full sent)
        rw [last none]
        cases full : w.full with
        | true =>
          rw [State.completeCheckpoint_full restarting]
          exact State.restartIfReady_not (q := { q with checkpointDone := true }) (by rfl) fun _ => unsent full
        | false =>
          by_cases waits : q.checkpointWaits = true
          · rw [State.completeCheckpoint_awaited restarting waits]
            exact State.restartIfReady_not (q := { q with checkpointWaits := false }) (by rfl) either
          · rw [State.completeCheckpoint_alone fun p hp => ?_]
            · exact State.restartIfReady_not (q := q) ((State.offer_blocks ..).restarting.trans restarting) either
            · exact Option.some.inj (hp.symm.trans restarting) ▸ Bool.eq_false_iff.mpr waits
    refine ⟨s.endWrite agrees,
      happens_event (work := fun s => (s.endWrite agrees).restartIfReady sense) rfl running ended,
      State.endWrite_store flies agrees, fun z y hy after least => ?_, fun none => ⟨fun full unsent => ?_, fun full waits => ?_⟩,
      (State.endWrite_written flies agrees).eq⟩
    · rw [next hy after least]
      exact ⟨restarting, rfl⟩
    · rw [last none, full, State.completeCheckpoint_full restarting]
      exact ⟨rfl, (State.offer_blocks ..).checkpoint⟩
    · have same := (read.trans <| State.storeDone_written (written := if agrees then w.written + 1 else w.written)
        (failed := if agrees then w.failed else w.failed + 1)).configuration
      rw [last none, full, State.completeCheckpoint_awaited restarting waits]
      exact ⟨rfl, congrArg (fun record : ConfigRecord => some (⟨true, .config record, 0, 0⟩ : Checkpoint))
        (congrArg₂ ConfigRecord.mk same.1 same.2)⟩

end Sys2Proof.Proofs
end

section
/-! PROOFS. The commands that a start places: what of the part they leave, one after another (R141, R173). -/

namespace Sys2Proof.Machine

/-! ## The records that the commands of a start leave -/

/-- The zone's record, its trim unavailable where the command for it has failed. -/
def Zone.trimLost (r : Zone) (lost : Bool) : Zone :=
  if lost then { r with climate := { r.climate with trimUnavailable := true, offOwed := true, pulse := none } } else r

def Bank.lost (r : Bank) (lost : Bool) : Bank := if lost then { r with state := .faulted } else r

def Plant.lost (r : Plant) (lost : Bool) : Plant := if lost then { r with state := .faulted } else r

/-- The part `v` once some of the commands of a start have been placed: those issuers whose command has failed at once, what stands
in the queue of each line, and the PLANT FAULT notices offered. -/
structure Underway (v : State) (lost : Issuer → Bool) (queue : Nat → List Command) (faults : List (NoticeBody × Subject))
    (u : State) : Prop where
  blocks : BlocksOnly v u
  devices : u.devices = v.devices
  zones : ∀ z, u.zone? z = (v.zone? z).map fun r => r.trimLost (lost (.tracker z))
  banks : ∀ b, u.bank? b = (v.bank? b).map fun r => r.lost (lost (.bank b))
  plants : ∀ p, u.plant? p = (v.plant? p).map fun r => r.lost (lost (.arbiter p))
  lines : ∀ l, u.line? l = (v.line? l).map fun r => { r with queue := queue l }
  notices : u.notices = v.afterOffers faults
  asserted : v.report.mode = .pulse → v.alarm = true ∧ v.pulsing = true → u.alarm = true ∧ u.pulsing = true

/-- What the start values give the part before its commands are placed: trim available, the plants fresh, the lines as they are sensed
with nothing queued. -/
structure Unsent (v : State) (sense : TermSense) : Prop where
  trim : ∀ z r, v.zone? z = some r → r.climate.trimUnavailable = false
  plants : ∀ p r, v.plant? p = some r → r = Plant.fresh r.controller
  queues : ∀ l r, v.line? l = some r → r.queue = []
  states : ∀ l r, v.line? l = some r → r.state = if senseOf sense l then .active else .off

section
variable {v u : State} {lost : Issuer → Bool} {queue : Nat → List Command} {faults : List (NoticeBody × Subject)}

theorem State.offer_stays (b : NoticeBody) (x : Subject) (mode : u.report.mode = .pulse) (on : u.alarm = true ∧ u.pulsing = true) :
    (u.offer b x).alarm = true ∧ (u.offer b x).pulsing = true := by
  obtain ⟨alarm, pulsing⟩ := on
  obtain ⟨alarmed, timed⟩ := State.offer_pulse b x mode
  rw [alarmed, timed, alarm, pulsing, Bool.true_or]
  exact ⟨rfl, rfl⟩

theorem Underway.start {sense : TermSense} (unsent : Unsent v sense) : Underway v (fun _ => false) (fun _ => []) [] v where
  blocks := .refl v
  devices := rfl
  zones z := by simp [Zone.trimLost]
  banks b := by simp [Bank.lost]
  plants p := by simp [Plant.lost]
  lines l := by
    rcases hr : v.line? l with _ | r
    · rfl
    · rw [Option.map_some, ← unsent.queues l r hr]
  notices := rfl
  asserted _ on := on

theorem Underway.queued (h : Underway v lost queue faults u) {n : Nat} {r : Line} (hr : u.line? n = some r) (q : List Command) :
    Underway v lost (fun l => if l = n then q else queue l) faults (u.putLine n { r with queue := q }) where
  blocks := h.blocks.trans (State.putLine_blocks u n _)
  devices := h.devices
  zones := h.zones
  banks := h.banks
  plants := h.plants
  lines l := by
    by_cases same : l = n
    · subst same
      have before := (h.lines l).symm.trans hr
      obtain ⟨x, hx, rfl⟩ := Option.map_eq_some_iff.mp before
      rw [State.line?_putLine _ hr, hx, Option.map_some, if_pos rfl]
    · rw [State.line?_putLine_ne u _ same, h.lines, if_neg same]
  notices := h.notices
  asserted := h.asserted

theorem Underway.bankLost (h : Underway v lost queue faults u) {b : Nat} {r : Bank} (hr : v.bank? b = some r) :
    Underway v (Function.update lost (.bank b) true) queue faults (u.bankFault b) := by
  have hu : u.bank? b = some (r.lost (lost (.bank b))) := by rw [h.banks, hr, Option.map_some]
  rw [State.bankFault, State.modBank_some _ hu]
  exact {
    blocks := h.blocks.trans (State.putBank_blocks u b _)
    devices := h.devices
    zones := fun z => by simpa [Function.update] using h.zones z
    banks := fun k => by
      by_cases same : k = b
      · subst same
        rw [State.bank?_putBank _ hu, hr]
        cases lost (.bank k) <;> simp [Bank.lost]
      · rw [State.bank?_putBank_ne u _ same, h.banks]
        simp [Function.update, same]
    plants := fun p => by simpa [Function.update] using h.plants p
    lines := h.lines
    notices := h.notices
    asserted := h.asserted }

theorem Underway.trimLost (h : Underway v lost queue faults u) {z : Nat} {r : Zone} (hr : v.zone? z = some r)
    (available : r.climate.trimUnavailable = false) :
    Underway v (Function.update lost (.tracker z) true) queue faults (u.trimFault z) := by
  have hu : u.zone? z = some (r.trimLost (lost (.tracker z))) := by rw [h.zones, hr, Option.map_some]
  rw [State.trimFault, State.modZone_some _ hu]
  exact {
    blocks := h.blocks.trans (State.putZone_blocks u z _)
    devices := h.devices
    zones := fun k => by
      by_cases same : k = z
      · subst same
        rw [State.zone?_putZone _ hu, hr]
        cases lost (.tracker k) <;> simp [Zone.trimLost, available]
      · rw [State.zone?_putZone_ne u _ same, h.zones]
        simp [Function.update, same]
    banks := fun b => by simpa [Function.update] using h.banks b
    plants := fun p => by simpa [Function.update] using h.plants p
    lines := h.lines
    notices := h.notices
    asserted := h.asserted }

theorem Underway.plantLost (h : Underway v lost queue faults u) {sense : TermSense} (unsent : Unsent v sense) {p : Nat} {r : Plant} (hr : v.plant? p = some r)
    (first : lost (.arbiter p) = false) :
    Underway v (Function.update lost (.arbiter p) true) queue (faults ++ [(.plantFault .commandFailed .neutral, .plant p)])
      (u.plantFault p .commandFailed) := by
  have hu : u.plant? p = some r := by rw [h.plants, hr, Option.map_some, first]; rfl
  have fresh := unsent.plants p r hr
  have fault : u.plantFault p .commandFailed
      = ((u.putPlant p { r with state := .faulted }).followAlarm).offer (.plantFault .commandFailed .neutral) (.plant p) := by
    rw [State.plantFault, hu, fresh]
    rfl
  have report : (u.putPlant p { r with state := .faulted }).followAlarm.report = v.report :=
    (State.followAlarm_report _).trans h.blocks.report
  rw [fault]
  refine ⟨?_, ?_, fun z => ?_, fun b => ?_, fun k => ?_, fun l => ?_, ?_, fun pulse on => ?_⟩
  · exact h.blocks.trans ((State.putPlant_blocks u p _).trans ((State.followAlarm_blocks _).trans (State.offer_blocks ..)))
  · rw [State.offer_devices, State.followAlarm_devices]
    exact h.devices
  · rw [State.zone?_congr ((State.offer_zones ..).trans (State.followAlarm_zones _))]
    simpa [Function.update] using h.zones z
  · rw [State.bank?, State.offer_banks, State.followAlarm_banks]
    simpa [State.bank?, Function.update] using h.banks b
  · rw [State.plant?_congr ((State.offer_plants ..).trans (State.followAlarm_plants _))]
    by_cases same : k = p
    · subst same
      rw [State.plant?_putPlant _ hu, hr]
      simp [Plant.lost]
    · rw [State.plant?_putPlant_ne u _ same, h.plants]
      simp [Function.update, same]
  · rw [State.line?_congr ((State.offer_lines ..).trans (State.followAlarm_lines _))]
    exact h.lines l
  · rw [State.offer_notices, report, State.followAlarm_notices, State.followAlarm_clock, State.afterOffers, List.foldl_append,
      List.foldl_cons, List.foldl_nil]
    show (if _ then u.notices else enqueue ⟨_, _, u.clock⟩ u.notices) = _
    rw [h.notices, h.blocks.clock]
    rfl
  · have mode : (u.putPlant p { r with state := .faulted }).report.mode = .pulse := (congrArg _ h.blocks.report).trans pulse
    rw [State.followAlarm_pulse mode]
    exact State.offer_stays _ _ mode (h.asserted pulse on)

theorem Underway.names (h : Underway v lost queue faults u) (i : Issuer) (d : DeviceAddr) : u.issuerNames i d = v.issuerNames i d := by
  cases i with
  | governor z =>
    rw [State.issuerNames, State.issuerNames, h.zones]
    rcases v.zone? z with _ | r
    · rfl
    · cases lost (.tracker z) <;> rfl
  | bank b =>
    rw [State.issuerNames, State.issuerNames, h.banks]
    rcases v.bank? b with _ | r
    · rfl
    · cases lost (.bank b) <;> rfl
  | tracker z =>
    rw [State.issuerNames, State.issuerNames, h.zones]
    rcases v.zone? z with _ | r
    · rfl
    · cases lost (.tracker z) <;> rfl
  | arbiter p =>
    rw [State.issuerNames, State.issuerNames, h.plants]
    rcases v.plant? p with _ | r
    · rfl
    · cases lost (.arbiter p) <;> rfl

theorem Underway.of_queues (h : Underway v lost queue faults u) {queue' : Nat → List Command}
    (same : ∀ l r, v.line? l = some r → queue' l = queue l) : Underway v lost queue' faults u :=
  have lines (l : Nat) : u.line? l = (v.line? l).map fun r => { r with queue := queue' l } := by
    rw [h.lines]
    rcases hr : v.line? l with _ | r
    · rfl
    · rw [Option.map_some, Option.map_some, same l r hr]
  { h with lines }

end

/-! ## The commands of a start, one after another -/

/-- The commands, each with its device, its value and its issuer. -/
abbrev StartCommands := List (DeviceAddr × Nat × Issuer)

/-- A command of this issuer is among them whose line is OFF. -/
def startLost (sense : TermSense) (cs : StartCommands) (i : Issuer) : Bool :=
  cs.any fun c => offAtStart sense c.1 && decide (c.2.2 = i)

/-- What they leave in the queue of a line. -/
def startQueue (sense : TermSense) (cs : StartCommands) (l : Nat) : List Command :=
  if senseOf sense l then
    (cs.filter fun c => c.1.line == l).foldl (fun q c => enqueueCommand ⟨c.1.address, c.2.1, c.2.2⟩ q) []
  else []

/-- The notice of a command that fails at once: PLANT FAULT of its plant, where a plant has issued it. -/
def startFault (sense : TermSense) (c : DeviceAddr × Nat × Issuer) : List (NoticeBody × Subject) :=
  match c.2.2 with
  | .arbiter p => if offAtStart sense c.1 then [(.plantFault .commandFailed .neutral, .plant p)] else []
  | _ => []

/-- The notices of those that fail at once. -/
def startFaults (sense : TermSense) (cs : StartCommands) : List (NoticeBody × Subject) := cs.flatMap (startFault sense)

section
variable {sense : TermSense} {cs : StartCommands} {c : DeviceAddr × Nat × Issuer}

theorem startLost_append_off (off : offAtStart sense c.1 = true) :
    startLost sense (cs ++ [c]) = Function.update (startLost sense cs) c.2.2 true := by
  funext i
  by_cases same : i = c.2.2
  · subst same
    simp [startLost, off]
  · have other : c.2.2 ≠ i := fun h => same h.symm
    rw [Function.update_of_ne same]
    simp [startLost, other]

theorem startLost_append_on (on : offAtStart sense c.1 = false) : startLost sense (cs ++ [c]) = startLost sense cs := by
  funext i
  simp [startLost, on]

theorem startQueue_append (l : Nat) : startQueue sense (cs ++ [c]) l = if senseOf sense l = true ∧ l = c.1.line then
    enqueueCommand ⟨c.1.address, c.2.1, c.2.2⟩ (startQueue sense cs l) else startQueue sense cs l := by
  have joined : (cs ++ [c]).filter (fun x => x.1.line == l)
      = if l = c.1.line then cs.filter (fun x => x.1.line == l) ++ [c] else cs.filter fun x => x.1.line == l := by
    rw [List.filter_append]
    by_cases same : l = c.1.line
    · simp [same]
    · have other : c.1.line ≠ l := fun h => same h.symm
      simp [same, other]
  unfold startQueue
  rw [joined]
  by_cases sensed : senseOf sense l = true
  · by_cases same : l = c.1.line
    · subst same
      simp only [sensed, and_self, if_true, List.foldl_append, List.foldl_cons, List.foldl_nil]
    · simp only [same, and_false, if_false]
  · simp only [sensed, false_and, if_false, Bool.false_eq_true]

theorem startFaults_append : startFaults sense (cs ++ [c]) = startFaults sense cs ++ startFault sense c := by
  rw [startFaults, List.flatMap_append, List.flatMap_cons, List.flatMap_nil, List.append_nil]
  rfl

theorem startFault_on (on : offAtStart sense c.1 = false) : startFault sense c = [] := by
  unfold startFault
  split
  · rw [on]; rfl
  · rfl

theorem startFault_plant {d : DeviceAddr} {value p : Nat} (off : offAtStart sense d = true) :
    startFault sense (d, value, .arbiter p) = [(.plantFault .commandFailed .neutral, .plant p)] := if_pos off

variable {v u : State}

/-- One command more has been placed. -/
theorem Underway.placed (h : Underway v (startLost sense cs) (startQueue sense cs) (startFaults sense cs) u) (unsent : Unsent v sense)
    (names : v.issuerNames c.2.2 c.1 = true) (issued : ∀ z, c.2.2 ≠ .governor z) (first : ∀ x ∈ cs, x.2.2 ≠ c.2.2) :
    Underway v (startLost sense (cs ++ [c])) (startQueue sense (cs ++ [c])) (startFaults sense (cs ++ [c]))
      (u.place c.1 c.2.1 c.2.2) := by
  by_cases off : offAtStart sense c.1 = true
  · obtain ⟨valid, unsensed⟩ := Bool.and_eq_true_iff.mp off
    have unsensed : senseOf sense c.1.line = false := by simpa using unsensed
    obtain ⟨r, hr⟩ := State.line?_of_validLine (s := v) valid
    have fails : u.place c.1 c.2.1 c.2.2 = u.commandFailed c.2.2 c.1 := by
      simp [State.place, h.lines, hr, unsent.states _ r hr, unsensed, LineState.takesCommands]
    have queue : startQueue sense (cs ++ [c]) = startQueue sense cs := by
      funext l
      refine (startQueue_append l).trans (if_neg fun ⟨sensed, same⟩ => ?_)
      rw [same, unsensed] at sensed
      cases sensed
    have fresh : startLost sense cs c.2.2 = false := by
      simp only [startLost, List.any_eq_false, Bool.and_eq_true, decide_eq_true_eq]
      exact fun x hx is => first x hx is.2
    have named := (h.names c.2.2 c.1).trans names
    rw [fails, queue, startLost_append_off off, startFaults_append]
    unfold State.commandFailed
    rw [if_pos named]
    obtain ⟨d, value, i⟩ := c
    cases i with
    | governor z => exact absurd rfl (issued z)
    | bank b =>
      obtain ⟨r, hr⟩ := Option.isSome_iff_exists.mp (Option.isSome_of_any names)
      rw [startFault, List.append_nil]
      exact h.bankLost hr
    | tracker z =>
      obtain ⟨r, hr⟩ := Option.isSome_iff_exists.mp (Option.isSome_of_any names)
      rw [startFault, List.append_nil]
      exact h.trimLost hr (unsent.trim z r hr)
    | arbiter p =>
      obtain ⟨r, hr⟩ := Option.isSome_iff_exists.mp (Option.isSome_of_any names)
      rw [startFault_plant off]
      exact h.plantLost unsent hr fresh
  · have on : offAtStart sense c.1 = false := Bool.eq_false_iff.mpr off
    rw [startLost_append_on on, startFaults_append, startFault_on on, List.append_nil]
    rcases hr : v.line? c.1.line with _ | r
    · have nowhere : u.place c.1 c.2.1 c.2.2 = u := by simp [State.place, h.lines, hr]
      rw [nowhere]
      refine h.of_queues fun l x hx => (startQueue_append l).trans (if_neg fun ⟨_, same⟩ => ?_)
      rw [same, hr] at hx
      cases hx
    · have sensed : senseOf sense c.1.line = true := by
        have valid : validLine c.1.line = true := (validLine_iff _).mpr (State.line?_valid hr)
        simpa [offAtStart, valid] using on
      have hu : u.line? c.1.line = some { r with queue := startQueue sense cs c.1.line } := by rw [h.lines, hr]; rfl
      have joins := State.place_takes (v := c.2.1) (i := c.2.2) hu (by simp [unsent.states _ r hr, sensed, LineState.takesCommands])
      rw [joins]
      refine (h.queued hu _).of_queues fun l x hx => (startQueue_append l).trans ?_
      by_cases same : l = c.1.line
      · rw [if_pos ⟨same ▸ sensed, same⟩, if_pos same, same]
      · rw [if_neg fun is => same is.2, if_neg same]

/-- The part `v` once these commands have been placed. -/
abbrev SentAs (v : State) (sense : TermSense) (cs : StartCommands) (u : State) : Prop :=
  Underway v (startLost sense cs) (startQueue sense cs) (startFaults sense cs) u

theorem sentAs_nil (unsent : Unsent v sense) : SentAs v sense [] v :=
  (Underway.start unsent).of_queues fun l _ _ => by
    unfold startQueue
    split <;> rfl

/-- The commands of numbered records, one after another. -/
theorem Underway.foldl (unsent : Unsent v sense) {f : State → Nat → State} {g : Nat → Option (DeviceAddr × Nat × Issuer)}
    (skips : ∀ cs u n, SentAs v sense cs u → g n = none → f u n = u)
    (acts : ∀ cs u n c, SentAs v sense cs u → g n = some c → f u n = u.place c.1 c.2.1 c.2.2)
    (sound : ∀ n c, g n = some c → v.issuerNames c.2.2 c.1 = true ∧ ∀ z, c.2.2 ≠ .governor z) (ns : List Nat) :
    ∀ {cs u}, SentAs v sense cs u → ((cs ++ ns.filterMap g).map (·.2.2)).Nodup →
      SentAs v sense (cs ++ ns.filterMap g) (ns.foldl f u) := by
  induction ns with
  | nil =>
    intro cs u h _
    rwa [List.filterMap_nil, List.append_nil]
  | cons n ns ih =>
    intro cs u h distinct
    rcases hc : g n with _ | c
    · rw [List.filterMap_cons_none hc] at distinct ⊢
      rw [List.foldl_cons, skips cs u n h hc]
      exact ih h distinct
    · rw [List.filterMap_cons_some hc, ← List.singleton_append, ← List.append_assoc] at distinct ⊢
      rw [List.foldl_cons, acts cs u n c h hc]
      obtain ⟨names, issued⟩ := sound n c hc
      refine ih (h.placed unsent names issued fun x hx same => ?_) distinct
      rw [List.map_append, List.map_append] at distinct
      have apart := List.nodup_append.mp (List.nodup_append.mp distinct).1
      exact apart.2.2 x.2.2 (List.mem_map_of_mem hx) c.2.2 (by simp) same

end

/-! ## The commands of a configuration -/

def Configuration.plantCommand (conf : Configuration) (p : Nat) : Option (DeviceAddr × Nat × Issuer) :=
  ((slot? conf.plants p).join).map fun d => (d, 0, .arbiter p)

def Configuration.bankCommand (conf : Configuration) (b : Nat) : Option (DeviceAddr × Nat × Issuer) :=
  ((slot? conf.banks b).join).map fun r => (r.louvre, 100, .bank b)

def Configuration.trimCommand (conf : Configuration) (z : Nat) : Option (DeviceAddr × Nat × Issuer) :=
  ((slot? conf.zones z).join).bind fun r => r.defn.trim.map fun d => (d, 0, .tracker z)

theorem Configuration.startCommands_eq (conf : Configuration) : conf.startCommands
    = plantNumbers.filterMap conf.plantCommand ++ bankNumbers.filterMap conf.bankCommand
      ++ zoneNumbers.filterMap conf.trimCommand := rfl

/-- The issuers of the commands of numbered records, in their order. -/
theorem issuers_sublist {g : Nat → Option (DeviceAddr × Nat × Issuer)} {issuer : Nat → Issuer}
    (named : ∀ n c, g n = some c → c.2.2 = issuer n) (ns : List Nat) :
    ((ns.filterMap g).map (·.2.2)).Sublist (ns.map issuer) := by
  induction ns with
  | nil => exact .slnil
  | cons n ns ih =>
    rcases hc : g n with _ | c
    · rw [List.filterMap_cons_none hc]
      exact ih.cons _
    · rw [List.filterMap_cons_some hc, List.map_cons, List.map_cons, named n c hc]
      exact ih.cons_cons _

theorem Configuration.issuers_distinct (conf : Configuration) : (conf.startCommands.map (·.2.2)).Nodup := by
  have all : (plantNumbers.map Issuer.arbiter ++ bankNumbers.map Issuer.bank ++ zoneNumbers.map Issuer.tracker).Nodup := by decide
  refine all.sublist ?_
  rw [conf.startCommands_eq, List.map_append, List.map_append]
  refine ((issuers_sublist ?_ _).append (issuers_sublist ?_ _)).append (issuers_sublist ?_ _)
  · rintro p c hc
    obtain ⟨d, -, rfl⟩ := Option.map_eq_some_iff.mp hc
    rfl
  · rintro b c hc
    obtain ⟨r, -, rfl⟩ := Option.map_eq_some_iff.mp hc
    rfl
  · rintro z c hc
    obtain ⟨r, -, trim⟩ := Option.bind_eq_some_iff.mp hc
    obtain ⟨d, -, rfl⟩ := Option.map_eq_some_iff.mp trim
    rfl

/-- The part holds the start values of this configuration (R172). -/
structure Loaded (v : State) (conf : Configuration) (sense : TermSense) : Prop where
  zones : ∀ z, ∃ a, v.zone? z = ((slot? conf.zones z).join).map fun st => st.started a v.clock v.now
  banks : ∀ b, v.bank? b = ((slot? conf.banks b).join).map fun st => st.started v.now
  plants : ∀ p, v.plant? p = ((slot? conf.plants p).join).map Plant.fresh
  lines : ∀ l r, v.line? l = some r → r = Line.started (senseOf sense l) ((slot? conf.retryLimits l).getD Config.defaultRetryLimit)

section
variable {v : State} {conf : Configuration} {sense : TermSense}

theorem Loaded.unsent (h : Loaded v conf sense) : Unsent v sense where
  trim z r hr := by
    obtain ⟨a, stored⟩ := h.zones z
    obtain ⟨st, -, rfl⟩ := Option.map_eq_some_iff.mp (stored.symm.trans hr)
    rfl
  plants p r hr := by
    obtain ⟨d, -, rfl⟩ := Option.map_eq_some_iff.mp ((h.plants p).symm.trans hr)
    rfl
  queues l r hr := by rw [h.lines l r hr]; rfl
  states l r hr := by rw [h.lines l r hr]; rfl

theorem Loaded.plantsPlaced (h : Loaded v conf sense) {cs : StartCommands} {u : State} (sent : SentAs v sense cs u)
    (distinct : ((cs ++ plantNumbers.filterMap conf.plantCommand).map (·.2.2)).Nodup) :
    SentAs v sense (cs ++ plantNumbers.filterMap conf.plantCommand) (plantNumbers.foldl (fun s p => s.placeDuty p .neutral) u) := by
  refine Underway.foldl h.unsent (fun cs u p sent unset => ?_) (fun cs u p c sent is => ?_) (fun p c is => ?_) _ sent distinct
  · have none : u.plant? p = none := by rw [sent.plants, h.plants, Option.map_eq_none_iff.mp unset]; rfl
    rw [State.placeDuty, none]
  · obtain ⟨d, hd, rfl⟩ := Option.map_eq_some_iff.mp is
    obtain ⟨lost, hu⟩ : ∃ lost, u.plant? p = some ((Plant.fresh d).lost lost) := by
      rw [sent.plants, h.plants, hd]
      exact ⟨_, rfl⟩
    have same : u.putPlant p { (Plant.fresh d).lost lost with commanded := .neutral } = u :=
      (congrArg (u.putPlant p) (by cases lost <;> rfl)).trans (State.putPlant_same hu)
    have controller : ((Plant.fresh d).lost lost).controller = d := by cases lost <;> rfl
    rw [State.placeDuty, hu]
    dsimp only
    rw [same, controller]
    rfl
  · obtain ⟨d, hd, rfl⟩ := Option.map_eq_some_iff.mp is
    refine ⟨?_, fun z other => nomatch other⟩
    rw [State.issuerNames, h.plants, hd]
    exact beq_self_eq_true d

theorem Loaded.banksPlaced (h : Loaded v conf sense) {cs : StartCommands} {u : State} (sent : SentAs v sense cs u)
    (distinct : ((cs ++ bankNumbers.filterMap conf.bankCommand).map (·.2.2)).Nodup) :
    SentAs v sense (cs ++ bankNumbers.filterMap conf.bankCommand) (bankNumbers.foldl (fun s b => s.placeClosure b) u) := by
  refine Underway.foldl h.unsent (fun cs u b sent unset => ?_) (fun cs u b c sent is => ?_) (fun b c is => ?_) _ sent distinct
  · have none : u.bank? b = none := by rw [sent.banks, h.banks, Option.map_eq_none_iff.mp unset]; rfl
    rw [State.placeClosure, none]
  · obtain ⟨st, hst, rfl⟩ := Option.map_eq_some_iff.mp is
    obtain ⟨lost, hu⟩ : ∃ lost, u.bank? b = some ((st.started v.now).lost lost) := by
      rw [sent.banks, h.banks, hst]
      exact ⟨_, rfl⟩
    rw [State.placeClosure, hu]
    cases lost <;> rfl
  · obtain ⟨st, hst, rfl⟩ := Option.map_eq_some_iff.mp is
    refine ⟨?_, fun z other => nomatch other⟩
    rw [State.issuerNames, h.banks, hst]
    exact beq_self_eq_true st.louvre

theorem Loaded.trimsPlaced (h : Loaded v conf sense) {f : State → Nat → State}
    (skips : ∀ u z, (u.zone? z).bind (·.defn.trim) = none → f u z = u)
    (acts : ∀ u z d, (u.zone? z).bind (·.defn.trim) = some d → f u z = u.place d trimOff (.tracker z))
    {cs : StartCommands} {u : State} (sent : SentAs v sense cs u)
    (distinct : ((cs ++ zoneNumbers.filterMap conf.trimCommand).map (·.2.2)).Nodup) :
    SentAs v sense (cs ++ zoneNumbers.filterMap conf.trimCommand) (zoneNumbers.foldl f u) := by
  have trims {cs : StartCommands} {u : State} (sent : SentAs v sense cs u) (z : Nat) :
      (u.zone? z).bind (·.defn.trim) = ((slot? conf.zones z).join).bind (·.defn.trim) := by
    obtain ⟨a, stored⟩ := h.zones z
    rw [sent.zones, stored]
    rcases (slot? conf.zones z).join with _ | st
    · rfl
    · cases startLost sense cs (.tracker z) <;> rfl
  have command (z : Nat) : conf.trimCommand z
      = (((slot? conf.zones z).join).bind (·.defn.trim)).map fun d => (d, 0, .tracker z) := by
    rw [Configuration.trimCommand]
    rcases (slot? conf.zones z).join with _ | st <;> rfl
  refine Underway.foldl h.unsent (fun cs u z sent unset => ?_) (fun cs u z c sent is => ?_) (fun z c is => ?_) _ sent distinct
  · rw [command] at unset
    exact skips u z ((trims sent z).trans (Option.map_eq_none_iff.mp unset))
  · rw [command] at is
    obtain ⟨d, hd, rfl⟩ := Option.map_eq_some_iff.mp is
    exact acts u z d ((trims sent z).trans hd)
  · rw [command] at is
    obtain ⟨d, hd, rfl⟩ := Option.map_eq_some_iff.mp is
    obtain ⟨st, hst, trim⟩ := Option.bind_eq_some_iff.mp hd
    obtain ⟨a, stored⟩ := h.zones z
    refine ⟨?_, fun k other => nomatch other⟩
    rw [State.issuerNames, stored, hst]
    show (st.defn.trim == some d) = true
    rw [trim]
    exact beq_self_eq_true (some d)

/-- Step 4 of R173 places the commands of the configuration. -/
theorem Loaded.placed (h : Loaded v conf sense) : SentAs v sense conf.startCommands v.placeStartCommands := by
  have distinct := conf.issuers_distinct
  rw [conf.startCommands_eq] at distinct ⊢
  have two := (List.nodup_append.mp (List.map_append ▸ distinct)).1
  have one := (List.nodup_append.mp (List.map_append ▸ two)).1
  unfold State.placeStartCommands
  refine h.trimsPlaced (fun u z unset => ?_) (fun u z d set => ?_)
    (h.banksPlaced (h.plantsPlaced (sentAs_nil h.unsent) one) two) distinct
  · rw [unset]
  · rw [set]

end

end Sys2Proof.Machine
end

section
/-! PROOFS. The start sequence: the start values, the notices, the commands and the rounds (O6). -/

namespace Sys2Proof.Machine

/-! ## Notices offered one after another -/

def State.offerEach (s : State) (ns : List (NoticeBody × Subject)) : State := ns.foldl (fun s n => s.offer n.1 n.2) s

section
variable {s : State}

theorem State.offerEach_cons (n : NoticeBody × Subject) (ns : List (NoticeBody × Subject)) :
    s.offerEach (n :: ns) = (s.offer n.1 n.2).offerEach ns := rfl

theorem State.offerEach_frame (ns : List (NoticeBody × Subject)) : s.offerEach ns = { s with
    notices := (s.offerEach ns).notices, alarm := (s.offerEach ns).alarm, pulsing := (s.offerEach ns).pulsing } := by
  induction ns generalizing s with
  | nil => rfl
  | cons n ns ih =>
    have first := s.offer_frame n.1 n.2
    have rest := ih (s := s.offer n.1 n.2)
    show (s.offer n.1 n.2).offerEach ns = { s with
      notices := ((s.offer n.1 n.2).offerEach ns).notices, alarm := ((s.offer n.1 n.2).offerEach ns).alarm
      pulsing := ((s.offer n.1 n.2).offerEach ns).pulsing }
    generalize (s.offer n.1 n.2).offerEach ns = t at rest ⊢
    generalize s.offer n.1 n.2 = u at first rest
    rw [rest, first]

theorem State.offerEach_notices (ns : List (NoticeBody × Subject)) : (s.offerEach ns).notices = s.afterOffers ns := by
  induction ns generalizing s with
  | nil => rfl
  | cons n ns ih =>
    show ((s.offer n.1 n.2).offerEach ns).notices = _
    rw [ih, State.afterOffers, State.offer_notices, State.offer_report, State.offer_clock]
    rfl

theorem State.offerEach_stays (ns : List (NoticeBody × Subject)) (mode : s.report.mode = .pulse)
    (on : s.alarm = true ∧ s.pulsing = true) : (s.offerEach ns).alarm = true ∧ (s.offerEach ns).pulsing = true := by
  induction ns generalizing s with
  | nil => exact on
  | cons n ns ih => exact ih (by rw [State.offer_report]; exact mode) (State.offer_stays n.1 n.2 mode on)

/-- The MARK SET notices of the marks that the zones have. -/
def State.markNotices (s : State) : List (NoticeBody × Subject) :=
  s.definedZones.flatMap fun zr => zr.2.marks.map fun m => (NoticeBody.markSet m, Subject.zone zr.1)

theorem State.offerStartMarks_eq (s : State) : s.offerStartMarks = s.offerEach s.markNotices := by
  unfold State.offerStartMarks State.offerEach State.markNotices
  rw [List.foldl_flatMap]
  simp only [List.foldl_map]

theorem State.markNotices_congr {t : State} (same : ∀ z, (t.zone? z).map (·.marks) = (s.zone? z).map (·.marks)) :
    t.markNotices = s.markNotices := by
  have zone (z : Nat) : ((t.zone? z).map fun r => (z, r)).toList.flatMap
        (fun zr => zr.2.marks.map fun m => (NoticeBody.markSet m, Subject.zone zr.1))
      = ((s.zone? z).map fun r => (z, r)).toList.flatMap
        (fun zr => zr.2.marks.map fun m => (NoticeBody.markSet m, Subject.zone zr.1)) := by
    have marks := same z
    cases ht : t.zone? z with
    | none => rw [Option.map_eq_none_iff.mp (marks.symm.trans (congrArg _ ht))]
    | some r =>
      obtain ⟨x, hx, equal⟩ := Option.map_eq_some_iff.mp (marks.symm.trans (congrArg _ ht))
      rw [hx]
      simp [equal]
  unfold State.markNotices State.definedZones
  generalize zoneNumbers = ns
  rw [List.filterMap_eq_flatMap_toList, List.filterMap_eq_flatMap_toList, List.flatMap_assoc, List.flatMap_assoc]
  simp only [zone]

end

/-! ## The first round of each line (R139) -/

/-- The record of a line after a start has begun its first round, where it is ACTIVE. -/
def Line.firstRound (r : Line) (now : Nat) : Line :=
  if r.state = .active then { r with roundCounter := (r.roundCounter + 1) % 10, pollPos := 0, roundInProgress := true
                                     roundDue := some (now + 2) }
  else r

section
variable {s : State}

theorem State.startRoundIfDue_first {l : Nat} {r : Line} (hr : s.line? l = some r) (fresh : r.enrolment = none)
    (idle : r.roundInProgress = false) (undue : r.roundDue = none) : s.startRoundIfDue l = s.putLine l (r.firstRound s.now) := by
  have self : s.putLine l r = s := State.putLine_same hr
  by_cases active : r.state = .active
  · have starts := State.putLine_startRoundIfDue hr active fresh idle undue
    rw [self] at starts
    rw [starts, Line.firstRound, if_pos active]
    rfl
  · have stays := State.putLine_startRoundIfDue_none hr (.inl active)
    rw [self] at stays
    rw [stays, Line.firstRound, if_neg active, self]

/-- Every line of the part before its first rounds. -/
def State.unstarted (s : State) : Prop :=
  ∀ l r, s.line? l = some r → r.enrolment = none ∧ r.roundInProgress = false ∧ r.roundDue = none

/-- Step 5 of R173. -/
theorem State.firstRounds (unstarted : s.unstarted) {t : State} (ht : t = lineNumbers.foldl (fun s l => s.startRoundIfDue l) s) :
    t = { s with lines := t.lines } ∧ ∀ l, t.line? l = (s.line? l).map fun r => r.firstRound s.now := by
  obtain ⟨r, hr⟩ := s.line?_some (l := 1) (by decide) (by decide)
  obtain ⟨q, hq⟩ := s.line?_some (l := 2) (by decide) (by decide)
  obtain ⟨e1, i1, d1⟩ := unstarted 1 r hr
  obtain ⟨e2, i2, d2⟩ := unstarted 2 q hq
  have other : (s.putLine 1 (r.firstRound s.now)).line? 2 = some q := (State.line?_putLine_ne s _ (by decide)).trans hq
  have folded : t = (s.putLine 1 (r.firstRound s.now)).putLine 2 (q.firstRound s.now) := by
    rw [ht]
    show (s.startRoundIfDue 1).startRoundIfDue 2 = _
    rw [State.startRoundIfDue_first hr e1 i1 d1, State.startRoundIfDue_first other e2 i2 d2]
    rfl
  refine ⟨by rw [folded]; rfl, fun l => ?_⟩
  by_cases two : l = 2
  · subst two
    rw [folded, State.line?_putLine _ other, hq]
    rfl
  · rw [folded, State.line?_putLine_ne _ _ two]
    by_cases one : l = 1
    · subst one
      rw [State.line?_putLine _ hr, hr]
      rfl
    · rw [State.line?_putLine_ne _ _ one]
      rcases hx : s.line? l with _ | x
      · rfl
      · have valid := State.line?_valid hx
        omega

end

/-! ## The start values (R172) -/

/-- A table made of another, read back. -/
theorem slot?_tableOf_map {α β : Type} {n : Nat} (w : Vector (Option α) n) (f : Nat → α → β) (k : Nat) :
    (slot? (tableOf n fun k => ((slot? w k).join).map (f k)) k).join = ((slot? w k).join).map (f k) := by
  rw [slot?_tableOf]
  split
  · rfl
  · next outside =>
    have none : slot? w k = none := by
      rw [← Option.not_isSome_iff_eq_none, slot?_isSome]
      exact outside
    rw [none]
    rfl

/-- The configuration that a start takes from the store, and its clock. -/
def Store.configuration (st : Store) : Configuration := (st.config.map (·.config)).getD Configuration.lost

def Store.clock (st : Store) : Nat := (st.config.map (·.clock)).getD 0

/-- The account record of zone `z` that a start finds, where the zone is defined. -/
def Store.accountOf (st : Store) (z : Nat) : Option AccountRecord :=
  if ((slot? st.configuration.zones z).join).isSome then (slot? st.accounts z).join else none

section
variable {s : State} {sense : TermSense}

theorem State.load_zones (z : Nat) : (s.load sense).zone? z = ((slot? s.store.configuration.zones z).join).map fun st =>
    st.started (slot? (tableOf 16 s.store.accountOf) z).join s.store.clock s.now :=
  slot?_tableOf_map _ (fun z (st : StoredZone) => st.started (slot? (tableOf 16 s.store.accountOf) z).join s.store.clock s.now) z

theorem State.load_loaded : Loaded (s.load sense) s.store.configuration sense where
  zones z := ⟨_, State.load_zones z⟩
  banks b := slot?_tableOf_map s.store.configuration.banks (fun _ st => st.started s.now) b
  plants p := slot?_tableOf_map s.store.configuration.plants (fun _ => Plant.fresh) p
  lines l r hr := by
    simp only [State.line?, State.load, slot?_tableOf] at hr
    split at hr
    · cases hr
      rfl
    · cases hr

theorem State.afterOffers_append {t : State} {a b : List (NoticeBody × Subject)} (notices : t.notices = s.afterOffers a)
    (report : t.report = s.report) (clock : t.clock = s.clock) : t.afterOffers b = s.afterOffers (a ++ b) := by
  rw [State.afterOffers, report, clock, notices, State.afterOffers, State.afterOffers, List.foldl_append]

/-- The part with the start values, START and the marks announced. -/
def State.announced (s : State) (cause : StartCause) (sense : TermSense) : State :=
  (s.load sense).offerEach ((.start cause s.store.config.isNone, .none) :: (s.load sense).markNotices)

theorem State.startSequence_announced (cause : StartCause) : s.startSequence cause sense
    = lineNumbers.foldl (fun s l => s.startRoundIfDue l) (s.announced cause sense).placeStartCommands.followAlarm := by
  have same : ((s.load sense).offer (.start cause s.store.config.isNone) .none).offerStartMarks = s.announced cause sense := by
    rw [State.offerStartMarks_eq, State.markNotices_congr (s := s.load sense) fun z => by rw [State.zone?_congr (State.offer_zones ..)],
      State.announced, State.offerEach_cons]
  rw [State.startSequence, same]

theorem Loaded.offerEach {v : State} {conf : Configuration} (h : Loaded v conf sense) (ns : List (NoticeBody × Subject)) :
    Loaded (v.offerEach ns) conf sense := by
  rw [State.offerEach_frame]
  exact ⟨h.zones, h.banks, h.plants, h.lines⟩

end

/-! ## What a start leaves (R172, R173) -/

/-- The start of a part that holds the start values `v` of a configuration: what its notices, its commands and its first rounds leave. -/
structure Started (v : State) (conf : Configuration) (cause : StartCause) (lost : Bool) (sense : TermSense) (t : State) : Prop where
  blocks : BlocksOnly v t
  devices : t.devices = v.devices
  zones : ∀ z, t.zone? z = (v.zone? z).map fun r => r.trimLost (startLost sense conf.startCommands (.tracker z))
  banks : ∀ b, t.bank? b = (v.bank? b).map fun r => r.lost (startLost sense conf.startCommands (.bank b))
  plants : ∀ p, t.plant? p = (v.plant? p).map fun r => r.lost (startLost sense conf.startCommands (.arbiter p))
  lines : ∀ l, t.line? l = (v.line? l).map fun r =>
    { r with queue := startQueue sense conf.startCommands l : Line }.firstRound v.now
  notices : t.notices = v.afterOffers ((.start cause lost, .none) :: v.markNotices ++ startFaults sense conf.startCommands)
  asserted : v.report.mode = .pulse → v.report.alarmLevel ≤ 7 → t.alarm = true ∧ t.pulsing = true

section
variable {v w : State} {conf : Configuration} {sense : TermSense}

theorem SentAs.unstarted (loaded : Loaded v conf sense) {cs : StartCommands} (sent : SentAs v sense cs w) :
    w.followAlarm.unstarted := by
  intro l r hr
  rw [State.line?_congr (State.followAlarm_lines w), sent.lines] at hr
  obtain ⟨x, hx, rfl⟩ := Option.map_eq_some_iff.mp hr
  rw [loaded.lines l x hx]
  exact ⟨rfl, rfl, rfl⟩

theorem Loaded.started (loaded : Loaded v conf sense) (cause : StartCause) (lost : Bool) : Started v conf cause lost sense
    (lineNumbers.foldl (fun s l => s.startRoundIfDue l)
      (v.offerEach ((.start cause lost, .none) :: v.markNotices)).placeStartCommands.followAlarm) := by
  have offered := loaded.offerEach ((.start cause lost, .none) :: v.markNotices)
  have sent := offered.placed
  obtain ⟨rounds, lines⟩ := State.firstRounds (SentAs.unstarted offered sent) rfl
  have frame := State.offerEach_frame (s := v) ((.start cause lost, .none) :: v.markNotices)
  have announced := State.offerEach_notices (s := v) ((.start cause lost, .none) :: v.markNotices)
  have stays (mode : v.report.mode = .pulse) (level : v.report.alarmLevel ≤ 7) :
      (v.offerEach ((.start cause lost, .none) :: v.markNotices)).alarm = true
        ∧ (v.offerEach ((.start cause lost, .none) :: v.markNotices)).pulsing = true := by
    rw [State.offerEach_cons]
    exact State.offerEach_stays (s := v.offer _ _) _ (by rw [State.offer_report]; exact mode)
      (State.offer_pulse_asserts _ mode level)
  generalize v.offerEach ((.start cause lost, .none) :: v.markNotices) = a at *
  generalize a.placeStartCommands = w at *
  generalize lineNumbers.foldl (fun s l => s.startRoundIfDue l) w.followAlarm = t at *
  have offers : BlocksOnly v a := by rw [frame]; constructor <;> rfl
  have rounded : BlocksOnly w.followAlarm t := by rw [rounds]; constructor <;> rfl
  have blocks : BlocksOnly w t := (State.followAlarm_blocks w).trans rounded
  have loadedDevices : a.devices = v.devices := by rw [frame]
  have loadedZones : a.zones = v.zones := by rw [frame]
  have loadedBanks : a.banks = v.banks := by rw [frame]
  have loadedPlants : a.plants = v.plants := by rw [frame]
  have loadedLines : a.lines = v.lines := by rw [frame]
  have zones : t.zones = w.zones := (congrArg State.zones rounds).trans (State.followAlarm_zones w)
  have banks : t.banks = w.banks := (congrArg State.banks rounds).trans (State.followAlarm_banks w)
  have plants : t.plants = w.plants := (congrArg State.plants rounds).trans (State.followAlarm_plants w)
  have notices : t.notices = w.notices := (congrArg State.notices rounds).trans (State.followAlarm_notices w)
  refine ⟨offers.trans (sent.blocks.trans blocks), ?_, fun z => ?_, fun b => ?_, fun p => ?_, fun l => ?_, ?_, fun mode level => ?_⟩
  · exact (congrArg State.devices rounds).trans ((State.followAlarm_devices w).trans (sent.devices.trans loadedDevices))
  · rw [State.zone?_congr zones, sent.zones, State.zone?_congr loadedZones]
  · rw [State.bank?, banks, ← State.bank?, sent.banks, State.bank?, loadedBanks, ← State.bank?]
  · rw [State.plant?_congr plants, sent.plants, State.plant?_congr loadedPlants]
  · rw [lines, State.line?_congr (State.followAlarm_lines w), sent.lines, State.line?_congr loadedLines,
      State.followAlarm_now, sent.blocks.now, offers.now, Option.map_map]
    rfl
  · rw [notices, sent.notices, State.afterOffers_append announced offers.report offers.clock]
  · have pulse : w.report.mode = .pulse := by rw [sent.blocks.report, offers.report]; exact mode
    have asserted := sent.asserted (by rw [offers.report]; exact mode) (stays mode level)
    rw [rounds, State.followAlarm_pulse pulse]
    exact asserted

theorem State.startSequence_started (u : State) (cause : StartCause) (sense : TermSense) :
    Started (u.load sense) u.store.configuration cause u.store.config.isNone sense (u.startSequence cause sense) := by
  rw [State.startSequence_announced]
  exact State.load_loaded.started cause _

end

end Sys2Proof.Machine
end

section
/-! PROOFS. Every start loads the store and leaves every block at its start values (O6). -/

namespace Sys2Proof.Machine

/-! ## Which commands of a start fail at once -/

section
variable {conf : Configuration} {sense : TermSense}

theorem Configuration.mem_startCommands (c : DeviceAddr × Nat × Issuer) : c ∈ conf.startCommands ↔
    (∃ p, conf.plantCommand p = some c) ∨ (∃ b, conf.bankCommand b = some c) ∨ ∃ z, conf.trimCommand z = some c := by
  have numbered {n : Nat} {α : Type} {v : Vector (Option α) n} {k : Nat} {x : α} (hx : (slot? v k).join = some x) :
      k ∈ List.range' 1 n := by
    have valid := (slot?_isSome v k).mp (by rw [Option.join_eq_some_iff.mp hx]; rfl)
    rw [List.mem_range'_1]
    omega
  rw [conf.startCommands_eq, List.mem_append, List.mem_append, List.mem_filterMap, List.mem_filterMap, List.mem_filterMap, or_assoc]
  refine or_congr ⟨fun ⟨p, _, hp⟩ => ⟨p, hp⟩, fun ⟨p, hp⟩ => ⟨p, ?_, hp⟩⟩ (or_congr
    ⟨fun ⟨b, _, hb⟩ => ⟨b, hb⟩, fun ⟨b, hb⟩ => ⟨b, ?_, hb⟩⟩ ⟨fun ⟨z, _, hz⟩ => ⟨z, hz⟩, fun ⟨z, hz⟩ => ⟨z, ?_, hz⟩⟩)
  · obtain ⟨d, hd, -⟩ := Option.map_eq_some_iff.mp hp
    exact numbered hd
  · obtain ⟨r, hr, -⟩ := Option.map_eq_some_iff.mp hb
    exact numbered hr
  · obtain ⟨r, hr, -⟩ := Option.bind_eq_some_iff.mp hz
    exact numbered hr

theorem startLost_iff (cs : StartCommands) (i : Issuer) :
    startLost sense cs i = true ↔ ∃ d v, (d, v, i) ∈ cs ∧ offAtStart sense d = true := by
  simp only [startLost, List.any_eq_true, Bool.and_eq_true, decide_eq_true_eq]
  constructor
  · rintro ⟨⟨d, v, j⟩, mem, off, rfl⟩
    exact ⟨d, v, mem, off⟩
  · rintro ⟨d, v, mem, off⟩
    exact ⟨(d, v, i), mem, off, rfl⟩

theorem startLost_arbiter (p : Nat) :
    startLost sense conf.startCommands (.arbiter p) = ((slot? conf.plants p).join).any (offAtStart sense) := by
  rw [Bool.eq_iff_iff, startLost_iff]
  simp only [Configuration.mem_startCommands, Configuration.plantCommand, Configuration.bankCommand, Configuration.trimCommand]
  constructor
  · rintro ⟨d, v, ⟨k, hk⟩ | ⟨k, hk⟩ | ⟨k, hk⟩, off⟩
    · obtain ⟨x, hx, same⟩ := Option.map_eq_some_iff.mp hk
      cases same
      simp [hx, off]
    · obtain ⟨x, -, same⟩ := Option.map_eq_some_iff.mp hk
      cases same
    · obtain ⟨y, -, trim⟩ := Option.bind_eq_some_iff.mp hk
      obtain ⟨x, -, same⟩ := Option.map_eq_some_iff.mp trim
      cases same
  · intro off
    obtain ⟨d, hd⟩ := Option.isSome_iff_exists.mp (Option.isSome_of_any off)
    exact ⟨d, 0, .inl ⟨p, by rw [hd]; rfl⟩, by simpa [hd] using off⟩

theorem startLost_bank (b : Nat) :
    startLost sense conf.startCommands (.bank b) = ((slot? conf.banks b).join).any fun y => offAtStart sense y.louvre := by
  rw [Bool.eq_iff_iff, startLost_iff]
  simp only [Configuration.mem_startCommands, Configuration.plantCommand, Configuration.bankCommand, Configuration.trimCommand]
  constructor
  · rintro ⟨d, v, ⟨k, hk⟩ | ⟨k, hk⟩ | ⟨k, hk⟩, off⟩
    · obtain ⟨x, -, same⟩ := Option.map_eq_some_iff.mp hk
      cases same
    · obtain ⟨x, hx, same⟩ := Option.map_eq_some_iff.mp hk
      cases same
      simp [hx, off]
    · obtain ⟨y, -, trim⟩ := Option.bind_eq_some_iff.mp hk
      obtain ⟨x, -, same⟩ := Option.map_eq_some_iff.mp trim
      cases same
  · intro off
    obtain ⟨y, hy⟩ := Option.isSome_iff_exists.mp (Option.isSome_of_any off)
    exact ⟨y.louvre, 100, .inr (.inl ⟨b, by rw [hy]; rfl⟩), by simpa [hy] using off⟩

theorem startLost_tracker {z : Nat} {y : StoredZone} (hy : (slot? conf.zones z).join = some y) :
    startLost sense conf.startCommands (.tracker z) = y.defn.trim.any (offAtStart sense) := by
  rw [Bool.eq_iff_iff, startLost_iff]
  simp only [Configuration.mem_startCommands, Configuration.plantCommand, Configuration.bankCommand, Configuration.trimCommand]
  constructor
  · rintro ⟨d, v, ⟨k, hk⟩ | ⟨k, hk⟩ | ⟨k, hk⟩, off⟩
    · obtain ⟨x, -, same⟩ := Option.map_eq_some_iff.mp hk
      cases same
    · obtain ⟨x, -, same⟩ := Option.map_eq_some_iff.mp hk
      cases same
    · obtain ⟨r, hr, trim⟩ := Option.bind_eq_some_iff.mp hk
      obtain ⟨x, hx, same⟩ := Option.map_eq_some_iff.mp trim
      cases same
      obtain rfl := Option.some.inj (hy.symm.trans hr)
      simp [hx, off]
  · intro off
    obtain ⟨d, hd⟩ := Option.isSome_iff_exists.mp (Option.isSome_of_any off)
    exact ⟨d, 0, .inr (.inr ⟨z, by rw [hy, Option.bind_some, hd]; rfl⟩), by simpa [hd] using off⟩

/-- PLANT FAULT for each plant whose NEUTRAL has failed, in the order of the plants. -/
theorem startFaults_eq : startFaults sense conf.startCommands
    = (plantNumbers.filter fun p => ((slot? conf.plants p).join).any (offAtStart sense)).map fun p =>
        (NoticeBody.plantFault .commandFailed .neutral, Subject.plant p) := by
  have silent {g : Nat → Option (DeviceAddr × Nat × Issuer)} (quiet : ∀ n c, g n = some c → startFault sense c = []) (ns : List Nat) :
      startFaults sense (ns.filterMap g) = [] := by
    rw [startFaults, List.flatMap_eq_nil_iff]
    intro c hc
    obtain ⟨n, -, is⟩ := List.mem_filterMap.mp hc
    exact quiet n c is
  have plants (ns : List Nat) : startFaults sense (ns.filterMap conf.plantCommand)
      = (ns.filter fun p => ((slot? conf.plants p).join).any (offAtStart sense)).map fun p =>
          (NoticeBody.plantFault .commandFailed .neutral, Subject.plant p) := by
    induction ns with
    | nil => rfl
    | cons p ns ih =>
      cases hd : (slot? conf.plants p).join with
      | none =>
        rw [List.filterMap_cons_none (by rw [Configuration.plantCommand, hd]; rfl), List.filter_cons_of_neg (by simp [hd])]
        exact ih
      | some d =>
        rw [List.filterMap_cons_some (show conf.plantCommand p = some (d, 0, .arbiter p) by rw [Configuration.plantCommand, hd]; rfl),
          startFaults, List.flatMap_cons, ← startFaults, ih]
        cases off : offAtStart sense d with
        | true => rw [startFault_plant off, List.filter_cons_of_pos (by simp [hd, off])]; rfl
        | false => rw [startFault_on off, List.filter_cons_of_neg (by simp [hd, off])]; rfl
  have banks := silent (g := conf.bankCommand) (fun b c is => by
    obtain ⟨r, -, rfl⟩ := Option.map_eq_some_iff.mp is
    rfl) bankNumbers
  have trims := silent (g := conf.trimCommand) (fun z c is => by
    obtain ⟨r, -, trim⟩ := Option.bind_eq_some_iff.mp is
    obtain ⟨d, -, rfl⟩ := Option.map_eq_some_iff.mp trim
    rfl) zoneNumbers
  rw [conf.startCommands_eq, startFaults, List.flatMap_append, List.flatMap_append, ← startFaults, ← startFaults, ← startFaults,
    plants, banks, trims, List.append_nil, List.append_nil]

end

/-! ## The records that a start leaves -/

section
variable {u t : State} {conf : Configuration} {cause : StartCause} {lost : Bool} {sense : TermSense}

/-- A stored zone after a start, with the account record it has found. -/
theorem StoredZone.started_lost (y : StoredZone) (a : Option AccountRecord) (clk now : Nat) (off : Bool) :
    (y.started a clk now).trimLost off =
      { isOpen := (a.map (·.isOpen)).getD y.isOpen, defn := y.defn, band := y.band
        marks := (if (a.map (·.isOpen)).getD y.isOpen then [.accountGap] else []) ++ (if a = none then [.accountLost] else [])
        sampleDue := now + 10, reviewDue := now + 60, climateDue := now + 60
        account := (a.map fun a => (⟨a.dose, a.residue, a.openSeconds, a.season, none, a.saturated⟩ : Account)).getD
          ⟨0, 0, 0, none, none, false⟩
        light := ⟨y.defn.ceiling, y.defn.ceiling, .free, 0, 100, y.defn.electricLimit, true, false⟩
        climate := { rh := .unclassified, temp := .unclassified, lastSwing := none, swing := false,
                     current := ⟨clk / 3600, none, none, 0⟩, history := [],
                     trimCount := (y.band.map (·.trimAllowance)).getD 4, pulse := none,
                     trimUnavailable := off, offOwed := off, need := none, unresolved := false, demand := none }
        measure := ⟨y.bindings, none, none, none, none, false, false, false, false, ⟨false, now⟩, ⟨false, now⟩, 0⟩
        rollovers := [] } := by
  cases a <;> cases off <;> rfl

theorem Started.bank? (h : Started (u.load sense) u.store.configuration cause lost sense t) (b : Nat) :
    t.bank? b = ((slot? u.store.configuration.banks b).join).map fun y =>
      ⟨if offAtStart sense y.louvre then .faulted else .active, y.louvre, y.slew, 0, 100, u.now + 30⟩ := by
  rw [h.banks, State.load_loaded.banks, startLost_bank]
  cases (slot? u.store.configuration.banks b).join with
  | none => rfl
  | some y =>
    simp only [Option.map_some, Option.any_some]
    cases offAtStart sense y.louvre <;> rfl

theorem Started.plant? (h : Started (u.load sense) u.store.configuration cause lost sense t) (p : Nat) :
    t.plant? p = ((slot? u.store.configuration.plants p).join).map fun d =>
      { state := if offAtStart sense d then .faulted else .idle, controller := d, physical := .neutral
        commanded := .neutral, target := .neutral, service := [], waiting := [], serviceLevel := 0, arrivals := 0
        minRunDue := none, minRunElapsed := false, changeDue := none, changeExpired := false, changeAcked := false } := by
  rw [h.plants, State.load_loaded.plants, startLost_arbiter]
  cases (slot? u.store.configuration.plants p).join with
  | none => rfl
  | some d =>
    simp only [Option.map_some, Option.any_some]
    cases offAtStart sense d <;> rfl

theorem Started.line? (h : Started (u.load sense) u.store.configuration cause lost sense t) {l : Nat} (valid : validLine l = true) :
    t.line? l = some
      { state := if senseOf sense l then .active else .off, terminated := senseOf sense l
        retryLimit := (slot? u.store.configuration.retryLimits l).getD 3, hangCount := 0
        queue := startQueue sense u.store.configuration.startCommands l
        roundCounter := if senseOf sense l then 1 else 0, pollPos := 0, roundInProgress := senseOf sense l
        inFlight := none, enrolment := none, releasing := false, recoveryDue := none
        roundDue := if senseOf sense l then some (u.now + 2) else none, sent := [] } := by
  obtain ⟨r, hr⟩ := State.line?_of_validLine (s := u.load sense) valid
  rw [h.lines, hr, State.load_loaded.lines l r hr, Option.map_some]
  cases sensed : senseOf sense l <;> rfl

theorem State.load_accounts (z : Nat) : slot? (u.load sense).store.accounts z
    = if 1 ≤ z ∧ z ≤ 16 then some (u.store.accountOf z) else none := slot?_tableOf u.store.accountOf z

theorem Started.undefined (h : Started (u.load sense) u.store.configuration cause lost sense t) {z : Nat} (valid : validZone z = true)
    (unset : (slot? u.store.configuration.zones z).join = none) : t.zone? z = none ∧ slot? t.store.accounts z = some none := by
  refine ⟨by rw [h.zones, State.load_zones, unset]; rfl, ?_⟩
  rw [h.blocks.store, State.load_accounts, if_pos ((validZone_iff z).mp valid), Store.accountOf, unset]
  rfl

theorem Started.zone (h : Started (u.load sense) u.store.configuration cause lost sense t) {z : Nat} {y : StoredZone}
    (hy : (slot? u.store.configuration.zones z).join = some y) :
    ∃ a, slot? u.store.accounts z = some a ∧ slot? t.store.accounts z = some a
      ∧ t.zone? z = some ((y.started a u.store.clock u.now).trimLost (y.defn.trim.any (offAtStart sense))) := by
  have valid : 1 ≤ z ∧ z ≤ 16 := (slot?_isSome u.store.configuration.zones z).mp (by rw [Option.join_eq_some_iff.mp hy]; rfl)
  obtain ⟨a, ha⟩ := Option.isSome_iff_exists.mp ((slot?_isSome u.store.accounts z).mpr valid)
  have found : u.store.accountOf z = a := by
    rw [Store.accountOf, hy, ha]
    rfl
  refine ⟨a, ha, ?_, ?_⟩
  · rw [h.blocks.store, State.load_accounts, if_pos valid, found]
  · rw [h.zones, State.load_zones, hy, startLost_tracker hy, slot?_tableOf, if_pos valid, Option.join_some, found]
    rfl

/-- The notices of a start, by the part that it leaves. -/
theorem Started.startNotices (h : Started (u.load sense) u.store.configuration cause lost sense t) :
    t.startNotices cause lost = (.start cause lost, .none) :: (u.load sense).markNotices
      ++ startFaults sense u.store.configuration.startCommands := by
  have marks : t.markNotices = (u.load sense).markNotices := by
    refine State.markNotices_congr fun z => ?_
    rw [h.zones]
    cases (u.load sense).zone? z with
    | none => rfl
    | some r => cases startLost sense u.store.configuration.startCommands (.tracker z) <;> rfl
  have faulted (p : Nat) : ((t.plant? p).any fun y => y.state == .faulted)
      = ((slot? u.store.configuration.plants p).join).any (offAtStart sense) := by
    rw [h.plant?]
    cases (slot? u.store.configuration.plants p).join with
    | none => rfl
    | some d =>
      simp only [Option.map_some, Option.any_some]
      cases offAtStart sense d <;> rfl
  rw [State.startNotices, startFaults_eq, ← marks]
  simp only [faulted]
  rfl

theorem Started.frame (h : Started (u.load sense) u.store.configuration cause lost sense t) (powered : u.powered = true)
    (resetHigh : u.resetLow = false) : t = { u with
      powered := true, resetLow := false, restarting := none, clock := u.store.clock, synced := false, zones := t.zones
      banks := t.banks, plants := t.plants, lines := t.lines, notices := t.notices, report := u.store.configuration.report
      devices := u.store.configuration.devices.map fun d => ⟨d.line, d.address, d.kind, .enrolled, 0, none, none, none, none, false⟩
      alarm := t.alarm, pulsing := t.pulsing, link := ⟨none, [], [], none⟩, store := t.store
      configChanged := u.store.config.isNone, checkpoint := none, checkpointDue := u.now + 900, freeIx := t.freeIx } := by
  have frame := h.blocks.eq
  have on : (u.load sense).powered = true := powered
  have high : (u.load sense).resetLow = false := resetHigh
  rw [h.devices, on, high, ← h.blocks.store, ← h.blocks.freeIx] at frame
  exact frame

theorem State.startSequence_alarm (u : State) (cause : StartCause) (sense : TermSense) :
    (u.startSequence cause sense).alarmRight ∧ (u.startSequence cause sense).pulseRight := by
  obtain ⟨v, first, rest⟩ := u.startSequence_writes (w := ⟨True, False, False, False⟩) cause sense
  have loaded : (u.load sense).pulseRight := fun _ => rfl
  have followed := Writes.followAlarm (w := ⟨True, False, False, False⟩) v
  exact ⟨rest.alarmRight trivial v.followAlarm_alarmRight, rest.pulseRight (followed.pulseRight (first.pulseRight loaded))⟩

/-- The start of a running part leaves what R172 and R173 say. -/
theorem State.startSequence_from (powered : u.powered = true) (resetHigh : u.resetLow = false) :
    StartedFrom u u.store cause sense (u.startSequence cause sense) := by
  have h := u.startSequence_started cause sense
  obtain ⟨right, calm⟩ := u.startSequence_alarm cause sense
  generalize u.startSequence cause sense = t at h right calm
  have running : t.running = true := by
    rw [h.blocks.running]
    show (u.powered && !u.resetLow) = true
    rw [powered, resetHigh]
    rfl
  have report : t.report = u.store.configuration.report := h.blocks.report
  refine ⟨u.store.configuration, u.store.clock, fun c hc => ?_, fun lost => ?_, ?_, ?_, fun z valid unset => h.undefined valid unset,
    fun z y hy => ?_, h.bank?, h.plant?, fun l valid => h.line? valid, ?_, fun level => ⟨?_, ?_⟩, fun pulse reaches => ?_⟩
  · simp [Store.configuration, Store.clock, hc]
  · simp [Store.configuration, Store.clock, lost]
  · exact h.frame powered resetHigh
  · rw [h.blocks.store]
    rfl
  · obtain ⟨a, ha, kept, zone⟩ := h.zone hy
    refine ⟨kept.trans ha.symm, a, _, ha, rfl, zone.trans ?_⟩
    rw [StoredZone.started_lost]
    cases a <;> rfl
  · rw [h.startNotices, h.notices]
    exact (State.afterOffers_append (t := { t with notices := [] }) (s := u.load sense) (a := []) rfl h.blocks.report
      h.blocks.clock).symm
  · exact right running (by rw [report]; exact level)
  · exact calm (by rw [report]; exact level)
  · exact h.asserted pulse reaches

end

/-! ## How a start begins -/

section
variable {s u t : State} {st : Store} {cause : StartCause} {sense : TermSense}

/-- What a start leaves depends on the state in which it begins by the time base and the commands that wait alone. -/
theorem StartedFrom.of (h : StartedFrom u st cause sense t) (now : u.now = s.now) (pending : u.pending = s.pending) :
    StartedFrom s st cause sense t := by
  unfold StartedFrom at h ⊢
  rw [now, pending] at h
  exact h

theorem State.cutWrite_idle (idle : s.checkpoint = none) : s.cutWrite = s := by
  rw [State.cutWrite, idle]

theorem State.cutWrite_store {w : Checkpoint} (flies : s.checkpoint = some w) :
    s.cutWrite.store ∈ [s.store, s.store.put w.writing true] := by
  rw [State.cutWrite, flies]
  show (if _ then _ else _) ∈ _
  split <;> simp

theorem State.cutWrite_keeps (s : State) : s.cutWrite.powered = s.powered ∧ s.cutWrite.resetLow = s.resetLow
    ∧ s.cutWrite.now = s.now ∧ s.cutWrite.pending = s.pending := by
  unfold State.cutWrite
  split <;> exact ⟨rfl, rfl, rfl, rfl⟩

theorem State.restartIfReady_ready {r : Restart} (restarts : s.restarting = some r) (done : r.checkpointDone = true)
    (sent : r.replySent = true) : s.restartIfReady sense = s.cutWrite.startSequence .restart sense := by
  rw [State.restartIfReady, restarts]
  exact if_pos (by rw [done, sent]; rfl)

theorem State.chooseFrame_intake (s : State) : s.chooseFrame.link.intake = s.link.intake := by
  unfold State.chooseFrame State.sendReply State.sendNotice
  repeat' split
  all_goals rfl

/-- The output of a part with a fresh link takes up what the start has offered. -/
theorem State.chooseFrame_fresh (fresh : t.link = Link.fresh) : t.chooseFrame.serveSome = t.feedOutput := by
  have intake : t.chooseFrame.link.intake = [] := by rw [State.chooseFrame_intake, fresh]; rfl
  rw [State.serveSome_nil intake, State.feedOutput_idle (by rw [fresh]; rfl) (.inl (by rw [fresh]; rfl))]

end

end Sys2Proof.Machine

namespace Sys2Proof.Proofs

open Sys2Proof Sys2Proof.Machine

/-- Settles O6: each of the four beginnings is the start sequence of a running part with the store found, `State.startSequence_from`. -/
theorem startLoadsStore : Obligations.StartLoadsStore := by
  intro c s cause sense found begins
  rcases begins with ⟨rfl, off, high, rfl, rfl⟩ | ⟨rfl, on, low, rfl, rfl⟩ | ⟨rfl, running, rfl, ⟨o, r, sends, reply, restarts, done⟩, idle, busy⟩
    | ⟨running, rfl, agrees, r, w, rfl, restarts, sent, flies, full, last, rfl⟩
  · let u : State := { s with powered := true, alarm := false }
    refine ⟨s.store, List.mem_singleton_self _, u.startSequence .powerOn sense, ?_, (u.startSequence_from rfl high).of rfl rfl⟩
    show Host.Outcome.next (s.supplyReturns sense) = _
    simp [State.supplyReturns, off, high, u]
  · let u : State := { s with resetLow := false }
    refine ⟨s.store, List.mem_singleton_self _, u.startSequence .resetInput sense, ?_, (u.startSequence_from on rfl).of rfl rfl⟩
    show Host.Outcome.next (s.resetReleased sense) = _
    simp [State.resetReleased, on, low, u]
  · obtain ⟨powered, high⟩ := Bool.and_eq_true_iff.mp running
    obtain ⟨keepsOn, keepsHigh, keepsNow, keepsPending⟩ := (s.replySent r).cutWrite_keeps
    have started := (s.replySent r).cutWrite.startSequence_from (cause := .restart) (sense := sense) (keepsOn.trans powered)
      (keepsHigh.trans ((Bool.not_eq_true' _).mp high))
    refine ⟨(s.replySent r).cutWrite.store, ?_, (s.replySent r).cutWrite.startSequence .restart sense, ?_,
      started.of keepsNow keepsPending⟩
    · rcases Option.eq_none_or_eq_some s.checkpoint with none | ⟨w, flies⟩
      · rw [idle none, State.cutWrite_idle (s := s.replySent r) none]
        exact List.mem_singleton_self _
      · rw [busy w flies]
        exact State.cutWrite_store (s := s.replySent r) flies
    · show Host.Outcome.next (if s.running then s.frameSent sense else s) = _
      rw [running, ← State.chooseFrame_fresh (State.startSequence_link _ _ _),
        ← State.restartIfReady_ready (s := s.replySent r) (r := { r with replySent := true }) rfl done rfl,
        ← State.frameSent_noted restarts sends reply]
      rfl
  · obtain ⟨powered, high⟩ := Bool.and_eq_true_iff.mp running
    have read := State.readBack_written (s := s) w.writing agrees
    have restarting : (s.readBack w.writing agrees).restarting = some r := by rw [State.readBack_frame]; exact restarts
    have ended := State.endWrite_last flies agrees last
    have store := State.endWrite_store flies agrees
    have written := (State.endWrite_written flies agrees).eq
    rw [full, State.completeCheckpoint_full restarting] at ended
    have noted : (s.endWrite agrees).restarting = some { r with checkpointDone := true } := by rw [ended]
    have idle : (s.endWrite agrees).checkpoint = none := by
      rw [ended]
      exact (State.offer_blocks ..).checkpoint
    have starts : (s.endWrite agrees).restartIfReady sense = (s.endWrite agrees).startSequence .restart sense := by
      rw [State.restartIfReady_ready noted rfl sent, State.cutWrite_idle idle]
    have on : (s.endWrite agrees).powered = true := by rw [written]; exact powered
    have up : (s.endWrite agrees).resetLow = false := by rw [written]; exact (Bool.not_eq_true' _).mp high
    have started := State.startSequence_from (cause := .restart) (sense := sense) on up
    rw [store] at started
    exact ⟨_, List.mem_singleton_self _, (s.endWrite agrees).startSequence .restart sense,
      happens_event (work := fun s => (s.endWrite agrees).restartIfReady sense) rfl running starts,
      started.of (by rw [written]) (by rw [written])⟩

end Sys2Proof.Proofs
end

section
/-! PROOFS. A power-on without a configuration record that passes its check (O5). -/

namespace Sys2Proof.Machine

section
variable {α : Type} {n : Nat}

/-- A table with no record in any place. -/
theorem eq_replicate_none {v : Vector (Option α) n} (empty : ∀ k, 1 ≤ k → k ≤ n → (slot? v k).join = none) :
    v = Vector.replicate n none := by
  refine slot?_ext _ _ fun k => ?_
  rw [slot?_replicate]
  by_cases valid : 1 ≤ k ∧ k ≤ n
  · obtain ⟨a, ha⟩ := Option.isSome_iff_exists.mp ((slot?_isSome v k).mpr valid)
    have unset := empty k valid.1 valid.2
    rw [ha] at unset
    rw [ha, if_pos valid, show a = none from unset]
  · rw [if_neg valid]
    exact Option.eq_none_iff_forall_ne_some.mpr fun a ha => valid ((slot?_isSome v k).mp (by rw [ha]; rfl))

end

/-! ## A start that finds no configuration (R172) -/

/-- The lines of a first start, as the levels are sensed. -/
def firstLines (sense : TermSense) (now : Nat) : Vector Line 2 :=
  tableOf 2 fun l => if senseOf sense l then { State.resetLine with roundDue := some (now + 2) } else Line.started false 3

section
variable {u t : State} {sense : TermSense}

theorem Store.configuration_lost {st : Store} (none : st.config = Option.none) : st.configuration = Configuration.lost := by
  rw [Store.configuration, none]
  rfl

theorem Configuration.lost_commands : Configuration.lost.startCommands = [] := by
  refine List.eq_nil_iff_forall_not_mem.mpr fun c hc => ?_
  rcases (Configuration.mem_startCommands c).mp hc with ⟨k, hk⟩ | ⟨k, hk⟩ | ⟨k, hk⟩
  · rw [Configuration.plantCommand, Configuration.lost, slot?_replicate_none] at hk
    cases hk
  · rw [Configuration.bankCommand, Configuration.lost, slot?_replicate_none] at hk
    cases hk
  · rw [Configuration.trimCommand, Configuration.lost, slot?_replicate_none] at hk
    cases hk

theorem State.markNotices_nil {s : State} (undefined : ∀ z, s.zone? z = Option.none) : s.markNotices = [] := by
  rw [State.markNotices, List.flatMap_eq_nil_iff]
  rintro ⟨z, r⟩ defined
  rw [State.mem_definedZones, undefined] at defined
  cases defined

theorem Started.lines_eq (h : Started (u.load sense) u.store.configuration .powerOn u.store.config.isNone sense t)
    (none : u.store.config = Option.none) : t.lines = firstLines sense u.now := by
  refine slot?_ext _ _ fun l => ?_
  rw [firstLines, slot?_tableOf]
  by_cases valid : 1 ≤ l ∧ l ≤ 2
  · have limit : (slot? Configuration.lost.retryLimits l).getD 3 = 3 := by
      rw [Configuration.lost, slot?_replicate, if_pos valid]
      rfl
    have queue : startQueue sense Configuration.lost.startCommands l = [] := by
      rw [Configuration.lost_commands, startQueue]
      split <;> rfl
    rw [if_pos valid]
    refine (h.line? ((validLine_iff l).mpr valid)).trans (congrArg some ?_)
    rw [Store.configuration_lost none, limit, queue]
    cases senseOf sense l <;> rfl
  · rw [if_neg valid]
    exact Option.eq_none_iff_forall_ne_some.mpr fun a ha => valid ((slot?_isSome t.lines l).mp (by rw [ha]; rfl))

theorem firstLines_enabled {now l : Nat} {r : Line} (hr : slot? (firstLines sense now) l = some r) : r.state ≠ .disabled := by
  rw [firstLines, slot?_tableOf] at hr
  split at hr
  · cases hr
    split <;> exact fun h => nomatch h
  · cases hr

/-- The part of a first start: nothing is defined, and START alone is to be sent. -/
theorem Started.first (h : Started (u.load sense) u.store.configuration .powerOn u.store.config.isNone sense t)
    (none : u.store.config = Option.none) (powered : u.powered = true) (high : u.resetLow = false)
    (right : t.alarmRight) (calm : t.pulseRight) :
    t = { State.reset with
      now := u.now, freeIx := u.freeIx, pending := u.pending, checkpointDue := u.now + 900, lines := firstLines sense u.now
      notices := [⟨.start .powerOn true, .none, 0⟩], link := Link.fresh } := by
  have lost := Store.configuration_lost none
  have zones : t.zones = Vector.replicate 16 Option.none := eq_replicate_none fun z low top => by
    have unset : (slot? u.store.configuration.zones z).join = Option.none := by rw [lost]; exact slot?_replicate_none 16 z
    exact (h.undefined ((validZone_iff z).mpr ⟨low, top⟩) unset).1
  have accounts : t.store.accounts = Vector.replicate 16 Option.none := eq_replicate_none fun z low top => by
    have unset : (slot? u.store.configuration.zones z).join = Option.none := by rw [lost]; exact slot?_replicate_none 16 z
    rw [(h.undefined ((validZone_iff z).mpr ⟨low, top⟩) unset).2]
    rfl
  have banks : t.banks = Vector.replicate 8 Option.none := eq_replicate_none fun b _ _ => by
    have unset : (slot? u.store.configuration.banks b).join = Option.none := by rw [lost]; exact slot?_replicate_none 8 b
    exact (h.bank? b).trans (by rw [unset]; rfl)
  have plants : t.plants = Vector.replicate 2 Option.none := eq_replicate_none fun p _ _ => by
    have unset : (slot? u.store.configuration.plants p).join = Option.none := by rw [lost]; exact slot?_replicate_none 2 p
    exact (h.plant? p).trans (by rw [unset]; rfl)
  have zone (z : Nat) : t.zone? z = Option.none := by rw [State.zone?, zones]; exact slot?_replicate_none 16 z
  have lines := h.lines_eq none
  have loadedZone (z : Nat) : (u.load sense).zone? z = Option.none := by
    rw [State.load_zones, lost, Configuration.lost]
    exact Option.map_eq_none_iff.mpr (slot?_replicate_none 16 z)
  have report : (u.load sense).report = ⟨2, 6, .level⟩ := (show _ = u.store.configuration.report from rfl).trans (by rw [lost]; rfl)
  have notices : t.notices = [⟨.start .powerOn true, .none, 0⟩] := by
    have faults : startFaults sense u.store.configuration.startCommands = [] := by rw [lost, Configuration.lost_commands]; rfl
    have clock : (u.load sense).clock = 0 := (show _ = u.store.clock from rfl).trans (by rw [Store.clock, none]; rfl)
    have empty : (u.load sense).notices = [] := rfl
    rw [h.notices, State.markNotices_nil loadedZone, faults, List.append_nil,
      State.afterOffers_room _ (by rw [report]; exact of_decide_eq_true rfl) (by rw [empty]; exact Nat.zero_lt_succ _), empty, clock, none]
    rfl
  have level : t.report = ⟨2, 6, .level⟩ := h.blocks.report.trans report
  have alarm : t.alarm = false := by
    have running : t.running = true := by
      rw [h.blocks.running]
      show (u.powered && !u.resetLow) = true
      rw [powered, high]
      rfl
    rw [right running (by rw [level]), Bool.eq_false_iff, Ne, State.alarmCondition_iff]
    rintro (⟨z, r, m, hr, -⟩ | ⟨-, ⟨l, r, hr, down⟩ | ⟨p, r, hr, -⟩⟩)
    · exact nomatch (zone z).symm.trans hr
    · rw [State.line?, lines] at hr
      exact firstLines_enabled hr down
    · rw [State.plant?, plants, slot?_replicate_none] at hr
      cases hr
  have pulsing : t.pulsing = false := calm (by rw [level])
  have store : t.store = ⟨Option.none, Vector.replicate 16 Option.none⟩ := by
    have config : t.store.config = Option.none := (congrArg Store.config h.blocks.store).trans none
    rw [← accounts, ← config]
  have frame := h.frame powered high
  have clock : u.store.clock = 0 := by rw [Store.clock, none]; rfl
  rw [zones, banks, plants, lines, notices, alarm, pulsing, store, h.blocks.freeIx, lost, clock, none] at frame
  exact frame

end

end Sys2Proof.Machine

namespace Sys2Proof.Proofs

open Sys2Proof Sys2Proof.Machine

/-- Settles O5: the part of a first start by `Started.first`, whose idle output takes up START. -/
theorem powerOnWithoutConfiguration : Obligations.PowerOnWithoutConfiguration := by
  intro s sense off high none
  let u : State := { s with powered := true, alarm := false }
  obtain ⟨right, calm⟩ := u.startSequence_alarm .powerOn sense
  have first := (u.startSequence_started .powerOn sense).first none rfl high right calm
  have begins : exec (.powerOn sense) s = .next (u.startSequence .powerOn sense).feedOutput := by
    show Host.Outcome.next (s.supplyReturns sense) = _
    simp [State.supplyReturns, off, high, u]
  rw [begins, first, State.feedOutput_idle rfl (.inl rfl), State.chooseFrame_notice rfl, State.sendNotice_some rfl, startFrame_wire]
  rfl

end Sys2Proof.Proofs
end
